-- ==== Sys2Proof/Config.lean ====
section
/-!
DEFINITION. Sys2Proof/Config.lean: the fixed sizes the manual gives the part, and the free values: what the manual
leaves open where the part goes on (log 6, log 7).
-/

namespace Sys2Proof

/-- Greatest volume: volumes are 0 to 4,294,967,295 cu ft (00_scope.md, Volumes; R151, R159, R168). -/
def Config.maxVolume : Nat := 4294967295

/-- The notice queue holds at most 32 notices (R185). -/
def Config.noticePlaces : Nat := 32

/-- The move queue holds at most 16 entries (R63). -/
def Config.queuePlaces : Nat := 16

/-- At most 8 entries of the move queue are of CHANNEL or MANUAL class (R63). -/
def Config.limitedPlaces : Nat := 8

/-- The day book holds at most 64 slots (R158). -/
def Config.bookPlaces : Nat := 64

/-- Where a 16-bit count stands once it reaches it: link errors (R178), dropped notices (R185). -/
def Config.countStop : Nat := 65535

/-- The limit of a SAVE SETTINGS write, in seconds (R199, R200). -/
def Config.writeLimit : Nat := 2

/-- How many words between blocks one step handles before it leaves the rest in the state (log 4). The longest event
the manual's bounds allow (two chains of 32 orders, 20 valves, 16 queue entries, 4 holders, 6 districts) is far
shorter. -/
def Config.eventWords : Nat := 4096

/-- FREE VALUE (log 7). What a reply carries in the four bytes of a volume (R182) when the volume is above
4,294,967,295: the manual states no value. -/
opaque Config.wideVolume : Nat → Nat

/-- FREE VALUE (log 7). What a reply carries in two bytes of seconds or count (R182) when the figure is above
65,535: the manual states no value. -/
opaque Config.wideCount : Nat → Nat

/-- FREE VALUE (log 7). What DISTRICT WARN carries for a lower band end that is below 0 (R138, R142): the manual
gives a pressure two unsigned bytes and states no value. -/
opaque Config.lowBandEnd : Int → Nat

/-- FREE VALUE (log 6). Which of two waiting channels asks first, at the n-th such meeting: true for A (R83 leaves
the order open). -/
opaque Config.channelAFirst : Nat → Bool

end Sys2Proof
end

