-- ==== Sys2Proof/Word.lean ====
section
/-!
DEFINITION. Sys2Proof/Word.lean: the byte of the serial line and the two-valued names shared by the blocks.
Volumes, pressures, times and counts are numbers the part adds and compares, so they are Nat (or Int where the manual
says signed); bit vectors hold only the bytes of the line (10_the_link_and_its_records.md, R176).
-/

namespace Sys2Proof

/-- One character of the serial line: 8 data bits (R176). -/
abbrev Byte := BitVec 8

/-- The two letters by which the manual names the transfer channels (A, B) and the accumulation halves (A, B). -/
inductive AB where
  | a
  | b
deriving DecidableEq, Repr

/-- The other of the two. -/
def AB.other : AB → AB
  | .a => .b
  | .b => .a

/-- A record for each of A and B. -/
structure Pair (α : Type) where
  a : α
  b : α
deriving DecidableEq, Repr

/-- The record of one of the two. -/
def Pair.get {α : Type} (p : Pair α) : AB → α
  | .a => p.a
  | .b => p.b

/-- The pair with the record of one of the two replaced. -/
def Pair.put {α : Type} (p : Pair α) (i : AB) (x : α) : Pair α :=
  match i with
  | .a => { p with a := x }
  | .b => { p with b := x }

@[simp] theorem Pair.get_put_same {α : Type} (p : Pair α) (i : AB) (x : α) : (p.put i x).get i = x := by
  cases i <;> rfl

@[simp] theorem Pair.get_put_other {α : Type} (p : Pair α) (i : AB) (x : α) :
    (p.put i x).get i.other = p.get i.other := by
  cases i <;> rfl

end Sys2Proof
end

