-- ==== Sys2Proof/Syntax.lean ====
section
/-!
DEFINITION. Sys2Proof/Syntax.lean: the commands the part takes, one constructor for each row of
spec/opcode_table.json, and the names of the plant they carry (00_scope.md, Valve numbers and names, Meter numbers).
A request of the office carries its tag and the bytes of its body as they stood in the good frame (R177, R179): what the
bytes say is read by the request's meaning (R182).
-/

namespace Sys2Proof

/-- A holder H1 to H4, counted from 0. -/
abbrev HolderId := Fin 4
/-- A source of make S1 to S4, counted from 0. -/
abbrev SourceId := Fin 4
/-- A physical outlet P1 to P6, counted from 0. -/
abbrev OutletId := Fin 6
/-- A logical district D1 to D6, counted from 0. -/
abbrev DistrictId := Fin 6
/-- A valve 1 to 20, counted from 0. -/
abbrev ValveId := Fin 20
/-- A meter M1 to M11, counted from 0. -/
abbrev MeterId := Fin 11
/-- A slot of the order table, 0 to 31. -/
abbrev OrderId := Fin 32
/-- A supply entry 1 to 8, counted from 0. -/
abbrev EntryId := Fin 8
/-- A transfer channel, A or B. -/
abbrev ChannelId := AB
/-- An accumulation half, A or B. -/
abbrev HalfId := AB

/-- The two ends of a valve's travel: its limit switches, and the targets of a move (R5, R61). -/
inductive Limit where
  | opened
  | closed
deriving DecidableEq, Repr

/-- How the store ends a write (R200): the read-back agrees and the bank's check holds; they differ; the store has
not finished within 2 s. -/
inductive WriteEnd where
  | good
  | mismatch
  | timeout
deriving DecidableEq, Repr

/-- In which order the two effects of a yard stop assertion are taken (R6 allows either; log 10). -/
inductive StopOrder where
  | closesFirst
  | channelsFirst
deriving DecidableEq, Repr

/-- What a power-on reset finds outside the part: the straps (R176), whether each bank's check holds (R192), whether
the clock's check holds and the seconds it kept counting without power (R11), whether the account unit's check holds
(R172), the yard stop line (R7), and the limit switches as they stand, bit v for valve number v + 1 (R5). -/
structure PowerUp where
  strap1Made : Bool
  strap2Made : Bool
  strap3Made : Bool
  bank1Holds : Bool
  bank2Holds : Bool
  clockHolds : Bool
  secondsOff : Nat
  bookHolds : Bool
  stopAsserted : Bool
  openMade : BitVec 20
  closedMade : BitVec 20
deriving DecidableEq, Repr

/-- The commands: one constructor for each row of spec/opcode_table.json, in the table's order. -/
inductive Instr where
  | powerOnReset (p : PowerUp)
  | identify (tag : Byte) (body : List Byte)
  | yardStatus (tag : Byte) (body : List Byte)
  | start (tag : Byte) (body : List Byte)
  | stop (tag : Byte) (body : List Byte)
  | freeze (tag : Byte) (body : List Byte)
  | saveSettings (tag : Byte) (body : List Byte)
  | setClock (tag : Byte) (body : List Byte)
  | setHolder (tag : Byte) (body : List Byte)
  | readHolder (tag : Byte) (body : List Byte)
  | isolateHolder (tag : Byte) (body : List Byte)
  | returnHolder (tag : Byte) (body : List Byte)
  | clearHolderFault (tag : Byte) (body : List Byte)
  | setLadder (tag : Byte) (body : List Byte)
  | releaseReserve (tag : Byte) (body : List Byte)
  | withdrawRelease (tag : Byte) (body : List Byte)
  | setSupplyEntry (tag : Byte) (body : List Byte)
  | setDwell (tag : Byte) (body : List Byte)
  | readSendOut (tag : Byte) (body : List Byte)
  | setValve (tag : Byte) (body : List Byte)
  | moveValve (tag : Byte) (body : List Byte)
  | readValve (tag : Byte) (body : List Byte)
  | clearValveFault (tag : Byte) (body : List Byte)
  | loadOrder (tag : Byte) (body : List Byte)
  | linkOrder (tag : Byte) (body : List Byte)
  | clearOrder (tag : Byte) (body : List Byte)
  | readOrder (tag : Byte) (body : List Byte)
  | startChain (tag : Byte) (body : List Byte)
  | stopChannelAfter (tag : Byte) (body : List Byte)
  | stopChannelAtOnce (tag : Byte) (body : List Byte)
  | hold (tag : Byte) (body : List Byte)
  | resume (tag : Byte) (body : List Byte)
  | readChannel (tag : Byte) (body : List Byte)
  | setChannel (tag : Byte) (body : List Byte)
  | setOutletMap (tag : Byte) (body : List Byte)
  | setDistrict (tag : Byte) (body : List Byte)
  | setSchedule (tag : Byte) (body : List Byte)
  | openDistrict (tag : Byte) (body : List Byte)
  | shutDistrict (tag : Byte) (body : List Byte)
  | holdSetpoint (tag : Byte) (body : List Byte)
  | releaseSetpoint (tag : Byte) (body : List Byte)
  | readDistrict (tag : Byte) (body : List Byte)
  | setMeter (tag : Byte) (body : List Byte)
  | setContract (tag : Byte) (body : List Byte)
  | setDiscrepancy (tag : Byte) (body : List Byte)
  | readLive (tag : Byte) (body : List Byte)
  | readSlot (tag : Byte) (body : List Byte)
  | amendSlot (tag : Byte) (body : List Byte)
  | closeDay (tag : Byte) (body : List Byte)
  | readStatement (tag : Byte) (body : List Byte)
  /-- A good frame whose kind is not a request code (R179). -/
  | unknownKind (kind : Byte) (tag : Byte) (body : List Byte)
  /-- A received frame whose check fails or whose length is above 240 (R177). -/
  | frameCheckFailed
  /-- A character whose stop bit is at space (R176); `received` holds the characters taken since the receiver last
  began to hunt (log 13). -/
  | framingError (received : List Byte)
  | linkBreak
  | frameSent
  | meterPulse (m : MeterId)
  | liftReading (h : HolderId) (content : BitVec 32)
  | pressureSample (p : OutletId) (value : Fin 1000)
  | limitSwitch (v : ValveId) (which : Limit)
  | limitSwitchBreak (v : ValveId) (which : Limit)
  | yardStopAssertion (order : StopOrder)
  | yardStopRelease
  | clockTick
  | changeOfMinute
  | intervalBoundary
  | liftSilenceExpiry (h : HolderId)
  | travelTimerExpiry
  | dwellExpiry
  | releaseExpired
  | pathTimeout (c : ChannelId)
  | timeLimit (c : ChannelId)
  | waitDurationExpiry (c : ChannelId)
  | settleLockoutExpiry (d : DistrictId)
  | qualifyExpiry (d : DistrictId)
  | repeatWindowExpiry (d : DistrictId)
  | saveWriteEnd (result : WriteEnd)
deriving DecidableEq, Repr

end Sys2Proof
end

