-- ==== Sys2Proof/WellFormed.lean ====
section
/-!
DEFINITION. Sys2Proof/WellFormed.lean: which commands can stand for something the part receives. The numbers of plant
lines are bounded by their types; what is left are the bounds the frame layout puts on a request (R177, R179, R181).
-/

namespace Sys2Proof

/-- A body is 0 to 240 bytes (R177). -/
def bodyFits (body : List Byte) : Bool := decide (body.length ≤ 240)

/-- The kinds that are request codes: 01h to 30h (R181). -/
def isRequestCode (kind : Byte) : Bool := decide (1 ≤ kind.toNat ∧ kind.toNat ≤ 48)

/-- Whether the second byte of a STOP CHANNEL body is the place of AT ONCE in the list of modes (R101, R182). -/
def namesAtOnce (body : List Byte) : Bool := decide (body[1]? = some 2#8)

/-- A command is well formed when a good frame, a line event or an arrival can stand behind it. -/
def Instr.wellFormed : Instr → Bool
  | .powerOnReset _ => true
  | .identify _ b | .yardStatus _ b | .start _ b | .stop _ b | .freeze _ b | .saveSettings _ b | .setClock _ b
  | .setHolder _ b | .readHolder _ b | .isolateHolder _ b | .returnHolder _ b | .clearHolderFault _ b
  | .setLadder _ b | .releaseReserve _ b | .withdrawRelease _ b | .setSupplyEntry _ b | .setDwell _ b
  | .readSendOut _ b | .setValve _ b | .moveValve _ b | .readValve _ b | .clearValveFault _ b | .loadOrder _ b
  | .linkOrder _ b | .clearOrder _ b | .readOrder _ b | .startChain _ b => bodyFits b
  | .stopChannelAfter _ b => bodyFits b && !namesAtOnce b
  | .stopChannelAtOnce _ b => bodyFits b && namesAtOnce b
  | .hold _ b | .resume _ b | .readChannel _ b | .setChannel _ b | .setOutletMap _ b | .setDistrict _ b
  | .setSchedule _ b | .openDistrict _ b | .shutDistrict _ b | .holdSetpoint _ b | .releaseSetpoint _ b
  | .readDistrict _ b | .setMeter _ b | .setContract _ b | .setDiscrepancy _ b | .readLive _ b | .readSlot _ b
  | .amendSlot _ b | .closeDay _ b | .readStatement _ b => bodyFits b
  | .unknownKind kind _ b => bodyFits b && !isRequestCode kind
  | .frameCheckFailed | .framingError _ | .linkBreak | .frameSent => true
  | .meterPulse _ | .liftReading _ _ | .pressureSample _ _ | .limitSwitch _ _ | .limitSwitchBreak _ _ => true
  | .yardStopAssertion _ | .yardStopRelease => true
  | .clockTick | .changeOfMinute | .intervalBoundary => true
  | .liftSilenceExpiry _ | .travelTimerExpiry | .dwellExpiry | .releaseExpired | .pathTimeout _ | .timeLimit _
  | .waitDurationExpiry _ | .settleLockoutExpiry _ | .qualifyExpiry _ | .repeatWindowExpiry _ | .saveWriteEnd _ =>
    true

end Sys2Proof
end

