-- ==== Sys2Proof/Decode.lean ====
section
/-!
DEFINITION. Sys2Proof/Decode.lean: what a word of the table decodes to (no row gives bits), the frame of the serial line
(R177), the catalogue of request codes (R181), the frame a request travels in and the command a received frame stands
for, and the receiver's hunt for frames (R176, R177).
-/

namespace Sys2Proof

/-- No row of spec/opcode_table.json gives bits, so no word spells a command. -/
def decodeTableWord (_nbits _w : Nat) : Option Instr := none

/-- The lead byte of every frame (R177, frame layout). -/
def leadByte : Byte := 0xA5#8

/-- A frame of the line without its lead, length and check: kind, tag and body (R177). -/
structure Frame where
  kind : Byte
  tag : Byte
  body : List Byte
deriving DecidableEq, Repr

/-- The sum of a list of bytes as whole numbers. -/
def byteSum : List Byte → Nat
  | [] => 0
  | b :: bs => b.toNat + byteSum bs

/-- The byte of a number below 256; greater numbers lose their higher part. -/
def toByte (n : Nat) : Byte := BitVec.ofNat 8 n

/-- Two bytes, high byte first (R182). -/
def be2 (n : Nat) : List Byte := [toByte (n / 256), toByte n]

/-- Four bytes, high byte first (R182). -/
def be4 (n : Nat) : List Byte := [toByte (n / 16777216), toByte (n / 65536), toByte (n / 256), toByte n]

/-- The number in a list of bytes, high byte first (R182). -/
def ofBytes (bs : List Byte) : Nat := bs.foldl (fun n b => 256 * n + b.toNat) 0

/-- The check of a frame: the sum modulo 65,536 of the bytes of length, kind, tag and body (R177). -/
def Frame.check (f : Frame) : Nat :=
  (f.body.length + f.kind.toNat + f.tag.toNat + byteSum f.body) % 65536

/-- The bytes of a frame as they stand on the line (frame layout of R177). -/
def Frame.bytes (f : Frame) : List Byte :=
  [leadByte, toByte f.body.length, f.kind, f.tag] ++ f.body ++ be2 f.check

/-- The request code of a command that is a request (R181); both rows of STOP CHANNEL have the code 1Ch. -/
def Instr.requestCode : Instr → Option Nat
  | .identify _ _ => some 1
  | .yardStatus _ _ => some 2
  | .start _ _ => some 3
  | .stop _ _ => some 4
  | .freeze _ _ => some 5
  | .saveSettings _ _ => some 6
  | .setClock _ _ => some 7
  | .setHolder _ _ => some 8
  | .readHolder _ _ => some 9
  | .isolateHolder _ _ => some 10
  | .returnHolder _ _ => some 11
  | .clearHolderFault _ _ => some 12
  | .setLadder _ _ => some 13
  | .releaseReserve _ _ => some 14
  | .withdrawRelease _ _ => some 15
  | .setSupplyEntry _ _ => some 16
  | .setDwell _ _ => some 17
  | .readSendOut _ _ => some 18
  | .setValve _ _ => some 19
  | .moveValve _ _ => some 20
  | .readValve _ _ => some 21
  | .clearValveFault _ _ => some 22
  | .loadOrder _ _ => some 23
  | .linkOrder _ _ => some 24
  | .clearOrder _ _ => some 25
  | .readOrder _ _ => some 26
  | .startChain _ _ => some 27
  | .stopChannelAfter _ _ => some 28
  | .stopChannelAtOnce _ _ => some 28
  | .hold _ _ => some 29
  | .resume _ _ => some 30
  | .readChannel _ _ => some 31
  | .setChannel _ _ => some 32
  | .setOutletMap _ _ => some 33
  | .setDistrict _ _ => some 34
  | .setSchedule _ _ => some 35
  | .openDistrict _ _ => some 36
  | .shutDistrict _ _ => some 37
  | .holdSetpoint _ _ => some 38
  | .releaseSetpoint _ _ => some 39
  | .readDistrict _ _ => some 40
  | .setMeter _ _ => some 41
  | .setContract _ _ => some 42
  | .setDiscrepancy _ _ => some 43
  | .readLive _ _ => some 44
  | .readSlot _ _ => some 45
  | .amendSlot _ _ => some 46
  | .closeDay _ _ => some 47
  | .readStatement _ _ => some 48
  | .powerOnReset _ | .unknownKind _ _ _ | .frameCheckFailed | .framingError _ | .linkBreak | .frameSent
  | .meterPulse _ | .liftReading _ _ | .pressureSample _ _ | .limitSwitch _ _ | .limitSwitchBreak _ _
  | .yardStopAssertion _ | .yardStopRelease | .clockTick | .changeOfMinute | .intervalBoundary
  | .liftSilenceExpiry _ | .travelTimerExpiry | .dwellExpiry | .releaseExpired | .pathTimeout _
  | .timeLimit _ | .waitDurationExpiry _ | .settleLockoutExpiry _ | .qualifyExpiry _
  | .repeatWindowExpiry _ | .saveWriteEnd _ => none

/-- The tag and body of a command that stands for a good frame. -/
def Instr.tagAndBody : Instr → Option (Byte × List Byte)
  | .identify t b => some (t, b)
  | .yardStatus t b => some (t, b)
  | .start t b => some (t, b)
  | .stop t b => some (t, b)
  | .freeze t b => some (t, b)
  | .saveSettings t b => some (t, b)
  | .setClock t b => some (t, b)
  | .setHolder t b => some (t, b)
  | .readHolder t b => some (t, b)
  | .isolateHolder t b => some (t, b)
  | .returnHolder t b => some (t, b)
  | .clearHolderFault t b => some (t, b)
  | .setLadder t b => some (t, b)
  | .releaseReserve t b => some (t, b)
  | .withdrawRelease t b => some (t, b)
  | .setSupplyEntry t b => some (t, b)
  | .setDwell t b => some (t, b)
  | .readSendOut t b => some (t, b)
  | .setValve t b => some (t, b)
  | .moveValve t b => some (t, b)
  | .readValve t b => some (t, b)
  | .clearValveFault t b => some (t, b)
  | .loadOrder t b => some (t, b)
  | .linkOrder t b => some (t, b)
  | .clearOrder t b => some (t, b)
  | .readOrder t b => some (t, b)
  | .startChain t b => some (t, b)
  | .stopChannelAfter t b => some (t, b)
  | .stopChannelAtOnce t b => some (t, b)
  | .hold t b => some (t, b)
  | .resume t b => some (t, b)
  | .readChannel t b => some (t, b)
  | .setChannel t b => some (t, b)
  | .setOutletMap t b => some (t, b)
  | .setDistrict t b => some (t, b)
  | .setSchedule t b => some (t, b)
  | .openDistrict t b => some (t, b)
  | .shutDistrict t b => some (t, b)
  | .holdSetpoint t b => some (t, b)
  | .releaseSetpoint t b => some (t, b)
  | .readDistrict t b => some (t, b)
  | .setMeter t b => some (t, b)
  | .setContract t b => some (t, b)
  | .setDiscrepancy t b => some (t, b)
  | .readLive t b => some (t, b)
  | .readSlot t b => some (t, b)
  | .amendSlot t b => some (t, b)
  | .closeDay t b => some (t, b)
  | .readStatement t b => some (t, b)
  | .unknownKind _ t b => some (t, b)
  | .powerOnReset _ | .frameCheckFailed | .framingError _ | .linkBreak | .frameSent | .meterPulse _
  | .liftReading _ _ | .pressureSample _ _ | .limitSwitch _ _ | .limitSwitchBreak _ _
  | .yardStopAssertion _ | .yardStopRelease | .clockTick | .changeOfMinute | .intervalBoundary
  | .liftSilenceExpiry _ | .travelTimerExpiry | .dwellExpiry | .releaseExpired | .pathTimeout _
  | .timeLimit _ | .waitDurationExpiry _ | .settleLockoutExpiry _ | .qualifyExpiry _
  | .repeatWindowExpiry _ | .saveWriteEnd _ => none

/-- The kind byte of the frame a command stands for. -/
def Instr.frameKind : Instr → Option Byte
  | .unknownKind k _ _ => some k
  | i => i.requestCode.map toByte

/-- The frame a request travels in (R177, R181); none for a command that is no good frame. -/
def requestFrame (i : Instr) : Option Frame :=
  match i.frameKind, i.tagAndBody with
  | some k, some (t, b) => some { kind := k, tag := t, body := b }
  | _, _ => none

/-- The command a good frame stands for (R179, R181): STOP CHANNEL goes to one of its two rows by its mode (R101), and
a kind outside the catalogue to UNKNOWN KIND. -/
def requestOf (f : Frame) : Instr :=
  match f.kind.toNat with
  | 1 => .identify f.tag f.body
  | 2 => .yardStatus f.tag f.body
  | 3 => .start f.tag f.body
  | 4 => .stop f.tag f.body
  | 5 => .freeze f.tag f.body
  | 6 => .saveSettings f.tag f.body
  | 7 => .setClock f.tag f.body
  | 8 => .setHolder f.tag f.body
  | 9 => .readHolder f.tag f.body
  | 10 => .isolateHolder f.tag f.body
  | 11 => .returnHolder f.tag f.body
  | 12 => .clearHolderFault f.tag f.body
  | 13 => .setLadder f.tag f.body
  | 14 => .releaseReserve f.tag f.body
  | 15 => .withdrawRelease f.tag f.body
  | 16 => .setSupplyEntry f.tag f.body
  | 17 => .setDwell f.tag f.body
  | 18 => .readSendOut f.tag f.body
  | 19 => .setValve f.tag f.body
  | 20 => .moveValve f.tag f.body
  | 21 => .readValve f.tag f.body
  | 22 => .clearValveFault f.tag f.body
  | 23 => .loadOrder f.tag f.body
  | 24 => .linkOrder f.tag f.body
  | 25 => .clearOrder f.tag f.body
  | 26 => .readOrder f.tag f.body
  | 27 => .startChain f.tag f.body
  | 28 => if namesAtOnce f.body then .stopChannelAtOnce f.tag f.body else .stopChannelAfter f.tag f.body
  | 29 => .hold f.tag f.body
  | 30 => .resume f.tag f.body
  | 31 => .readChannel f.tag f.body
  | 32 => .setChannel f.tag f.body
  | 33 => .setOutletMap f.tag f.body
  | 34 => .setDistrict f.tag f.body
  | 35 => .setSchedule f.tag f.body
  | 36 => .openDistrict f.tag f.body
  | 37 => .shutDistrict f.tag f.body
  | 38 => .holdSetpoint f.tag f.body
  | 39 => .releaseSetpoint f.tag f.body
  | 40 => .readDistrict f.tag f.body
  | 41 => .setMeter f.tag f.body
  | 42 => .setContract f.tag f.body
  | 43 => .setDiscrepancy f.tag f.body
  | 44 => .readLive f.tag f.body
  | 45 => .readSlot f.tag f.body
  | 46 => .amendSlot f.tag f.body
  | 47 => .closeDay f.tag f.body
  | 48 => .readStatement f.tag f.body
  | _ => .unknownKind f.kind f.tag f.body

/-- What the receiver makes of the bytes of one frame, from its lead to its last byte (R177): a length above 240 or a
check that does not match gives FRAME CHECK FAILED, a good frame its request. None where the bytes are not one whole
frame. -/
def receiveFrame : List Byte → Option Instr
  | lead :: len :: rest =>
    if lead ≠ leadByte then none
    else if len.toNat > 240 then (if rest = [] then some .frameCheckFailed else none)
    else
      match rest with
      | kind :: tag :: more =>
        if more.length ≠ len.toNat + 2 then none
        else
          let f : Frame := { kind := kind, tag := tag, body := more.take len.toNat }
          if ofBytes (more.drop len.toNat) = f.check then some (requestOf f) else some .frameCheckFailed
      | _ => none
  | _ => none

/-- Where the receiver stands between two characters (R177): hunting for a lead byte, after a lead byte, or inside a
frame with so many bytes still to come. -/
inductive Receiver where
  | hunting
  | afterLead
  | inside (left : Nat)
deriving DecidableEq, Repr

/-- The receiver takes one character (R177). -/
def Receiver.take (r : Receiver) (b : Byte) : Receiver :=
  match r with
  | .hunting => if b = leadByte then .afterLead else .hunting
  | .afterLead => if b.toNat > 240 then .hunting else .inside (b.toNat + 4)
  | .inside left => if left ≤ 1 then .hunting else .inside (left - 1)

/-- Where the receiver stands after the characters received since it last began to hunt. -/
def Receiver.after (bs : List Byte) : Receiver := bs.foldl Receiver.take .hunting

end Sys2Proof
end

