-- ==== Sys2Proof/Machine/State.lean ====
section
/-!
DEFINITION. Sys2Proof/Machine/State.lean: everything the manual gives the part, as plain data, block by block
(11_phases_stored_settings_and_power.md, R191 and the table of stored settings; the record tables of chapters 02 to 10),
the words the blocks say to one another inside one event, and the state right after power-on reset.
-/

namespace Sys2Proof.Machine

/-! ## The stored settings (11, table of stored settings) -/

/-- The six settings of a holder (02, holder record; R15). -/
structure HolderSettings where
  configured : Bool
  capacity : Nat
  crownStop : Nat
  lowStop : Nat
  margin : Nat
  silence : Nat
deriving DecidableEq, Repr

/-- The three ladder lines in LU (R30). -/
structure Ladder where
  critical : Nat
  reserve : Nat
  crown : Nat
deriving DecidableEq, Repr

/-- The class of a supply entry (03, supply table). -/
inductive EntryClass where
  | ordinary
  | reserve
deriving DecidableEq, Repr

/-- One row of the supply table (R37). -/
structure SupplyEntry where
  holder : HolderId
  low : Nat
  high : Nat
  cls : EntryClass
deriving DecidableEq, Repr

/-- The settings of a channel (R80). -/
structure ChannelSettings where
  pathTimeout : Nat
  holdThreshold : Nat
deriving DecidableEq, Repr

/-- The mode of the outlet map (R117). -/
inductive MapMode where
  | standard
  | remap
deriving DecidableEq, Repr

/-- The outlet map: mode, enable set and remap table (R117). -/
structure OutletMap where
  mode : MapMode
  enable : Vector Bool 6
  table : Vector (Option DistrictId) 6
deriving DecidableEq, Repr

/-- A point of a schedule: a minute of the civil day and a setpoint (R120, R121). -/
structure SchedulePoint where
  minute : Nat
  setpoint : Nat
deriving DecidableEq, Repr

/-- The settings of a district (R120). -/
structure DistrictSettings where
  schedule : List SchedulePoint
  economy : Nat
  economyOn : Bool
  lowMargin : Nat
  highMargin : Nat
  lockout : Nat
  qualify : Nat
  repeatWindow : Nat
deriving DecidableEq, Repr

/-- The whole image of stored settings, one home for each setting (11, table of stored settings). -/
structure Settings where
  holders : Vector HolderSettings 4
  ladder : Ladder
  supply : Vector SupplyEntry 8
  dwell : Nat
  travel : Vector Nat 20
  channels : Pair ChannelSettings
  map : OutletMap
  districts : Vector DistrictSettings 6
  weights : Vector Nat 11
  discrepancy : Nat
  source : Option SourceId
  cap : Nat
deriving DecidableEq, Repr

/-- The BLANK values of the settings, on a part never saved (R192; R34, R37, R58, R80, R119, R120, R150, R160, R167). -/
def Settings.blank : Settings where
  holders := Vector.replicate 4
    { configured := false, capacity := 0, crownStop := 0, lowStop := 0, margin := 10000, silence := 120 }
  ladder := { critical := 0, reserve := 0, crown := 65535 }
  supply := Vector.replicate 8 { holder := 0, low := 65535, high := 0, cls := .ordinary }
  dwell := 300
  travel := Vector.replicate 20 120
  channels :=
    { a := { pathTimeout := 300, holdThreshold := 5000 }, b := { pathTimeout := 300, holdThreshold := 5000 } }
  map := { mode := .standard, enable := Vector.replicate 6 true, table := Vector.replicate 6 none }
  districts := Vector.replicate 6
    { schedule := [{ minute := 0, setpoint := 50 }], economy := 35, economyOn := false, lowMargin := 15,
      highMargin := 15, lockout := 60, qualify := 5, repeatWindow := 300 }
  weights := Vector.replicate 11 100
  discrepancy := 50000
  source := none
  cap := 4294967295

/-! ## Phase controller (11) -/

inductive Phase where
  | setup
  | run
deriving DecidableEq, Repr

/-- The two banks of the store (11, the nonvolatile store). -/
inductive Bank where
  | one
  | two
deriving DecidableEq, Repr

/-- What a good bank holds: a generation and an image. A bank whose check fails holds nothing the part can use. -/
structure StoredImage where
  generation : Nat
  image : Settings
deriving DecidableEq, Repr

/-- A SAVE SETTINGS write in progress (R199): the write image, the bank it goes to, and the seconds left of its
limit. -/
structure StoreWrite where
  stored : StoredImage
  bank : Bank
  left : Nat
deriving DecidableEq, Repr

/-- The phase controller's record (R191), with the store and the yard stop state (R6). `newest` is the newest
generation and the bank that holds it; `loaded` is the settings state. -/
structure PhaseUnit where
  phase : Phase
  frozen : Bool
  loaded : Bool
  newest : Option (Bank × Nat)
  bank1 : Option StoredImage
  bank2 : Option StoredImage
  write : Option StoreWrite
  stopAsserted : Bool
deriving DecidableEq, Repr

/-! ## Clock unit (01) -/

/-- A position of a gas day and interval index (R13, R182). -/
structure Interval where
  day : Nat
  index : Nat
deriving DecidableEq, Repr

/-- An interval boundary on its way to the account unit (R9). -/
structure Boundary where
  ending : Interval
  beginning : Interval
  dayStart : Bool
deriving DecidableEq, Repr

/-- The yard clock (R8, R11), with what it still owes its readers: a change of minute and a boundary (R9; log 3). -/
structure ClockUnit where
  day : Nat
  minute : Nat
  second : Nat
  dayStartMinute : Nat
  unset : Bool
  minuteOwed : Bool
  boundaryOwed : Option Boundary
deriving DecidableEq, Repr

/-! ## Stock unit (02) -/

inductive HolderState where
  | service
  | isolating
  | isolated
  | fault
deriving DecidableEq, Repr

inductive HolderFault where
  | liftSilent
  | liftRange
deriving DecidableEq, Repr

inductive Guard where
  | crown
  | low
deriving DecidableEq, Repr

/-- What the close of an isolating holder's inlet waits for (R25): nothing outstanding, the end of its own drive, the
end of another's drive (IN USE), or a place in the move queue (QUEUE FULL). -/
inductive CloseWait where
  | nothing
  | answer
  | drive
  | place
deriving DecidableEq, Repr

/-- What the stock unit keeps of a holder beside its settings (02, holder record). -/
structure Holder where
  state : HolderState
  content : Option Nat
  atCrown : Bool
  atLow : Bool
  cause : Option HolderFault
  silence : Option Nat
  sinceReading : Option Nat
  closeWait : CloseWait
deriving DecidableEq, Repr

/-- The stock condition (R31). -/
inductive Condition where
  | unknown
  | critical
  | reserve
  | working
  | crown
deriving DecidableEq, Repr

/-- The stock unit's records; `release` is the time left of an active reserve release (R32). -/
structure StockUnit where
  holders : Vector Holder 4
  condition : Condition
  release : Option Nat
deriving DecidableEq, Repr

/-! ## Send-out selector (03) -/

inductive SelectorState where
  | noHolder
  | steady
  | changeover
deriving DecidableEq, Repr

inductive ChangeKind where
  | decoded
  | directed
  | loss
  | tidy
deriving DecidableEq, Repr

inductive ChangeStep where
  | openingNew
  | closingOld
  | backingOut
deriving DecidableEq, Repr

/-- What an asked move of the selector waits for: not asked yet, the end of its drive, the end of another's drive, a
place in the queue, the end of a protective close. -/
inductive MoveWait where
  | unasked
  | answer
  | drive
  | place
  | shielded
deriving DecidableEq, Repr

/-- Where a valve of the closing set stands (R45): still to be taken, waiting for a report, done CLOSED, or done with a
fault. -/
inductive ClosingState where
  | waiting (w : MoveWait)
  | doneClosed
  | doneFaulted
deriving DecidableEq, Repr

/-- A holder outlet valve of the closing set. -/
structure ClosingValve where
  holder : HolderId
  st : ClosingState
deriving DecidableEq, Repr

/-- A changeover (R40, R44). -/
structure Changeover where
  kind : ChangeKind
  old : Option HolderId
  new : Option HolderId
  closing : List ClosingValve
  step : ChangeStep
  serves : Option ChannelId
  openWait : MoveWait
deriving DecidableEq, Repr

/-- A pin: the owning channel and the pinned holder (R40). -/
structure Pin where
  channel : ChannelId
  holder : HolderId
deriving DecidableEq, Repr

/-- The selector's record (R40); `lastDecode` is none until a decode is made after START (R56). -/
structure Selector where
  state : SelectorState
  current : Option HolderId
  waiting : Option HolderId
  dwell : Option Nat
  pin : Option Pin
  change : Option Changeover
  lastDecode : Option (Option HolderId)
deriving DecidableEq, Repr

/-! ## Valve unit (04) -/

inductive Position where
  | opened
  | closed
  | movingOpen
  | movingClosed
  | unknown
deriving DecidableEq, Repr

inductive ValveFault where
  | noFault
  | stuck
  | disagree
deriving DecidableEq, Repr

/-- Who holds a valve's claim (R57). -/
inductive Claim where
  | unclaimed
  | selector
  | channel (c : ChannelId)
  | district (d : DistrictId)
  | isolation (h : HolderId)
deriving DecidableEq, Repr

/-- A valve's record (R57); its travel limit stands with the settings. -/
structure Valve where
  position : Position
  fault : ValveFault
  claim : Claim
  openMade : Bool
  closedMade : Bool
deriving DecidableEq, Repr

/-- Who asked for a move (04, the move queue). -/
inductive Requester where
  | selector
  | isolation (h : HolderId)
  | district (d : DistrictId)
  | channel (c : ChannelId)
  | host
deriving DecidableEq, Repr

/-- The classes of the move queue, highest first (R67). -/
inductive MoveClass where
  | sendOut
  | district
  | channel
  | manual
deriving DecidableEq, Repr

/-- Why a protective close was sent (R65). -/
inductive ProtectCause where
  | guard
  | holderFault
  | trip
  | contract
  | yardStop
deriving DecidableEq, Repr

/-- An entry of the move queue. Its class is the highest among its requesters, its arrival its place in the list
(04, the move queue). -/
structure QueueEntry where
  valve : ValveId
  target : Limit
  requesters : List Requester
deriving DecidableEq, Repr

/-- An entry of the protect list (R65). -/
structure ProtectEntry where
  valve : ValveId
  cause : ProtectCause
  requesters : List Requester
deriving DecidableEq, Repr

/-- A drive of the actuator main (R68). -/
structure Drive where
  valve : ValveId
  target : Limit
  requesters : List Requester
  protective : Bool
deriving DecidableEq, Repr

/-- The actuator main (R67). Between events it is idle or driving; `chosen` is a drive chosen and not yet started, and
`reporting` the main falling free while the end of a drive or a fault is being told under R72 (log 11). -/
inductive Main where
  | idle
  | chosen (d : Drive)
  | driving (d : Drive) (left : Nat)
  | reporting
deriving DecidableEq, Repr

/-- The blocks that may be refused with QUEUE FULL and are told of a freed place (R63). -/
inductive Block where
  | selector
  | stock
  | district
  | channel
deriving DecidableEq, Repr

/-- The valve unit's records (R57, R58, R63, R67). -/
structure ValveUnit where
  table : Vector Valve 20
  protect : List ProtectEntry
  queue : List QueueEntry
  main : Main
  refused : List Block
deriving DecidableEq, Repr

/-! ## Channel unit (05, 06) -/

inductive OrderKind where
  | receive
  | transfer
  | admitSource
  | cut
  | wait
deriving DecidableEq, Repr

inductive TargetForm where
  | minute
  | duration
deriving DecidableEq, Repr

inductive Disposition where
  | leave
  | close
deriving DecidableEq, Repr

/-- The statuses of an order slot (R77). -/
inductive OrderStatus where
  | empty
  | loaded
  | waitPath
  | opening
  | flowing
  | suspended
  | closing
  | done
  | guardEnd
  | timedOut
  | failed
  | aborted
deriving DecidableEq, Repr

/-- The end causes (R99). -/
inductive EndCause where
  | target
  | crownGuard
  | lowGuard
  | crownStock
  | sourceLost
  | pathTimeout
  | timeLimit
  | holderNotReady
  | holderFault
  | valveFault
  | pinRefused
  | contractSpent
  | stopped
  | yardStop
deriving DecidableEq, Repr

/-- The eleven fields the host writes, those a kind does not use being absent (R77, R78). `next` is none for END, and
`form` is the target form of a WAIT (R183). -/
structure Order where
  kind : Option OrderKind
  dest : Option HolderId
  src : Option HolderId
  source : Option SourceId
  form : Option TargetForm
  target : Nat
  timeLimit : Nat
  disposition : Option Disposition
  forceSource : Bool
  continueOnError : Bool
  notify : Bool
  next : Option OrderId
deriving DecidableEq, Repr

/-- An order with every field absent. -/
def Order.absent : Order where
  kind := none
  dest := none
  src := none
  source := none
  form := none
  target := 0
  timeLimit := 0
  disposition := none
  forceSource := false
  continueOnError := false
  notify := false
  next := none

/-- A slot of the order table (R77). `endContent` is none until the order ends, then the content or UNKNOWN. -/
structure OrderSlot where
  order : Order
  status : OrderStatus
  endCause : Option EndCause
  counted : Nat
  endContent : Option (Option Nat)
deriving DecidableEq, Repr

/-- An EMPTY slot, every field absent (R77). -/
def OrderSlot.empty : OrderSlot where
  order := Order.absent
  status := .empty
  endCause := none
  counted := 0
  endContent := none

inductive HaltCause where
  | badLink
  | slotBusy
  | orderError
  | yardStop
deriving DecidableEq, Repr

/-- The state of a channel (R80); STOPPING is for STOP CHANNEL AT ONCE or for the yard stop (R100, R103). -/
inductive ChannelState where
  | idle
  | running
  | suspended
  | stopping (forYardStop : Bool)
  | halted
deriving DecidableEq, Repr

/-- What an order in WAIT-PATH waits for: its claim (R83), its pin (R84), or neither. -/
inductive PathWait where
  | nothing
  | claim
  | pin
deriving DecidableEq, Repr

/-- What a request of a channel to the valve unit is for: an open of the path or the move of an ADMIT or CUT (R86,
R87), a close of CLOSING (R98), the hold close (R108), or the release that waits for a drive's end (R98). -/
inductive WorkKind where
  | move
  | close
  | holdClose
  | settle
deriving DecidableEq, Repr

/-- Where such a request stands (R86, R98, R108): to be asked again, ACCEPTED, waiting for a drive's end, for a
place, for a protective close, or answered DONE. -/
inductive WorkWait where
  | again
  | answer
  | drive
  | place
  | shielded
  | done
deriving DecidableEq, Repr

/-- One request of a channel to the valve unit. -/
structure Work where
  valve : ValveId
  kind : WorkKind
  wait : WorkWait
deriving DecidableEq, Repr

/-- A channel's record (R80, R107). The claims it holds are those of the valve table and its pin that of the selector.
`reported` is the destination of the TRANSFER it has reported to the selector as current (R82). -/
structure Channel where
  state : ChannelState
  current : Option OrderId
  stopAfter : Bool
  ending : Option (OrderStatus × EndCause)
  pathTimer : Option Nat
  limitTimer : Option Nat
  waitTimer : Option Nat
  halt : Option HaltCause
  haltSlot : Option OrderId
  pathWait : PathWait
  work : List Work
  reported : Option HolderId
deriving DecidableEq, Repr

/-- A channel that is IDLE (R80). -/
def Channel.idle : Channel where
  state := .idle
  current := none
  stopAfter := false
  ending := none
  pathTimer := none
  limitTimer := none
  waitTimer := none
  halt := none
  haltSlot := none
  pathWait := .nothing
  work := []
  reported := none

/-- The channel unit's records (R77, R80). -/
structure ChannelUnit where
  orders : Vector OrderSlot 32
  channels : Pair Channel
  booster : Bool
deriving DecidableEq, Repr

/-! ## District unit (07, 08) -/

inductive DistrictState where
  | shut
  | opening
  | live
  | warn
  | closing
  | tripped
  | fault
deriving DecidableEq, Repr

/-- A last sample, with the seconds since it was taken (R120, R136; log 9). -/
structure Sample where
  value : Nat
  age : Nat
deriving DecidableEq, Repr

/-- The setpoint in force with the row of R123 that gave it (R136). -/
structure InForce where
  value : Nat
  row : Nat
deriving DecidableEq, Repr

/-- A district's record beside its settings (R120). -/
structure District where
  held : Option Nat
  state : DistrictState
  inForce : Option InForce
  sample : Option Sample
  lockout : Option Nat
  qualify : Option Nat
  repeatLeft : Option Nat
  moveWait : MoveWait
deriving DecidableEq, Repr

/-- The district unit's records, with the governor loading outputs (R126). -/
structure DistrictUnit where
  table : Vector District 6
  outputs : Vector Nat 6
deriving DecidableEq, Repr

/-! ## Account unit (09) -/

inductive HalfState where
  | filling
  | ready
  | empty
deriving DecidableEq, Repr

/-- The marks of a half (09, table of a half). -/
structure Marks where
  overrun : Bool
  dayCrossed : Bool
  powerGap : Bool
  clockSet : Bool
  mapChanged : Bool
  basisChanged : Bool
deriving DecidableEq, Repr

/-- A reading of the yard stock, with whether it was complete (R152). -/
structure StockReading where
  stock : Nat
  complete : Bool
deriving DecidableEq, Repr

/-- An accumulation half (09, table of a half). The columns stand in the order S1 to S4, D1 to D6, unassigned,
transfer. `openedAtStart` says that its stock at open was read at a START that found a content UNKNOWN (R159). -/
structure Half where
  state : HalfState
  first : Interval
  last : Interval
  span : Nat
  columns : Vector Nat 12
  atOpen : StockReading
  atClose : Option StockReading
  openedAtStart : Bool
  marks : Marks
  fullNoticed : Bool
deriving DecidableEq, Repr

/-- An EMPTY half: its fields are absent (R152), here at neutral values that nothing reads. -/
def Half.empty : Half where
  state := .empty
  first := { day := 0, index := 0 }
  last := { day := 0, index := 0 }
  span := 0
  columns := Vector.replicate 12 0
  atOpen := { stock := 0, complete := false }
  atClose := none
  openedAtStart := false
  marks := { overrun := false, dayCrossed := false, powerGap := false, clockSet := false, mapChanged := false,
             basisChanged := false }
  fullNoticed := false

/-- A slot of the day book (09, posting and the day book). `original` is the posting state, and `check` is
kept as 0 where the check word is void (log 33). -/
structure Slot where
  first : Interval
  last : Interval
  span : Nat
  columns : Vector Nat 12
  atOpen : StockReading
  atClose : StockReading
  openedAtStart : Bool
  unaccounted : Option Int
  marks : Marks
  discrepant : Bool
  original : Bool
  check : Nat
deriving DecidableEq, Repr

/-- The day statement of a gas day (R166). -/
structure Statement where
  day : Nat
  slots : Nat
  intervals : Nat
  totals : Vector Nat 12
  originalTotals : Vector Nat 12
  originalCount : Nat
  amendedCount : Nat
  overrunCount : Nat
  dayCrossedCount : Nat
  powerGapCount : Nat
  clockSetCount : Nat
  discrepantCount : Nat
  firstClose : StockReading
  lastClose : StockReading
  unaccountedTotal : Int
  absentCount : Nat
  checkFailures : Nat
deriving DecidableEq, Repr

/-- The account unit's records (R152, R157, R166, R168, R172). -/
structure AccountUnit where
  halves : Pair Half
  book : List Slot
  lastPosted : Option Interval
  statement : Option Statement
  gapPending : Bool
  memoryLost : Bool
  take : Nat
  takeDay : Nat
  cut : Bool
deriving DecidableEq, Repr

/-! ## Link port (10) -/

inductive ChangeOutcome where
  | complete
  | oldFaulted
  | abandoned
deriving DecidableEq, Repr

inductive ChainReason where
  | reachedEnd
  | stopped
deriving DecidableEq, Repr

inductive Side where
  | low
  | high
deriving DecidableEq, Repr

inductive SaveFailure where
  | mismatch
  | timeout
deriving DecidableEq, Repr

/-- The notices of R185 other than NOTICES LOST, with the fields the rule placing each names. -/
inductive Notice where
  | orderEnded (c : ChannelId) (slot : OrderId) (kind : Option OrderKind) (status : OrderStatus) (cause : EndCause)
      (counted : Nat) (endContent : Option (Option Nat))
  | chainEnded (c : ChannelId) (last : OrderId) (reason : ChainReason)
  | channelHalted (c : ChannelId) (cause : HaltCause) (slot : Option OrderId)
  | changeoverBegun (kind : ChangeKind) (old new : Option HolderId)
  | changeoverDone (kind : ChangeKind) (old new : Option HolderId) (outcome : ChangeOutcome)
  | sendOutLost (h : HolderId)
  | stockCondition (old new : Condition) (stock : Nat)
  | releaseExpired
  | holderGuard (h : HolderId) (g : Guard) (raised : Bool) (content : Nat)
  | holderFault (h : HolderId) (cause : HolderFault)
  | valveFault (v : ValveId) (fault : ValveFault) (position : Position) (target : Option Limit)
  | districtWarn (d : DistrictId) (p : OutletId) (side : Side) (sample setpoint : Nat) (low : Int) (high : Nat)
  | districtTripped (d : DistrictId) (p : OutletId) (side : Side) (sample setpoint : Nat) (found : Position)
  | districtState (d : DistrictId) (p : Option OutletId) (old new : DistrictState) (setpoint : Option Nat)
      (fault : Option (ValveFault × Position))
  | slotPosted (first : Interval) (span : Nat) (marks : Marks) (discrepant : Bool) (unaccounted : Option Int)
      (count : Nat)
  | dayBookFull (first : Interval)
  | discrepancy (first : Interval) (unaccounted : Int)
  | contractCut (source : SourceId) (cap take : Nat) (found : Position)
  | settingsSaved (generation : Nat)
  | saveFailed (cause : SaveFailure)
  | yardStop
  | yardStopCleared
  | powerGap (lastPosted : Option Interval) (lost : Bool) (first : Interval)
deriving DecidableEq, Repr

/-- A notice of the queue, with its number once its sending has first begun (R186). -/
structure Queued where
  notice : Notice
  number : Option Byte
deriving DecidableEq, Repr

/-- A NOTICES LOST being sent, or held after a break (R187). -/
structure LostNotice where
  count : Nat
  number : Byte
deriving DecidableEq, Repr

/-- What the transmitter is sending (R186). -/
inductive Sending where
  | nothing
  | reply
  | busyReply
  | lost
  | notice
deriving DecidableEq, Repr

/-- The link port's records (R176, R178, R180, R185 to R187). `taking` is set while a request is being taken and its
reply not yet composed. -/
structure LinkPort where
  baud : Nat
  errors : Nat
  taking : Bool
  reply : Option Frame
  busyReply : Option Frame
  queue : List Queued
  dropped : Nat
  number : Byte
  lost : Option LostNotice
  sending : Sending
deriving DecidableEq, Repr

/-! ## Words between the blocks -/

/-- What the valve unit tells a requester or a claimant about a valve (R65, R72): to a requester DONE, FAILED or
SUPERSEDED; to a claimant that a protective close was taken or is done, that a drive has ended, that a fault was set or
cleared. -/
inductive ValveWord where
  | done
  | failed
  | superseded
  | taken (cause : ProtectCause)
  | closeDone
  | driveEnded
  | faultSet
  | faultCleared
deriving DecidableEq, Repr

/-- A word from one block to another inside one event (95: each step is whole and indivisible). The handler of each
word stands in Machine/Engine.lean. -/
inductive Act where
  -- to the link port
  | notice (n : Notice)
  -- to the clock unit
  | secondPasses
  | handMinute
  | handBoundary
  | setClock (day minute second dayStartMinute : Nat)
  -- to the valve unit
  | protectClose (v : ValveId) (cause : ProtectCause)
  | arbiter
  | driveStart
  | reportEnd
  | placeFreed
  | tellRequester (r : Requester) (v : ValveId) (w : ValveWord)
  | tellClaimant (k : Claim) (v : ValveId) (w : ValveWord)
  -- to the stock unit
  | stockValve (h : HolderId)
  | stockPlace
  | isolationAsk (h : HolderId)
  | judgeCondition
  -- to the selector
  | decodeTrigger
  | stockTold
  | holderIsolating (h : HolderId)
  | askOpenNew
  | takeClosing (h : HolderId)
  | closingCheck
  | backOut
  | outletCleared (h : HolderId)
  | selectorPlace
  -- to the channel unit
  | claimReleased
  | channelPlace
  | channelRetry (c : ChannelId)
  | claimPath (c : ChannelId)
  | guardRaised (h : HolderId) (g : Guard)
  | holderInFault (h : HolderId)
  | contentTaken (h : HolderId)
  | pinGranted (c : ChannelId)
  | pinRefused (c : ChannelId)
  | pinLost (c : ChannelId)
  | askPins
  | orderCurrent (c : ChannelId) (n : OrderId)
  | proceed (c : ChannelId)
  | enterFlowing (c : ChannelId)
  | askCloses (c : ChannelId)
  | postIfFree (c : ChannelId)
  | chainOn (c : ChannelId) (ended : OrderId)
  | channelsStop
  | minuteToChannels
  | transferPulse (weight : Nat)
  | beginHoldClose (c : ChannelId)
  | releasePin (c : ChannelId)
  | eventClose
  -- to the district unit
  | findSetpoints
  | districtPlace
  | districtAsk (d : DistrictId)
  | districtLive (d : DistrictId)
  | districtShut (d : DistrictId)
  -- to the account unit
  | basisChanged
  | mapChanged
  | boundary (b : Boundary)
  | clockSet (old new : Interval) (laterDay : Bool)
  | postReady
  | contractFaultCleared
  | judgeContract
  -- the steps of START (R194)
  | startValves
  | startStock
  | startSelector
  | startDistricts
  | startAccounts
  | startChannels
deriving DecidableEq, Repr

/-- Everything the manual gives the part, with the queue of commands that wait (`pending`), the words of an event not
yet handled (`backlog`, log 4) and the counter of free orders (`freeCount`, log 6). -/
structure State where
  pending : List Instr
  backlog : List Act
  freeCount : Nat
  settings : Settings
  control : PhaseUnit
  clock : ClockUnit
  stock : StockUnit
  selector : Selector
  valves : ValveUnit
  channels : ChannelUnit
  districts : DistrictUnit
  accounts : AccountUnit
  link : LinkPort
deriving DecidableEq, Repr

/-- The part has no machine fault: no rule of the manual names an event that stops it. Nothing raises one. -/
inductive Fault
deriving DecidableEq, Repr

/-- Why a command is turned away without a meaning. -/
inductive Refusal where
  /-- Raised only by an arm of `exec` whose command has no meaning yet; no arm of this model raises it. Safe: the model
  stops. -/
  | notModelled (mnemonic : String)
deriving DecidableEq, Repr

/-! ## Power-on reset -/

/-- A holder after power-on reset (R34). -/
def Holder.atReset : Holder where
  state := .service
  content := none
  atCrown := false
  atLow := false
  cause := none
  silence := none
  sinceReading := none
  closeWait := .nothing

/-- A valve after power-on reset, its switches as they stand (R58). -/
def Valve.atReset (openMade closedMade : Bool) : Valve where
  position := .unknown
  fault := .noFault
  claim := .unclaimed
  openMade := openMade
  closedMade := closedMade

/-- A district after power-on reset (R135, R147). -/
def District.atReset : District where
  held := none
  state := .shut
  inForce := none
  sample := none
  lockout := none
  qualify := none
  repeatLeft := none
  moveWait := .unasked

/-- The selector at power-on reset and in SETUP (R54). -/
def Selector.atReset : Selector where
  state := .noHolder
  current := none
  waiting := none
  dwell := none
  pin := none
  change := none
  lastDecode := none

/-- The part right after power-on reset (R191, R34, R54, R58, R77, R80, R119, R120, R126, R135, R147, R152, R172, R178,
R185): a part never saved (R192), whose clock and account memories failed their checks (R11, R172), with no strap and no
switch made and the yard stop line released (DESIGN CHOICE, log 5). -/
def State.reset : State where
  pending := []
  backlog := []
  freeCount := 0
  settings := Settings.blank
  control :=
    { phase := .setup, frozen := false, loaded := false, newest := none, bank1 := none, bank2 := none, write := none,
      stopAsserted := false }
  clock :=
    { day := 0, minute := 360, second := 0, dayStartMinute := 360, unset := true, minuteOwed := false,
      boundaryOwed := none }
  stock := { holders := Vector.replicate 4 Holder.atReset, condition := .unknown, release := none }
  selector := Selector.atReset
  valves :=
    { table := Vector.replicate 20 (Valve.atReset false false), protect := [], queue := [], main := .idle,
      refused := [] }
  channels :=
    { orders := Vector.replicate 32 OrderSlot.empty, channels := { a := Channel.idle, b := Channel.idle },
      booster := false }
  districts := { table := Vector.replicate 6 District.atReset, outputs := Vector.replicate 6 0 }
  accounts :=
    { halves := { a := Half.empty, b := Half.empty }, book := [], lastPosted := none, statement := none,
      gapPending := true, memoryLost := true, take := 0, takeDay := 0, cut := false }
  link :=
    { baud := 1200, errors := 0, taking := false, reply := none, busyReply := none, queue := [], dropped := 0,
      number := 0#8, lost := none, sending := .nothing }

end Sys2Proof.Machine
end

