-- ==== Sys2Proof/Machine/Ops.lean ====
section
/-!
DEFINITION. Sys2Proof/Machine/Ops.lean: the operations every block shares: reading and replacing a record, the valves of
the plant, the link port's queue, replies and transmitter (10), and the passing of one second over the timers (R10).
-/

namespace Sys2Proof.Machine

/-! ## The plant's numbers -/

def allHolders : List HolderId := [0, 1, 2, 3]
def allSources : List SourceId := [0, 1, 2, 3]
def allOutlets : List OutletId := [0, 1, 2, 3, 4, 5]
def allDistricts : List DistrictId := [0, 1, 2, 3, 4, 5]
def allEntries : List EntryId := [0, 1, 2, 3, 4, 5, 6, 7]
def allValves : List ValveId := [0, 1, 2, 3, 4, 5, 6, 7, 8, 9, 10, 11, 12, 13, 14, 15, 16, 17, 18, 19]
def allChannels : List ChannelId := [.a, .b]

/-- HnIN, valves 1 to 4 (00, valve numbers). -/
def inletValve (h : HolderId) : ValveId := ⟨h.val, by omega⟩
/-- HnOUT, valves 5 to 8. -/
def outletValve (h : HolderId) : ValveId := ⟨h.val + 4, by omega⟩
/-- SnV, valves 9 to 12. -/
def sourceValve (x : SourceId) : ValveId := ⟨x.val + 8, by omega⟩
/-- PnV, valves 13 to 18. -/
def districtValve (p : OutletId) : ValveId := ⟨p.val + 12, by omega⟩
/-- TSUC, valve 19. -/
def suctionValve : ValveId := 18
/-- TDEL, valve 20. -/
def deliveryValve : ValveId := 19

/-- The holder whose outlet a valve is. -/
def outletHolder (v : ValveId) : Option HolderId :=
  if h : 4 ≤ v.val ∧ v.val < 8 then some ⟨v.val - 4, by omega⟩ else none

/-- The holder whose inlet or outlet a valve is. -/
def holderOfValve (v : ValveId) : Option HolderId :=
  if h : v.val < 4 then some ⟨v.val, h⟩ else outletHolder v

/-- The ten valves of the yard stop, in ascending number: H1IN to H4IN, S1V to S4V, TSUC and TDEL (R6). -/
def stopValves : List ValveId := [0, 1, 2, 3, 8, 9, 10, 11, 18, 19]

/-! ## Records -/

def State.holder (s : State) (h : HolderId) : Holder := s.stock.holders[h]
def State.putHolder (s : State) (h : HolderId) (x : Holder) : State :=
  { s with stock := { s.stock with holders := s.stock.holders.set h.val x h.isLt } }
def State.holderSettings (s : State) (h : HolderId) : HolderSettings := s.settings.holders[h]

def State.valve (s : State) (v : ValveId) : Valve := s.valves.table[v]
def State.putValve (s : State) (v : ValveId) (x : Valve) : State :=
  { s with valves := { s.valves with table := s.valves.table.set v.val x v.isLt } }

def State.order (s : State) (n : OrderId) : OrderSlot := s.channels.orders[n]
def State.putOrder (s : State) (n : OrderId) (x : OrderSlot) : State :=
  { s with channels := { s.channels with orders := s.channels.orders.set n.val x n.isLt } }

def State.channel (s : State) (c : ChannelId) : Channel := s.channels.channels.get c
def State.putChannel (s : State) (c : ChannelId) (x : Channel) : State :=
  { s with channels := { s.channels with channels := s.channels.channels.put c x } }
def State.setBooster (s : State) (on : Bool) : State := { s with channels := { s.channels with booster := on } }

def State.district (s : State) (d : DistrictId) : District := s.districts.table[d]
def State.putDistrict (s : State) (d : DistrictId) (x : District) : State :=
  { s with districts := { s.districts with table := s.districts.table.set d.val x d.isLt } }
def State.districtSettings (s : State) (d : DistrictId) : DistrictSettings := s.settings.districts[d]
def State.putOutput (s : State) (p : OutletId) (n : Nat) : State :=
  { s with districts := { s.districts with outputs := s.districts.outputs.set p.val n p.isLt } }

def State.half (s : State) (i : HalfId) : Half := s.accounts.halves.get i
def State.putHalf (s : State) (i : HalfId) (x : Half) : State :=
  { s with accounts := { s.accounts with halves := s.accounts.halves.put i x } }

def State.putSettings (s : State) (x : Settings) : State := { s with settings := x }
def State.putControl (s : State) (x : PhaseUnit) : State := { s with control := x }
def State.putClock (s : State) (x : ClockUnit) : State := { s with clock := x }
def State.putStock (s : State) (x : StockUnit) : State := { s with stock := x }
def State.putSelector (s : State) (x : Selector) : State := { s with selector := x }
def State.putValves (s : State) (x : ValveUnit) : State := { s with valves := x }
def State.putAccounts (s : State) (x : AccountUnit) : State := { s with accounts := x }
def State.putLink (s : State) (x : LinkPort) : State := { s with link := x }

/-- Whether the part is in RUN (R191). -/
def State.running (s : State) : Bool := decide (s.control.phase = .run)

/-- A state with the words it hands on. -/
abbrev Effect := State × List Act

/-! ## The link port (10) -/

/-- A count that stands at 65,535 once it reaches it (R178, R185). -/
def countUp (n : Nat) : Nat := if n < Config.countStop then n + 1 else Config.countStop

/-- One more link error (R178). -/
def LinkPort.countError (l : LinkPort) : LinkPort := { l with errors := countUp l.errors }

/-- The queue with a number on its head, the head keeping a number it has (R186). -/
def numberHead (q : List Queued) (n : Byte) : List Queued :=
  match q with
  | [] => []
  | x :: rest => { x with number := some (x.number.getD n) } :: rest

/-- Whether the head of the queue has yet to be given its number. -/
def headUnnumbered (q : List Queued) : Bool :=
  match q with
  | [] => false
  | x :: _ => x.number.isNone

/-- The transmitter, when it is free, chooses the next frame by the first case that holds: the reply of the request in
hand, a pending BUSY reply, NOTICES LOST, the head of the queue (R186). A NOTICES LOST that a break stopped is sent
again with its count and number before any queued notice (R187). -/
def LinkPort.choose (l : LinkPort) : LinkPort :=
  if l.sending ≠ .nothing then l
  else if l.reply.isSome then { l with sending := .reply }
  else if l.busyReply.isSome then { l with sending := .busyReply }
  else if l.lost.isSome then { l with sending := .lost }
  else if 0 < l.dropped then
    { l with sending := .lost, lost := some { count := l.dropped, number := l.number }, dropped := 0,
             number := l.number + 1 }
  else if l.queue.isEmpty then l
  else
    { l with sending := .notice, queue := numberHead l.queue l.number,
             number := if headUnnumbered l.queue then l.number + 1 else l.number }

/-- A notice is taken by the port: it joins the tail, or is dropped and counted when the queue holds 32 (R185). An idle
line takes it up at once, but not while a request is being taken, whose reply goes before its notices (R186). -/
def LinkPort.place (l : LinkPort) (n : Notice) : LinkPort :=
  let l1 :=
    if l.queue.length < Config.noticePlaces then { l with queue := l.queue ++ [{ notice := n, number := none }] }
    else { l with dropped := countUp l.dropped }
  if l1.taking then l1 else l1.choose

/-- A notice placed by a block. -/
def State.notify (s : State) (n : Notice) : State := s.putLink (s.link.place n)

/-- Whether the port is busy: from the taking of a request until its reply, and any BUSY reply behind it, have been sent
whole (R180). -/
def LinkPort.busy (l : LinkPort) : Bool := l.reply.isSome || l.busyReply.isSome

/-- The reply of the request in hand is composed (R179). -/
def LinkPort.composeReply (l : LinkPort) (kind tag : Byte) (body : List Byte) : LinkPort :=
  { l with taking := false, reply := some { kind := kind, tag := tag, body := body } }.choose

/-- A good frame that arrives while the port is busy: one BUSY reply is composed, and where one is already pending the
frame is discarded and counted (R180). -/
def LinkPort.refuseBusy (l : LinkPort) (kind tag : Byte) : LinkPort :=
  if l.busyReply.isSome then l.countError
  else { l with busyReply := some { kind := kind, tag := tag, body := [0x10#8] } }

/-- The last byte of the frame being sent has gone (R180, R185, R186, R187). -/
def LinkPort.frameGone (l : LinkPort) : LinkPort :=
  match l.sending with
  | .nothing => l
  | .reply => { l with reply := none, sending := .nothing }.choose
  | .busyReply => { l with busyReply := none, sending := .nothing }.choose
  | .lost => { l with lost := none, sending := .nothing }.choose
  | .notice => { l with queue := l.queue.tail, sending := .nothing }.choose

/-- A break: the replies are discarded, a notice and a NOTICES LOST being sent are kept, and the transmitter chooses
again (R188). -/
def LinkPort.lineBroken (l : LinkPort) : LinkPort :=
  { l with reply := none, busyReply := none, sending := .nothing }.choose

/-! ## One second over the timers (R10) -/

/-- A running timer has one second less, down to 0 where it is due. -/
def secondOff (t : Option Nat) : Option Nat := t.map (· - 1)

/-- A kept age is one second more. -/
def secondOn (t : Option Nat) : Option Nat := t.map (· + 1)

def Holder.second (x : Holder) : Holder :=
  { x with silence := secondOff x.silence, sinceReading := secondOn x.sinceReading }

def District.second (x : District) : District :=
  { x with lockout := secondOff x.lockout, qualify := secondOff x.qualify, repeatLeft := secondOff x.repeatLeft,
           sample := x.sample.map fun a => { a with age := a.age + 1 } }

/-- The time limit pauses while the order is SUSPENDED (R92). -/
def Channel.second (x : Channel) : Channel :=
  { x with pathTimer := secondOff x.pathTimer, waitTimer := secondOff x.waitTimer,
           limitTimer := if x.state = .suspended then x.limitTimer else secondOff x.limitTimer }

def Main.second (m : Main) : Main :=
  match m with
  | .driving d left => .driving d (left - 1)
  | m => m

/-- One second passes over every timer of the part; the clock itself is not touched (R10). -/
def State.timersSecond (s : State) : State :=
  { s with
    control := { s.control with write := s.control.write.map fun w => { w with left := w.left - 1 } }
    stock := { s.stock with holders := s.stock.holders.map Holder.second, release := secondOff s.stock.release }
    selector := { s.selector with dwell := secondOff s.selector.dwell }
    valves := { s.valves with main := s.valves.main.second }
    channels := { s.channels with
      channels := { a := s.channels.channels.a.second, b := s.channels.channels.b.second } }
    districts := { s.districts with table := s.districts.table.map District.second } }

/-- Whether a timer has counted out its seconds, so that its expiry may be taken (log 1). -/
def due (t : Option Nat) : Bool := decide (t = some 0)

end Sys2Proof.Machine
end

