-- ==== Sys2Proof/Machine/Flags.lean ====
section
/-!
DEFINITION. Sys2Proof/Machine/Flags.lean: everything the manual computes from the records without changing them: intervals
and gas days, the yard stock and its condition, the guards, the decode, the outlet map, setpoints and the pressure
band, the class of a move, the unaccounted figure, and the checks of settings.
-/

namespace Sys2Proof.Machine

/-! ## Intervals and gas days (01) -/

/-- The interval index of a minute under a gas-day start minute (R8). -/
def intervalIndex (minute dayStartMinute : Nat) : Nat := ((minute + 1440 - dayStartMinute) % 1440) / 30

/-- The present interval (R8). -/
def ClockUnit.interval (k : ClockUnit) : Interval :=
  { day := k.day, index := intervalIndex k.minute k.dayStartMinute }

/-- Gas day g is later than gas day c (R8). -/
def dayLater (g c : Nat) : Bool :=
  let n := (g + 65536 - c % 65536) % 65536
  decide (1 ≤ n ∧ n ≤ 32767)

/-- Gas day g is earlier than gas day c (R8). -/
def dayEarlier (g c : Nat) : Bool :=
  let n := (g + 65536 - c % 65536) % 65536
  decide (32768 ≤ n)

/-- An interval is later than another: its gas day is later, or it is the same and its index is above. -/
def Interval.later (p q : Interval) : Bool := dayLater p.day q.day || (decide (p.day = q.day) && decide (q.index < p.index))

/-- An interval is earlier than another (R13). -/
def Interval.earlier (p q : Interval) : Bool :=
  dayEarlier p.day q.day || (decide (p.day = q.day) && decide (p.index < q.index))

/-- The clock one second later (R8, R9). In RUN it then owes its readers the change of minute and the boundary it has
come to. -/
def ClockUnit.second1 (k : ClockUnit) (inRun : Bool) : ClockUnit :=
  if k.second < 59 then { k with second := k.second + 1 }
  else
    let minute := if k.minute < 1439 then k.minute + 1 else 0
    let dayStart := decide (minute = k.dayStartMinute)
    let day := if dayStart then (k.day + 1) % 65536 else k.day
    let next : ClockUnit := { k with second := 0, minute := minute, day := day }
    { next with
      minuteOwed := inRun
      boundaryOwed :=
        if inRun && decide (minute % 30 = 0) then
          some { ending := k.interval, beginning := next.interval, dayStart := dayStart }
        else none }

/-- The clock after so many seconds without power, its boundaries handed to no block (R11). -/
def ClockUnit.afterSeconds (k : ClockUnit) (n : Nat) : ClockUnit :=
  let sinceStart := (k.minute * 60 + k.second + 86400 - k.dayStartMinute * 60) % 86400 + n
  let timeOfDay := (sinceStart % 86400 + k.dayStartMinute * 60) % 86400
  { k with day := (k.day + sinceStart / 86400) % 65536, minute := timeOfDay / 60, second := timeOfDay % 60,
           minuteOwed := false, boundaryOwed := none }

/-! ## The yard stock (02) -/

/-- Whether a holder is in the set whose content the stock sums: configured, in SERVICE or ISOLATING (R29). -/
def State.inStock (s : State) (h : HolderId) : Bool :=
  (s.holderSettings h).configured && (decide ((s.holder h).state = .service) || decide ((s.holder h).state = .isolating))

/-- The yard stock: the known content of the holders counted in it (R29). -/
def State.yardStock (s : State) : Nat :=
  (allHolders.map fun h => if s.inStock h then (s.holder h).content.getD 0 else 0).sum

/-- The stock is complete when every holder counted in it has a known content (R29). -/
def State.stockComplete (s : State) : Bool := allHolders.all fun h => !s.inStock h || (s.holder h).content.isSome

/-- The stock as the account unit reads it (R29, R152). -/
def State.stockReading (s : State) : StockReading := { stock := s.yardStock, complete := s.stockComplete }

/-- The stock condition by the first row that holds (R31); each line counts 1,000 cu ft a unit (R30). -/
def conditionOf (l : Ladder) (r : StockReading) : Condition :=
  if !r.complete then .unknown
  else if r.stock < l.critical * 1000 then .critical
  else if r.stock < l.reserve * 1000 then .reserve
  else if r.stock < l.crown * 1000 then .working
  else .crown

/-! ## Guards (R18, R19) -/

/-- AT CROWN after a content is judged. -/
def crownAfter (x : HolderSettings) (raised : Bool) (content : Nat) : Bool :=
  if raised then !decide (content + x.margin < x.crownStop) else decide (x.crownStop ≤ content)

/-- AT LOW after a content is judged. -/
def lowAfter (x : HolderSettings) (raised : Bool) (content : Nat) : Bool :=
  if raised then !decide (x.lowStop + x.margin < content) else decide (content ≤ x.lowStop)

/-! ## Valves (04) -/

/-- The position a valve has when it stands at one end of its travel. -/
def limitPosition : Limit → Position
  | .opened => .opened
  | .closed => .closed

/-- The drive the actuator main carries, chosen or running. -/
def Main.drive? : Main → Option Drive
  | .idle => none
  | .chosen d => some d
  | .driving d _ => some d
  | .reporting => none

/-- The drive of a valve, where the main is driving it. -/
def State.driveOf (s : State) (v : ValveId) : Option Drive :=
  match s.valves.main.drive? with
  | some d => if d.valve = v then some d else none
  | none => none

def State.driven (s : State) (v : ValveId) : Bool := (s.driveOf v).isSome

/-- The protect list's entry for a valve. -/
def State.protectEntry (s : State) (v : ValveId) : Option ProtectEntry := s.valves.protect.find? fun e => e.valve = v

/-- The move queue's entry for a valve. -/
def State.queueEntry (s : State) (v : ValveId) : Option QueueEntry := s.valves.queue.find? fun e => e.valve = v

/-- A valve is in the protect list, or under a protective drive (R66). -/
def State.shielded (s : State) (v : ValveId) : Bool :=
  (s.protectEntry v).isSome ||
    match s.driveOf v with
    | some d => d.protective
    | none => false

/-- A valve stands at a position and is not being driven. -/
def State.stands (s : State) (v : ValveId) (p : Position) : Bool := decide ((s.valve v).position = p) && !s.driven v

/-- The position a valve's switches show (R5). -/
def Valve.shown (x : Valve) : Option Limit :=
  match x.openMade, x.closedMade with
  | true, false => some .opened
  | false, true => some .closed
  | _, _ => none

/-- The class of a requester's moves (04, the move queue). -/
def Requester.cls : Requester → MoveClass
  | .selector => .sendOut
  | .isolation _ => .sendOut
  | .district _ => .district
  | .channel _ => .channel
  | .host => .manual

/-- SEND-OUT above DISTRICT above CHANNEL above MANUAL (R67). -/
def MoveClass.rank : MoveClass → Nat
  | .sendOut => 3
  | .district => 2
  | .channel => 1
  | .manual => 0

/-- The rank of an entry's class: the highest among its requesters. -/
def QueueEntry.rank (e : QueueEntry) : Nat := (e.requesters.map fun r => r.cls.rank).foldl max 0

/-- The class of an entry. -/
def QueueEntry.cls (e : QueueEntry) : MoveClass :=
  match e.rank with
  | 3 => .sendOut
  | 2 => .district
  | 1 => .channel
  | _ => .manual

/-- CHANNEL and MANUAL entries share the limited places (R63). -/
def MoveClass.limited (k : MoveClass) : Bool := decide (k.rank ≤ 1)

/-- The queued CHANNEL and MANUAL entries (R63, R75). -/
def limitedCount (q : List QueueEntry) : Nat := (q.filter fun e => e.cls.limited).length

/-- No place is left for a new entry of a class (R63). -/
def placesFull (q : List QueueEntry) (k : MoveClass) : Bool :=
  decide (Config.queuePlaces ≤ q.length) || (k.limited && decide (Config.limitedPlaces ≤ limitedCount q))

/-- The claim under which a requester asks its moves (R61). -/
def Requester.holdsUnder (r : Requester) (k : Claim) : Bool :=
  match r with
  | .selector => decide (k = .selector)
  | .isolation h => decide (k = .isolation h)
  | .district d => decide (k = .district d)
  | .channel c => decide (k = .channel c)
  | .host => decide (k = .unclaimed)

/-- The requester a claimant asks as. -/
def Claim.requester : Claim → Option Requester
  | .unclaimed => none
  | .selector => some .selector
  | .channel c => some (.channel c)
  | .district d => some (.district d)
  | .isolation h => some (.isolation h)

def Requester.block : Requester → Option Block
  | .selector => some .selector
  | .isolation _ => some .stock
  | .district _ => some .district
  | .channel _ => some .channel
  | .host => none

/-- A requester joins a list once. -/
def joinRequesters (rs : List Requester) (r : Requester) : List Requester := if r ∈ rs then rs else rs ++ [r]

/-- The arbiter's choice in the move queue: the highest class, and in it the earliest arrival (R67). -/
def bestEntry : List QueueEntry → Option QueueEntry
  | [] => none
  | e :: rest =>
    match bestEntry rest with
    | some f => if e.rank < f.rank then some f else some e
    | none => some e

/-- The valves a claimant holds. -/
def State.claimed (s : State) (k : Claim) : List ValveId := allValves.filter fun v => (s.valve v).claim = k

/-! ## The outlet map (07) -/

/-- The number of enabled outlets below an outlet. -/
def enabledBelow (m : OutletMap) (p : OutletId) : Nat :=
  (allOutlets.filter fun q => decide (q.val < p.val) && m.enable[q]).length

/-- The district mapped to an outlet (R117). -/
def OutletMap.districtAt (m : OutletMap) (p : OutletId) : Option DistrictId :=
  match m.mode with
  | .standard =>
    if m.enable[p] then (if h : enabledBelow m p < 6 then some ⟨enabledBelow m p, h⟩ else none) else none
  | .remap => m.table[p]

/-- The outlet mapped to a district, or none (R117). -/
def OutletMap.outletOf (m : OutletMap) (d : DistrictId) : Option OutletId :=
  allOutlets.find? fun p => decide (m.districtAt p = some d)

/-- The district count: the number of mapped outlets (R117). -/
def OutletMap.districtCount (m : OutletMap) : Nat := (allOutlets.filter fun p => (m.districtAt p).isSome).length

/-- The outlet of a district under the map as it stands. -/
def State.outletOf (s : State) (d : DistrictId) : Option OutletId := s.settings.map.outletOf d

/-! ## Setpoints and the band (07, 08) -/

/-- The setpoint of the last point not after a minute, given the one before it. -/
def lastPoint (minute : Nat) : List SchedulePoint → Option Nat → Option Nat
  | [], best => best
  | p :: rest, best => lastPoint minute rest (if p.minute ≤ minute then some p.setpoint else best)

/-- The setpoint of the last point of a schedule. -/
def finalPoint : List SchedulePoint → Nat
  | [] => 0
  | [p] => p.setpoint
  | _ :: rest => finalPoint rest

/-- The scheduled setpoint at a minute (R122). -/
def scheduledAt (points : List SchedulePoint) (minute : Nat) : Nat :=
  (lastPoint minute points none).getD (finalPoint points)

/-- The setpoint in force by the first row of R123 that applies. -/
def setpointRow (x : DistrictSettings) (held : Option Nat) (k : Condition) (releaseActive : Bool) (minute : Nat) :
    InForce :=
  if k = .critical then { value := x.economy, row := 1 }
  else
    match held with
    | some n => { value := n, row := 2 }
    | none =>
      if k = .reserve ∧ x.economyOn = true ∧ releaseActive = false then { value := x.economy, row := 3 }
      else { value := scheduledAt x.schedule minute, row := 4 }

/-- The setpoint in force of a district that has an outlet, as the records stand (R123). -/
def State.setpointNow (s : State) (d : DistrictId) : InForce :=
  setpointRow (s.districtSettings d) (s.district d).held s.stock.condition s.stock.release.isSome s.clock.minute

/-- The side of a sample outside the band about a setpoint; none inside, both ends being inside (R138). -/
def excursion (x : DistrictSettings) (setpoint sample : Nat) : Option Side :=
  if sample + x.lowMargin < setpoint then some .low
  else if setpoint + x.highMargin < sample then some .high
  else none

/-- LIVE and WARN: the states in which samples are judged and the governor is loaded (07, district states). -/
def DistrictState.loaded (k : DistrictState) : Bool := decide (k = .live) || decide (k = .warn)

/-! ## Orders (05) -/

/-- The running statuses (R77). -/
def OrderStatus.running : OrderStatus → Bool
  | .waitPath | .opening | .flowing | .suspended | .closing => true
  | .empty | .loaded | .done | .guardEnd | .timedOut | .failed | .aborted => false

/-- A channel's current slot. -/
def State.currentSlot (s : State) (c : ChannelId) : Option (OrderId × OrderSlot) :=
  (s.channel c).current.map fun n => (n, s.order n)

/-- A slot is current on a channel. -/
def State.currentOn (s : State) (c : ChannelId) (n : OrderId) : Bool := decide ((s.channel c).current = some n)

/-- A slot is current on either channel (R78). -/
def State.isCurrent (s : State) (n : OrderId) : Bool := s.currentOn .a n || s.currentOn .b n

/-- A RECEIVE or TRANSFER. -/
def Order.movesGas (o : Order) : Bool := decide (o.kind = some .receive) || decide (o.kind = some .transfer)

/-- The path valves of an order (R83). -/
def Order.path (o : Order) : List ValveId :=
  match o.kind with
  | some .receive => (o.dest.map inletValve).toList
  | some .transfer => [suctionValve, deliveryValve] ++ (o.dest.map inletValve).toList
  | some .admitSource | some .cut => (o.source.map sourceValve).toList
  | some .wait | none => []

/-- The flow valve of an order: HkIN for a RECEIVE, TDEL for a TRANSFER (R107). -/
def Order.flowValve (o : Order) : Option ValveId :=
  match o.kind with
  | some .receive => o.dest.map inletValve
  | some .transfer => some deliveryValve
  | _ => none

/-- A holder is named by the current order of a channel, as destination or source, in a running status (R24). -/
def State.namedBy (s : State) (c : ChannelId) (h : HolderId) : Bool :=
  match s.currentSlot c with
  | some (_, x) => x.status.running && x.order.movesGas && (decide (x.order.dest = some h) || decide (x.order.src = some h))
  | none => false

/-! ## The decode (03) -/

/-- A holder is usable (R38): configured, in SERVICE, AT LOW lowered, its outlet without fault, and not the destination
of a TRANSFER reported as current by either channel. -/
def State.usable (s : State) (h : HolderId) : Bool :=
  (s.holderSettings h).configured && decide ((s.holder h).state = .service) && !(s.holder h).atLow
    && decide ((s.valve (outletValve h)).fault = .noFault)
    && !decide ((s.channel .a).reported = some h) && !decide ((s.channel .b).reported = some h)

/-- An entry is eligible by its class (R39). -/
def State.classEligible (s : State) (k : EntryClass) : Bool :=
  match k with
  | .ordinary => true
  | .reserve => s.stock.release.isSome || decide (s.stock.condition = .critical)

/-- An entry gives its holder: enabled, eligible, the stock inside its window, the holder usable and not excluded (R39). -/
def State.entryGives (s : State) (except : Option HolderId) (e : SupplyEntry) : Bool :=
  decide (e.low ≤ e.high) && s.classEligible e.cls
    && decide (e.low * 1000 ≤ s.yardStock) && decide (s.yardStock ≤ e.high * 1000 + 999)
    && s.usable e.holder && !decide (except = some e.holder)

/-- The decode: the holder of the first entry that gives one (R39). -/
def State.decode (s : State) (except : Option HolderId) : Option HolderId :=
  (s.settings.supply.toList.find? fun e => s.entryGives except e).map fun e => e.holder

/-! ## Accounts (09) -/

/-- The column of a meter under the map as it stands (R151). -/
def meterColumn (m : OutletMap) (k : MeterId) : Fin 12 :=
  if h : k.val < 4 then ⟨k.val, by omega⟩
  else if h2 : k.val < 10 then
    match m.districtAt ⟨k.val - 4, by omega⟩ with
    | some d => ⟨d.val + 4, by omega⟩
    | none => 10
  else 11

/-- A volume held at 4,294,967,295 (R151, R168). -/
def capVolume (n : Nat) : Nat := if n < Config.maxVolume then n else Config.maxVolume

/-- Make: the four source columns (R159). -/
def makeOf (cols : Vector Nat 12) : Nat := cols[0] + cols[1] + cols[2] + cols[3]

/-- Send-out: the six district columns and the unassigned column (R159). -/
def sendOutOf (cols : Vector Nat 12) : Nat :=
  cols[4] + cols[5] + cols[6] + cols[7] + cols[8] + cols[9] + cols[10]

/-- A signed figure held at the magnitude 4,294,967,295 (R159). -/
def capSigned (n : Int) : Int :=
  if (Config.maxVolume : Int) < n then Config.maxVolume
  else if n < -(Config.maxVolume : Int) then -(Config.maxVolume : Int)
  else n

/-- The unaccounted figure of a slot (R159): absent where a stock was incomplete or was read at a START that found a
content UNKNOWN. -/
def unaccountedOf (columns : Vector Nat 12) (atOpen atClose : StockReading) (openedAtStart : Bool) : Option Int :=
  if atOpen.complete && atClose.complete && !openedAtStart then
    some (capSigned ((makeOf columns : Int) - sendOutOf columns - ((atClose.stock : Int) - atOpen.stock)))
  else none

/-- DISCREPANT: the figure is present and its magnitude exceeds the threshold (R160). -/
def discrepantOf (figure : Option Int) (threshold : Nat) : Bool :=
  match figure with
  | some n => decide (threshold < n.natAbs)
  | none => false

/-- The half in a state, where there is one; A first. -/
def State.halfIn (s : State) (k : HalfState) : Option HalfId :=
  if (s.half .a).state = k then some .a else if (s.half .b).state = k then some .b else none

/-! ## Checks of settings -/

/-- The margin and silence limit lie in range (R15, holder record). -/
def marginOk (x : HolderSettings) : Bool :=
  decide (x.margin ≤ 100000) && decide (30 ≤ x.silence) && decide (x.silence ≤ 600)

/-- The checks of R15 for configured set to yes. -/
def holderSettingsOk (x : HolderSettings) : Bool :=
  decide (1 ≤ x.capacity) && decide (x.capacity ≤ 16000000) && decide (x.crownStop < x.capacity)
    && decide (x.lowStop < x.crownStop) && decide (x.lowStop + 2 * x.margin < x.crownStop) && marginOk x

/-- The minutes of a schedule are strictly ascending (R121). -/
def ascending : List SchedulePoint → Bool
  | [] => true
  | [_] => true
  | p :: q :: rest => decide (p.minute < q.minute) && ascending (q :: rest)

/-- A setpoint lies from 10 to 600 (R120). -/
def setpointOk (n : Nat) : Bool := decide (10 ≤ n) && decide (n ≤ 600)

/-- The checks of R121 on a list of points. -/
def scheduleOk (points : List SchedulePoint) : Bool :=
  decide (1 ≤ points.length) && decide (points.length ≤ 8)
    && (points.all fun p => decide (p.minute ≤ 1439) && setpointOk p.setpoint) && ascending points

/-- The ranges of a district's seven settings (R120). -/
def districtSettingsOk (x : DistrictSettings) : Bool :=
  setpointOk x.economy && decide (1 ≤ x.lowMargin) && decide (x.lowMargin ≤ 200) && decide (1 ≤ x.highMargin)
    && decide (x.highMargin ≤ 200) && decide (x.lockout ≤ 600) && decide (x.qualify ≤ 60)
    && decide (x.repeatWindow ≤ 1800)

end Sys2Proof.Machine
end

