-- ==== Sys2Proof/Machine/Operands.lean ====
section
/-!
DEFINITION. Sys2Proof/Machine/Operands.lean: the fields of bodies, read and written under R182, the order record (R183),
the slot record and its check word (R184, R161), the reply statuses (R180) and the bodies of the notices (R185). The groups
of fields for which R182 gives no layout of their own follow log 8.
-/

namespace Sys2Proof.Machine

/-! ## Reading a body -/

/-- The number in `len` bytes at an offset of a body. -/
def field (body : List Byte) (off len : Nat) : Nat := ofBytes ((body.drop off).take len)

/-- A yes-or-no flag: 00h or 01h, anything else outside the encoding (R182). -/
def flagOf (n : Nat) : Option Bool :=
  match n with
  | 0 => some false
  | 1 => some true
  | _ => none

/-- A number of a plant item counted from 1, as the item counted from 0. -/
def numberOf (k n : Nat) : Option (Fin k) := if h : 1 ≤ n ∧ n ≤ k then some ⟨n - 1, by omega⟩ else none

/-- A channel: 01h for A and 02h for B (R182). -/
def channelOf (n : Nat) : Option ChannelId :=
  match n with
  | 1 => some .a
  | 2 => some .b
  | _ => none

/-- A slot number 00h to 1Fh. -/
def slotOf (n : Nat) : Option OrderId := if h : n < 32 then some ⟨n, h⟩ else none

/-- A next field: 00h to 1Fh, or FFh for END; the outer none is a value that is neither. -/
def nextOf (n : Nat) : Option (Option OrderId) := if n = 255 then some none else (slotOf n).map some

/-- A target or position of a move: OPEN stands first in the list of positions, CLOSED second (R57, R182). -/
def limitOf (n : Nat) : Option Limit :=
  match n with
  | 1 => some .opened
  | 2 => some .closed
  | _ => none

/-- One bit of a byte. -/
def bitOf (n k : Nat) : Bool := decide (n / 2 ^ k % 2 = 1)

/-! ## Writing a body -/

/-- The byte of a number. -/
def b1 (n : Nat) : List Byte := [toByte n]

/-- A volume in cu ft: 4 bytes, unsigned (R182); above 4,294,967,295 a free value (log 7). -/
def volumeBytes (n : Nat) : List Byte := if n ≤ Config.maxVolume then be4 n else be4 (Config.wideVolume n)

/-- A value in LU, a pressure, a minute, a gas-day number, seconds, a count or a weight: 2 bytes (R182); above 65,535 a
free value (log 7). -/
def countBytes (n : Nat) : List Byte := if n ≤ 65535 then be2 n else be2 (Config.wideCount n)

/-- A signed volume: a sign byte and the magnitude (R182). -/
def signedBytes (n : Int) : List Byte := b1 (if n < 0 then 1 else 0) ++ volumeBytes n.natAbs

/-- A yes-or-no flag (R182). -/
def flagBytes (b : Bool) : List Byte := b1 (if b then 1 else 0)

/-- A field that may be absent: 01h and the field, or 00h and `len` zeros (R182). -/
def optionalBytes (len : Nat) (x : Option (List Byte)) : List Byte :=
  match x with
  | some bs => b1 1 ++ bs
  | none => b1 0 ++ List.replicate len 0#8

/-- A number given with "or none": 00h for none (R182). -/
def numberBytes {k : Nat} (x : Option (Fin k)) : List Byte :=
  match x with
  | some i => b1 (i.val + 1)
  | none => b1 0

/-- A slot number, FFh for END or none (R182). -/
def slotBytes (x : Option OrderId) : List Byte :=
  match x with
  | some n => b1 n.val
  | none => b1 255

/-- A list of varying length (R182). -/
def listBytes (xs : List (List Byte)) : List Byte := b1 xs.length ++ xs.flatten

/-- A channel (R182). -/
def channelNumber : ChannelId → Nat
  | .a => 1
  | .b => 2

/-- A position of a gas day and interval: 3 bytes (R182). -/
def intervalBytes (p : Interval) : List Byte := countBytes p.day ++ b1 p.index

/-! ## Places in lists (R182: the place in the list as the specifying rule or table first gives it, from 1) -/

def phasePlace : Phase → Nat
  | .setup => 1
  | .run => 2
def holderStatePlace : HolderState → Nat
  | .service => 1
  | .isolating => 2
  | .isolated => 3
  | .fault => 4
def holderFaultPlace : HolderFault → Nat
  | .liftSilent => 1
  | .liftRange => 2
def guardPlace : Guard → Nat
  | .crown => 1
  | .low => 2
/-- raised, lowered (holder record); RAISED, CLEARED (R18). -/
def raisedPlace : Bool → Nat
  | true => 1
  | false => 2
def conditionPlace : Condition → Nat
  | .unknown => 1
  | .critical => 2
  | .reserve => 3
  | .working => 4
  | .crown => 5
def classPlace : EntryClass → Nat
  | .ordinary => 1
  | .reserve => 2
def selectorStatePlace : SelectorState → Nat
  | .noHolder => 1
  | .steady => 2
  | .changeover => 3
def changeKindPlace : ChangeKind → Nat
  | .decoded => 1
  | .directed => 2
  | .loss => 3
  | .tidy => 4
def changeStepPlace : ChangeStep → Nat
  | .openingNew => 1
  | .closingOld => 2
  | .backingOut => 3
def outcomePlace : ChangeOutcome → Nat
  | .complete => 1
  | .oldFaulted => 2
  | .abandoned => 3
def positionPlace : Position → Nat
  | .opened => 1
  | .closed => 2
  | .movingOpen => 3
  | .movingClosed => 4
  | .unknown => 5
def limitPlace : Limit → Nat
  | .opened => 1
  | .closed => 2
def valveFaultPlace : ValveFault → Nat
  | .noFault => 1
  | .stuck => 2
  | .disagree => 3
/-- A claim: its form, and the district or holder number in a second byte (R182). -/
def claimBytes : Claim → List Byte
  | .unclaimed => b1 1 ++ b1 0
  | .selector => b1 2 ++ b1 0
  | .channel .a => b1 3 ++ b1 0
  | .channel .b => b1 4 ++ b1 0
  | .district d => b1 5 ++ b1 (d.val + 1)
  | .isolation h => b1 6 ++ b1 (h.val + 1)
def moveClassPlace : MoveClass → Nat
  | .sendOut => 1
  | .district => 2
  | .channel => 3
  | .manual => 4
def causePlace : ProtectCause → Nat
  | .guard => 1
  | .holderFault => 2
  | .trip => 3
  | .contract => 4
  | .yardStop => 5
def kindPlace : Option OrderKind → Nat
  | none => 0
  | some .receive => 1
  | some .transfer => 2
  | some .admitSource => 3
  | some .cut => 4
  | some .wait => 5
def formPlace : Option TargetForm → Nat
  | none => 0
  | some .minute => 1
  | some .duration => 2
def dispositionPlace : Option Disposition → Nat
  | none => 0
  | some .leave => 1
  | some .close => 2
def statusPlace : OrderStatus → Nat
  | .empty => 1
  | .loaded => 2
  | .waitPath => 3
  | .opening => 4
  | .flowing => 5
  | .suspended => 6
  | .closing => 7
  | .done => 8
  | .guardEnd => 9
  | .timedOut => 10
  | .failed => 11
  | .aborted => 12
def endCausePlace : EndCause → Nat
  | .target => 1
  | .crownGuard => 2
  | .lowGuard => 3
  | .crownStock => 4
  | .sourceLost => 5
  | .pathTimeout => 6
  | .timeLimit => 7
  | .holderNotReady => 8
  | .holderFault => 9
  | .valveFault => 10
  | .pinRefused => 11
  | .contractSpent => 12
  | .stopped => 13
  | .yardStop => 14
def channelStatePlace : ChannelState → Nat
  | .idle => 1
  | .running => 2
  | .suspended => 3
  | .stopping _ => 4
  | .halted => 5
def haltPlace : HaltCause → Nat
  | .badLink => 1
  | .slotBusy => 2
  | .orderError => 3
  | .yardStop => 4
def reasonPlace : ChainReason → Nat
  | .reachedEnd => 1
  | .stopped => 2
def modePlace : MapMode → Nat
  | .standard => 1
  | .remap => 2
def districtStatePlace : DistrictState → Nat
  | .shut => 1
  | .opening => 2
  | .live => 3
  | .warn => 4
  | .closing => 5
  | .tripped => 6
  | .fault => 7
def sidePlace : Side → Nat
  | .low => 1
  | .high => 2
def halfStatePlace : HalfState → Nat
  | .filling => 1
  | .ready => 2
  | .empty => 3
def saveFailurePlace : SaveFailure → Nat
  | .mismatch => 1
  | .timeout => 2
/-- A wait of a selector or district move, where there is one: the end of its own drive, the end of another's drive, a
queue place, a protective close; 00h for none (log 8). -/
def moveWaitPlace : MoveWait → Nat
  | .unasked => 0
  | .answer => 1
  | .drive => 2
  | .place => 3
  | .shielded => 4

/-! ## Reply statuses (R180) -/

inductive Status where
  | ok
  | accepted
  | holdIgnored
  | busy
  | wrongPhase
  | unknownKind
  | badField
  | noSuch
  | inUse
  | frozen
  | noAlternative
  | alreadyHeld
  | notHoldable
  | notRunning
  | queueFull
  | isProtected
  | contractSpent
  | clockBack
  | notOldest
  | notPosted
  | yardStopped
  | faulted
deriving DecidableEq, Repr

/-- The code of a status (R180). -/
def Status.code : Status → Nat
  | .ok => 0x00
  | .accepted => 0x01
  | .holdIgnored => 0x02
  | .busy => 0x10
  | .wrongPhase => 0x11
  | .unknownKind => 0x12
  | .badField => 0x13
  | .noSuch => 0x14
  | .inUse => 0x15
  | .frozen => 0x16
  | .noAlternative => 0x17
  | .alreadyHeld => 0x18
  | .notHoldable => 0x19
  | .notRunning => 0x1A
  | .queueFull => 0x1B
  | .isProtected => 0x1C
  | .contractSpent => 0x1D
  | .clockBack => 0x1E
  | .notOldest => 0x1F
  | .notPosted => 0x20
  | .yardStopped => 0x21
  | .faulted => 0x22

/-- A reply body of a status alone (R179). -/
def Status.body (k : Status) : List Byte := b1 k.code

/-! ## Records carried whole -/

/-- The flags byte of the order record (R183). -/
def orderFlags (o : Order) : Nat :=
  (if o.forceSource then 1 else 0) + (if o.continueOnError then 2 else 0) + (if o.notify then 4 else 0)

/-- The end content form and value of the order record (R183). -/
def endContentBytes (x : Option (Option Nat)) : List Byte :=
  match x with
  | none => b1 0 ++ be4 0
  | some (some n) => b1 1 ++ volumeBytes n
  | some none => b1 2 ++ be4 0

/-- The order record, 25 bytes (R183). -/
def orderRecord (x : OrderSlot) : List Byte :=
  b1 (kindPlace x.order.kind) ++ numberBytes x.order.dest ++ numberBytes x.order.src ++ numberBytes x.order.source
    ++ b1 (formPlace x.order.form) ++ volumeBytes x.order.target ++ countBytes x.order.timeLimit
    ++ b1 (dispositionPlace x.order.disposition) ++ b1 (orderFlags x.order) ++ slotBytes x.order.next
    ++ b1 (statusPlace x.status)
    ++ b1 (match x.endCause with
           | some k => endCausePlace k
           | none => 0)
    ++ volumeBytes x.counted ++ endContentBytes x.endContent

/-- The marks of a half or slot as bits 0 to 5, and DISCREPANT as bit 6 (R184). -/
def marksByte (m : Marks) (discrepant : Bool) : Nat :=
  (if m.overrun then 1 else 0) + (if m.dayCrossed then 2 else 0) + (if m.powerGap then 4 else 0)
    + (if m.clockSet then 8 else 0) + (if m.mapChanged then 16 else 0) + (if m.basisChanged then 32 else 0)
    + (if discrepant then 64 else 0)

/-- The twelve columns, 4 bytes each (R184). -/
def columnBytes (c : Vector Nat 12) : List Byte := (c.toList.map volumeBytes).flatten

/-- A stock and its completeness (R184). -/
def stockBytes (r : StockReading) : List Byte := volumeBytes r.stock ++ flagBytes r.complete

/-- The unaccounted figure: present byte, sign and magnitude, all 0 when absent (R184). -/
def figureBytes (x : Option Int) : List Byte := optionalBytes 5 (x.map signedBytes)

/-- The first 74 bytes of the slot record, with a posting state (R184). -/
def slotFields (x : Slot) (posting : Nat) : List Byte :=
  intervalBytes x.first ++ intervalBytes x.last ++ countBytes x.span ++ columnBytes x.columns ++ stockBytes x.atOpen
    ++ stockBytes x.atClose ++ figureBytes x.unaccounted ++ b1 (marksByte x.marks x.discrepant) ++ b1 posting

/-- The check word: the sum modulo 65,536 of the 74 bytes at offsets 0 to 73, with the posting state at 01h (R161,
R184). -/
def checkWord (x : Slot) : Nat := byteSum (slotFields x 1) % 65536

/-- The slot record, 76 bytes; a void check word is sent as 0000h (R184). -/
def slotRecord (x : Slot) : List Byte :=
  slotFields x (if x.original then 1 else 2) ++ be2 (if x.original then x.check else 0)

/-! ## Notices (R185) -/

/-- The kind byte of a notice (R185). -/
def Notice.kind : Notice → Nat
  | .orderEnded .. => 0x80
  | .chainEnded .. => 0x81
  | .channelHalted .. => 0x82
  | .changeoverBegun .. => 0x83
  | .changeoverDone .. => 0x84
  | .sendOutLost .. => 0x85
  | .stockCondition .. => 0x86
  | .releaseExpired => 0x87
  | .holderGuard .. => 0x88
  | .holderFault .. => 0x89
  | .valveFault .. => 0x8A
  | .districtWarn .. => 0x8B
  | .districtTripped .. => 0x8C
  | .districtState .. => 0x8D
  | .slotPosted .. => 0x8E
  | .dayBookFull .. => 0x8F
  | .discrepancy .. => 0x90
  | .contractCut .. => 0x91
  | .settingsSaved .. => 0x92
  | .saveFailed .. => 0x93
  | .yardStop => 0x94
  | .yardStopCleared => 0x95
  | .powerGap .. => 0x96

/-- The kind byte of NOTICES LOST (R185). -/
def lostKind : Nat := 0x97

/-- The lower band end of DISTRICT WARN; below 0 a free value (log 7). -/
def bandEndBytes (n : Int) : List Byte := if 0 ≤ n then countBytes n.toNat else be2 (Config.lowBandEnd n)

/-- The body of a notice: the fields the rule placing it names, in its order (R182, R185). The generation of SETTINGS SAVED
takes two bytes as a count, and the band of DISTRICT WARN is two pressures, its lower end first (DESIGN CHOICE, log 8). -/
def Notice.body : Notice → List Byte
  | .orderEnded c slot kind status cause counted endContent =>
    b1 (channelNumber c) ++ b1 slot.val ++ b1 (kindPlace kind) ++ b1 (statusPlace status) ++ b1 (endCausePlace cause)
      ++ volumeBytes counted ++ endContentBytes endContent
  | .chainEnded c last reason => b1 (channelNumber c) ++ b1 last.val ++ b1 (reasonPlace reason)
  | .channelHalted c cause slot => b1 (channelNumber c) ++ b1 (haltPlace cause) ++ slotBytes slot
  | .changeoverBegun kind old new => b1 (changeKindPlace kind) ++ numberBytes old ++ numberBytes new
  | .changeoverDone kind old new outcome =>
    b1 (changeKindPlace kind) ++ numberBytes old ++ numberBytes new ++ b1 (outcomePlace outcome)
  | .sendOutLost h => b1 (h.val + 1)
  | .stockCondition old new stock => b1 (conditionPlace old) ++ b1 (conditionPlace new) ++ volumeBytes stock
  | .releaseExpired => []
  | .holderGuard h g raised content =>
    b1 (h.val + 1) ++ b1 (guardPlace g) ++ b1 (raisedPlace raised) ++ volumeBytes content
  | .holderFault h cause => b1 (h.val + 1) ++ b1 (holderFaultPlace cause)
  | .valveFault v fault position target =>
    b1 (v.val + 1) ++ b1 (valveFaultPlace fault) ++ b1 (positionPlace position)
      ++ b1 (match target with
             | some t => limitPlace t
             | none => 0)
  | .districtWarn d p side sample setpoint low high =>
    b1 (d.val + 1) ++ b1 (p.val + 1) ++ b1 (sidePlace side) ++ countBytes sample ++ countBytes setpoint
      ++ bandEndBytes low ++ countBytes high
  | .districtTripped d p side sample setpoint found =>
    b1 (d.val + 1) ++ b1 (p.val + 1) ++ b1 (sidePlace side) ++ countBytes sample ++ countBytes setpoint
      ++ b1 (positionPlace found)
  | .districtState d p old new setpoint fault =>
    b1 (d.val + 1) ++ numberBytes p ++ b1 (districtStatePlace old) ++ b1 (districtStatePlace new)
      ++ countBytes (setpoint.getD 0)
      ++ optionalBytes 2 (fault.map fun x => b1 (valveFaultPlace x.1) ++ b1 (positionPlace x.2))
  | .slotPosted first span marks discrepant unaccounted count =>
    intervalBytes first ++ countBytes span ++ b1 (marksByte marks discrepant) ++ figureBytes unaccounted
      ++ countBytes count
  | .dayBookFull first => intervalBytes first
  | .discrepancy first unaccounted => intervalBytes first ++ signedBytes unaccounted
  | .contractCut source cap take found =>
    b1 (source.val + 1) ++ volumeBytes cap ++ volumeBytes take ++ b1 (positionPlace found)
  | .settingsSaved generation => countBytes generation
  | .saveFailed cause => b1 (saveFailurePlace cause)
  | .yardStop => []
  | .yardStopCleared => []
  | .powerGap lastPosted lost first =>
    optionalBytes 3 (lastPosted.map intervalBytes) ++ b1 (if lost then 2 else 1) ++ intervalBytes first

/-- The frame the transmitter is sending (R186, R187). -/
def LinkPort.frame (l : LinkPort) : Option Frame :=
  match l.sending with
  | .nothing => none
  | .reply => l.reply
  | .busyReply => l.busyReply
  | .lost => l.lost.map fun x => { kind := toByte lostKind, tag := x.number, body := countBytes x.count }
  | .notice =>
    match l.queue with
    | [] => none
    | q :: _ => some { kind := toByte q.notice.kind, tag := q.number.getD 0, body := q.notice.body }

end Sys2Proof.Machine
end

