-- ==== Sys2Proof/Machine/ValveUnit.lean ====
section
/-!
DEFINITION. Sys2Proof/Machine/ValveUnit.lean: the valve unit (04): claims, the move queue, the protect list, the arbiter
of the actuator main, and what it tells its neighbours. A request answers at once; what follows from it is handed on as
words.
-/

namespace Sys2Proof.Machine

/-! ## Claims (R59, R60) -/

/-- The MANUAL request for a valve leaves the queue (R59); an entry with no requester left goes. -/
def dropManual (q : List QueueEntry) (v : ValveId) : List QueueEntry :=
  (q.map fun e => if e.valve = v then { e with requesters := e.requesters.filter fun r => r ≠ .host } else e).filter
    fun e => !e.requesters.isEmpty

/-- Sets the claim field of a valve. -/
def State.putClaim (s : State) (v : ValveId) (k : Claim) : State := s.putValve v { s.valve v with claim := k }

/-- What a claim request is answered (R59). -/
inductive ClaimAnswer where
  | granted
  | inUse
  | faulted
  | wrongPhase
deriving DecidableEq, Repr

/-- A claim request, whole or not at all (R59). -/
def claimRequest (k : Claim) (vs : List ValveId) (s : State) : ClaimAnswer × Effect :=
  if !s.running then (.wrongPhase, s, [])
  else if vs.any fun v => decide ((s.valve v).fault ≠ .noFault) then (.faulted, s, [])
  else if vs.any fun v => decide ((s.valve v).claim ≠ .unclaimed ∧ (s.valve v).claim ≠ k) then (.inUse, s, [])
  else
    let claimed := vs.foldl (fun t v => t.putClaim v k) s
    let q := vs.foldl dropManual claimed.valves.queue
    let freed := List.replicate (claimed.valves.queue.length - q.length) Act.placeFreed
    (.granted, claimed.putValves { claimed.valves with queue := q }, freed)

/-- A claimant releases claims, as one event; the channel unit is told (R60). -/
def releaseClaims (k : Claim) (vs : List ValveId) (s : State) : Effect :=
  let held := vs.filter fun v => (s.valve v).claim = k
  if held.isEmpty then (s, [])
  else (held.foldl (fun t v => t.putClaim v .unclaimed) s, [.claimReleased])

/-! ## Move requests (R61 to R64) -/

/-- What a move request is answered (R61). -/
inductive Answer where
  | done
  | accepted
  | inUse
  | faulted
  | isProtected
  | queueFull
deriving DecidableEq, Repr

/-- Work brought to an idle main makes the arbiter choose (R67). -/
def arbiterCall (s : State) : List Act := if s.valves.main = .idle then [.arbiter] else []

/-- A block refused with QUEUE FULL joins the set of R63. -/
def noteRefused (r : Requester) (s : State) : State :=
  match r.block with
  | none => s
  | some b => s.putValves { s.valves with refused := if b ∈ s.valves.refused then s.valves.refused else s.valves.refused ++ [b] }

/-- A new entry of the move queue, subject to the place limits (R63). -/
def newEntry (r : Requester) (v : ValveId) (t : Limit) (s : State) : Answer × Effect :=
  if placesFull s.valves.queue r.cls then (.queueFull, noteRefused r s, [])
  else
    let s1 := s.putValves { s.valves with
      queue := s.valves.queue ++ [{ valve := v, target := t, requesters := [r] }] }
    (.accepted, s1, arbiterCall s1)

/-- The queue with the entry of a valve changed. -/
def mapEntry (q : List QueueEntry) (v : ValveId) (f : QueueEntry → QueueEntry) : List QueueEntry :=
  q.map fun e => if e.valve = v then f e else e

/-- The queue without the entry of a valve. -/
def dropEntry (q : List QueueEntry) (v : ValveId) : List QueueEntry := q.filter fun e => e.valve ≠ v

/-- A request for a valve that is already in the move queue (R62). -/
def mergeRequest (r : Requester) (e : QueueEntry) (t : Limit) (s : State) : Answer × Effect :=
  if e.target = t then
    let joined : QueueEntry := { e with requesters := joinRequesters e.requesters r }
    let freed := if e.cls.limited && !joined.cls.limited then [Act.placeFreed] else []
    (.accepted, s.putValves { s.valves with queue := mapEntry s.valves.queue e.valve fun _ => joined }, freed)
  else if e.requesters = [r] ∨ e.rank < r.cls.rank then
    let without := s.putValves { s.valves with queue := dropEntry s.valves.queue e.valve }
    match newEntry r e.valve t without with
    | (.queueFull, _) => (.queueFull, noteRefused r s, [])
    | (a, s1, acts) =>
      (a, s1, (if e.requesters = [r] then [] else e.requesters.map fun q => .tellRequester q e.valve .superseded) ++ acts)
  else (.inUse, s, [])

/-- A requester joins the drive of the actuator main. -/
def Main.join (m : Main) (r : Requester) : Main :=
  match m with
  | .chosen d => .chosen { d with requesters := joinRequesters d.requesters r }
  | .driving d left => .driving { d with requesters := joinRequesters d.requesters r } left
  | m => m

/-- A requester joins the protective close of a valve (R61). -/
def joinProtect (l : List ProtectEntry) (v : ValveId) (r : Requester) : List ProtectEntry :=
  l.map fun e => if e.valve = v then { e with requesters := joinRequesters e.requesters r } else e

/-- A move request, taken by the first case of R61 that holds. -/
def moveRequest (r : Requester) (v : ValveId) (t : Limit) (s : State) : Answer × Effect :=
  if !r.holdsUnder (s.valve v).claim then (.inUse, s, [])
  else if (s.valve v).fault ≠ .noFault then (.faulted, s, [])
  else if t = .opened ∧ s.shielded v = true then (.isProtected, s, [])
  else
    match s.driveOf v with
    | some d =>
      if d.target = t then (.accepted, s.putValves { s.valves with main := s.valves.main.join r }, [])
      else (.inUse, s, [])
    | none =>
      if (s.protectEntry v).isSome then
        (.accepted, s.putValves { s.valves with protect := joinProtect s.valves.protect v r }, [])
      else
        match s.queueEntry v with
        | some e => mergeRequest r e t s
        | none => if (s.valve v).position = limitPosition t then (.done, s, []) else newEntry r v t s

/-- A requester withdraws a waiting request (R64): from a queue entry, which goes when nobody is left in it and frees a
place, or from a protective close, which stands. A drive is not withdrawn. -/
def withdraw (r : Requester) (v : ValveId) (s : State) : Effect :=
  match s.queueEntry v with
  | some e =>
    if r ∈ e.requesters then
      let left := e.requesters.filter fun q => q ≠ r
      if left.isEmpty then (s.putValves { s.valves with queue := dropEntry s.valves.queue v }, [.placeFreed])
      else
        (s.putValves { s.valves with queue := mapEntry s.valves.queue v fun x => { x with requesters := left } }, [])
    else (s, [])
  | none =>
    (s.putValves { s.valves with
      protect := s.valves.protect.map fun x =>
        if x.valve = v then { x with requesters := x.requesters.filter fun q => q ≠ r } else x }, [])

/-- Whether a requester has an open of a valve waiting in the move queue. -/
def State.hasQueuedOpen (s : State) (r : Requester) (v : ValveId) : Bool :=
  match s.queueEntry v with
  | some e => decide (e.target = .opened) && decide (r ∈ e.requesters)
  | none => false

/-! ## Protective closes (R65) -/

/-- The claimant of a valve is told that a protective close has been taken (R65). -/
def tellTaken (s : State) (v : ValveId) (cause : ProtectCause) : List Act :=
  match (s.valve v).claim with
  | .unclaimed => []
  | k => [.tellClaimant k v (.taken cause)]

def supersede (rs : List Requester) (v : ValveId) : List Act := rs.map fun r => .tellRequester r v .superseded

/-- The drive of the main turned to CLOSED as a protective one, its travel timer restarted with the limit stored
(R57, R65). -/
def Main.reverse (m : Main) (limit : Nat) : Main :=
  match m with
  | .chosen d => .chosen { d with target := .closed, requesters := [], protective := true }
  | .driving d _ => .driving { d with target := .closed, requesters := [], protective := true } limit
  | m => m

/-- The drive of the main made protective. -/
def Main.protective (m : Main) : Main :=
  match m with
  | .chosen d => .chosen { d with protective := true }
  | .driving d left => .driving { d with protective := true } left
  | m => m

/-- A protective close is taken by the first case of R65 that holds. A place that it frees is told after the SUPERSEDED
requesters and the claimant (DESIGN CHOICE, log 14); the requesters of a queued close on a CLOSED valve are told DONE
(log 26). -/
def protectiveClose (v : ValveId) (cause : ProtectCause) (s : State) : Effect :=
  match s.driveOf v with
  | some d =>
    if d.target = .opened then
      let s1 := s.putValves { s.valves with main := s.valves.main.reverse (s.settings.travel[v]) }
      let s2 :=
        match s.valves.main with
        | .driving _ _ => s1.putValve v { s1.valve v with position := .movingClosed }
        | _ => s1
      (s2, supersede d.requesters v ++ tellTaken s v cause)
    else (s.putValves { s.valves with main := s.valves.main.protective }, tellTaken s v cause)
  | none =>
    if (s.protectEntry v).isSome then (s, tellTaken s v cause)
    else
      let s1 := s.putValves { s.valves with queue := dropEntry s.valves.queue v }
      if (s.valve v).position = .closed then
        match s.queueEntry v with
        | some e =>
          (s1, (if e.target = .opened then supersede e.requesters v
                else e.requesters.map fun r => .tellRequester r v .done) ++ tellTaken s v cause ++ [.placeFreed])
        | none => (s, tellTaken s v cause)
      else
        let joined :=
          match s.queueEntry v with
          | some e => if e.target = .closed then e.requesters else []
          | none => []
        let s2 := s1.putValves { s1.valves with
          protect := s1.valves.protect ++ [{ valve := v, cause := cause, requesters := joined }] }
        let told :=
          match s.queueEntry v with
          | some e => (if e.target = .opened then supersede e.requesters v else [])
          | none => []
        let freed := if (s.queueEntry v).isSome then [Act.placeFreed] else []
        (s2, told ++ tellTaken s v cause ++ freed ++ arbiterCall s2)

/-! ## The arbiter and its drives (R67 to R71) -/

/-- The idle main chooses the head of the protect list, or with it empty the best entry of the queue; an entry that
leaves the queue frees a place, and the drive starts (R67). -/
def arbiterChoose (s : State) : Effect :=
  if s.valves.main = .idle then
    match s.valves.protect with
    | e :: rest =>
      let d : Drive := { valve := e.valve, target := .closed, requesters := e.requesters, protective := true }
      (s.putValves { s.valves with protect := rest, main := .chosen d }, [.driveStart])
    | [] =>
      match bestEntry s.valves.queue with
      | some e =>
        let d : Drive := { valve := e.valve, target := e.target, requesters := e.requesters, protective := false }
        (s.putValves { s.valves with queue := dropEntry s.valves.queue e.valve, main := .chosen d },
          [.placeFreed, .driveStart])
      | none => (s, [])
  else (s, [])

/-- Who is told at the end of a drive, in the order of R72: the requesters, the claimant where it is not among them,
the stock unit for a holder valve, the selector for a fault set on a holder outlet, the notice, and the arbiter. -/
def driveEndWords (d : Drive) (failed : Bool) (s : State) : List Act :=
  let v := d.valve
  let x := s.valve v
  let word : ValveWord := if failed then .failed else .done
  let claimWord : ValveWord :=
    if failed then .faultSet else if d.protective && decide (d.target = .closed) then .closeDone else .driveEnded
  let claimant :=
    match x.claim.requester with
    | some r => if r ∈ d.requesters then [] else [Act.tellClaimant x.claim v claimWord]
    | none => []
  (d.requesters.map fun r => .tellRequester r v word) ++ claimant
    ++ (holderOfValve v).toList.map Act.stockValve
    ++ (if failed && (outletHolder v).isSome then [Act.decodeTrigger] else [])
    ++ (if failed then [Act.notice (.valveFault v x.fault x.position (some d.target))] else [])
    ++ [.reportEnd]

/-- A drive ends completed: the position is the target and the main falls free (R69). -/
def completeDrive (d : Drive) (s : State) : Effect :=
  let s1 := s.putValve d.valve { s.valve d.valve with position := limitPosition d.target }
  let s2 := s1.putValves { s1.valves with main := .reporting }
  (s2, driveEndWords d false s2)

/-- A drive ends failed: STUCK, the position UNKNOWN (R70). -/
def failDrive (d : Drive) (s : State) : Effect :=
  let s1 := s.putValve d.valve { s.valve d.valve with position := .unknown, fault := .stuck }
  let s2 := s1.putValves { s1.valves with main := .reporting }
  (s2, driveEndWords d true s2)

/-- The chosen drive starts, or ends at once where the switch record already shows its target alone (R68). -/
def startDrive (s : State) : Effect :=
  match s.valves.main with
  | .chosen d =>
    if (s.valve d.valve).shown = some d.target then completeDrive d s
    else
      let moving : Position :=
        match d.target with
        | .opened => .movingOpen
        | .closed => .movingClosed
      let s1 := s.putValve d.valve { s.valve d.valve with position := moving }
      (s1.putValves { s1.valves with main := .driving d (s.settings.travel[d.valve]) }, [])
  | _ => (s, [])

/-- The end of R72: the main is idle and the arbiter chooses. -/
def endReport (s : State) : Effect :=
  match s.valves.main with
  | .reporting => (s.putValves { s.valves with main := .idle }, [.arbiter])
  | _ => (s, [])

/-- A place has freed: the set of refused blocks is emptied and each is told in its order (R63). -/
def freePlace (s : State) : Effect :=
  (s.putValves { s.valves with refused := [] },
    s.valves.refused.map fun b =>
      match b with
      | .selector => Act.selectorPlace
      | .stock => Act.stockPlace
      | .district => Act.districtPlace
      | .channel => Act.channelPlace)

/-- While a change of fault is told, an idle main waits for the end of the telling (R72). -/
def beginReport (s : State) : State × List Act :=
  if s.valves.main = .idle then (s.putValves { s.valves with main := .reporting }, [.reportEnd]) else (s, [])

/-- A switch that disagrees with the recorded position of a valve that is not driven (R71). A place that it frees is told
first, before the FAILED requesters and the claimant (DESIGN CHOICE, log 44: R71 and R72 give its place no order). -/
def disagreeFault (v : ValveId) (which : Limit) (s : State) : Effect :=
  let s1 := s.putValve v { s.valve v with fault := .disagree, position := limitPosition which }
  let s2 := s1.putValves { s1.valves with queue := dropEntry s1.valves.queue v }
  let (s3, last) := beginReport s2
  let requesters :=
    match s.queueEntry v with
    | some e => e.requesters
    | none => []
  let freed := if (s.queueEntry v).isSome then [Act.placeFreed] else []
  let k := (s.valve v).claim
  let claimant :=
    match k.requester with
    | some r => if r ∈ requesters then [] else [Act.tellClaimant k v .faultSet]
    | none => []
  (s3, freed ++ (requesters.map fun r => .tellRequester r v .failed) ++ claimant
    ++ (holderOfValve v).toList.map Act.stockValve
    ++ (if (outletHolder v).isSome then [Act.decodeTrigger] else [])
    ++ [.notice (.valveFault v .disagree (limitPosition which) none)] ++ last)

/-- The making of a switch changes the switch record (R5). -/
def recordSwitch (v : ValveId) (which : Limit) (made : Bool) (s : State) : State :=
  match which with
  | .opened => s.putValve v { s.valve v with openMade := made }
  | .closed => s.putValve v { s.valve v with closedMade := made }

/-- A limit switch arrival (R5, R69, R71). -/
def switchMade (v : ValveId) (which : Limit) (s : State) : Effect :=
  let s1 := recordSwitch v which true s
  if !s1.running then (s1, [])
  else
    match s1.driveOf v with
    | some d => if d.target = which then completeDrive d s1 else (s1, [])
    | none =>
      if (s1.valve v).position = .unknown then (s1.putValve v { s1.valve v with position := limitPosition which }, [])
      else if (s1.valve v).position = limitPosition which then (s1, [])
      else disagreeFault v which s1

/-- Expiry of the travel timer (R70). -/
def travelExpired (s : State) : Effect :=
  match s.valves.main with
  | .driving d 0 => failDrive d s
  | _ => (s, [])

/-- CLEAR VALVE FAULT on a faulted valve (R74): in RUN the claimant, the stock unit, the selector (R201) and the account
unit (R170) are told. -/
def clearFault (v : ValveId) (s : State) : Effect :=
  if (s.valve v).fault = .noFault then (s, [])
  else
    let s1 := s.putValve v { s.valve v with fault := .noFault }
    if !s1.running then (s1, [])
    else
      let (s2, last) := beginReport s1
      let k := (s1.valve v).claim
      let claimant := if k = .unclaimed then [] else [Act.tellClaimant k v .faultCleared]
      let outlet :=
        match outletHolder v with
        | some h => [Act.outletCleared h]
        | none => []
      let contract :=
        match s1.settings.source with
        | some x => if sourceValve x = v then [Act.contractFaultCleared] else []
        | none => []
      (s2, claimant ++ (holderOfValve v).toList.map Act.stockValve ++ outlet ++ contract ++ last)

/-! ## Phases (R58) -/

/-- START: every position is set from the switch record, and the selector's claims are recorded (R58, R40). -/
def adoptValves (s : State) : State :=
  let positions : Vector Valve 20 := s.valves.table.map fun x =>
    { x with position := match x.shown with
                         | some t => limitPosition t
                         | none => .unknown }
  let s1 := s.putValves { s.valves with table := positions }
  allHolders.foldl (fun t h => t.putClaim (outletValve h) .selector) s1

/-- STOP: every claim but those of isolation is cleared, and the set of refused blocks is emptied (R58). -/
def stopValveUnit (s : State) : State :=
  s.putValves { s.valves with
    refused := []
    table := s.valves.table.map fun x =>
      match x.claim with
      | .isolation _ => x
      | _ => { x with claim := .unclaimed } }

/-- The valve unit is busy: STOP is refused (R58). -/
def ValveUnit.busy (u : ValveUnit) : Bool := !u.protect.isEmpty || !u.queue.isEmpty || decide (u.main ≠ .idle)

end Sys2Proof.Machine
end

