-- ==== Sys2Proof/Machine/StockUnit.lean ====
section
/-!
DEFINITION. Sys2Proof/Machine/StockUnit.lean: the stock unit (02): readings and guards, holder faults, isolation, the stock
condition, and what each hands on in the order of R20 and R22.
-/

namespace Sys2Proof.Machine

/-! ## The stock condition (R31) -/

/-- The condition as the records now give it. -/
def State.conditionNow (s : State) : Condition := conditionOf s.settings.ladder s.stockReading

/-- What a change of condition hands on: the notice, and the word to the district unit (R31). The word to the selector
is the re-decode trigger of the event that brought the change (R41). -/
def conditionWords (old : Condition) (s : State) : List Act :=
  if s.stock.condition = old then []
  else [.notice (.stockCondition old s.stock.condition s.yardStock), .findSetpoints]

/-- The condition is judged and replaced, in RUN (R31). -/
def setCondition (s : State) : State :=
  if s.running then s.putStock { s.stock with condition := s.conditionNow } else s

/-- A judgement of the condition, with what it hands on (R31). -/
def judgeStock (s : State) : Effect :=
  let s1 := setCondition s
  (s1, conditionWords s.stock.condition s1)

/-! ## Readings and guards (R16 to R20) -/

/-- The holder's guards judged against a content (R18, R19). -/
def judgedHolder (x : HolderSettings) (r : Holder) (content : Nat) : Holder :=
  { r with atCrown := crownAfter x r.atCrown content, atLow := lowAfter x r.atLow content }

/-- What the guards' changes hand on (R18, R19), the lowered before the raised (R20). -/
def guardWords (h : HolderId) (old new : Holder) (content : Nat) : List Act :=
  (if old.atCrown && !new.atCrown then [Act.notice (.holderGuard h .crown false content)] else [])
    ++ (if old.atLow && !new.atLow then [Act.notice (.holderGuard h .low false content)] else [])
    ++ (if !old.atCrown && new.atCrown then
          [.protectClose (inletValve h) .guard, .guardRaised h .crown, .notice (.holderGuard h .crown true content)]
        else [])
    ++ (if !old.atLow && new.atLow then
          [.protectClose (outletValve h) .guard, .guardRaised h .low, .notice (.holderGuard h .low true content)]
        else [])

/-- The claim of an isolation on a holder's inlet is released (R22, R26, R27). -/
def releaseIsolation (h : HolderId) (s : State) : Effect := releaseClaims (.isolation h) [inletValve h] s

/-- A holder enters FAULT (R22). The selector is told last: a trigger that the channel unit's part of the event brings about
waits for that word (R41; log 23). -/
def enterHolderFault (h : HolderId) (cause : HolderFault) (s : State) : Effect :=
  let old := s.holder h
  if old.state = .fault then (s, [])
  else
    let s1 := s.putHolder h
      { old with state := .fault, cause := some cause, content := none, silence := none, closeWait := .nothing }
    let (s2, released) :=
      if old.state = .isolating ∨ old.state = .isolated then releaseIsolation h s1 else (s1, [])
    let basis := if old.state = .service ∨ old.state = .isolating then [Act.basisChanged] else []
    (s2, released ++ [.protectClose (inletValve h) .holderFault, .holderInFault h, .notice (.holderFault h cause),
      .judgeCondition] ++ basis ++ [.stockTold])

/-- A lift reading (R3, R16, R17, R20). A reading above the capacity is not the last reading taken, whose age goes on
(DESIGN CHOICE, log 9). -/
def takeReading (h : HolderId) (content : Nat) (s : State) : Effect :=
  let x := s.holderSettings h
  let old := s.holder h
  if !s.running || !x.configured || decide (old.state = .fault) then (s, [])
  else if x.capacity < content then enterHolderFault h .liftRange s
  else
    let new := judgedHolder x { old with
      content := some content
      sinceReading := some 0
      silence := if old.state = .isolated then old.silence else some x.silence } content
    let s1 := setCondition (s.putHolder h new)
    (s1, guardWords h old new content ++ [.contentTaken h] ++ conditionWords s.stock.condition s1 ++ [.stockTold])

/-- Expiry of a holder's lift silence timer (R21). -/
def silenceExpired (h : HolderId) (s : State) : Effect :=
  let x := s.holder h
  if s.running && due x.silence && (decide (x.state = .service) || decide (x.state = .isolating)) then
    enterHolderFault h .liftSilent s
  else (s, [])

/-! ## Isolation (R25, R26) -/

/-- What an isolation waits for after its close was asked. -/
def Answer.closeWait : Answer → CloseWait
  | .accepted => .answer
  | .inUse => .drive
  | .queueFull => .place
  | .done | .faulted | .isProtected => .nothing

/-- The close of an isolation is done, and the holder is judged (R26). -/
def isolationClosed (h : HolderId) (s : State) : Effect :=
  if (s.holder h).state = .isolating then (s.putHolder h { s.holder h with closeWait := .nothing }, [.stockValve h])
  else (s, [])

/-- The close of an isolating holder's inlet is asked, in SEND-OUT class (R25); an inlet found CLOSED has it judged
(R26). -/
def askIsolationClose (h : HolderId) (s : State) : Effect :=
  if (s.holder h).state ≠ .isolating then (s, [])
  else if (s.valve (inletValve h)).position = .closed then isolationClosed h s
  else
    let (a, s1, acts) := moveRequest (.isolation h) (inletValve h) .closed s
    (s1.putHolder h { s1.holder h with closeWait := a.closeWait }, acts)

/-- A holder valve reports CLOSED: it stands there and is not driven (R26). -/
def State.bothClosed (s : State) (h : HolderId) : Bool :=
  s.stands (inletValve h) .closed && s.stands (outletValve h) .closed

/-- An ISOLATING holder whose valves are both reported CLOSED enters ISOLATED; one with a fault reported on a valve leaves
isolation for SERVICE (R26). A DISAGREE that shows the last open valve CLOSED is both; R26 does not say which goes first,
and here the fault does: the holder returns to SERVICE (DESIGN CHOICE, log 42). -/
def judgeIsolation (h : HolderId) (s : State) : Effect :=
  let x := s.holder h
  if x.state ≠ .isolating then (s, [])
  else if (s.valve (inletValve h)).fault ≠ .noFault ∨ (s.valve (outletValve h)).fault ≠ .noFault then
    let (s1, released) := releaseIsolation h (s.putHolder h { x with state := .service, closeWait := .nothing })
    (s1, released ++ [.stockTold])
  else if s.bothClosed h then
    (s.putHolder h { x with state := .isolated, silence := none, closeWait := .nothing },
      [.basisChanged, .judgeCondition, .stockTold])
  else (s, [])

/-- A place has freed: each isolation refused with QUEUE FULL asks again, in the order of the holders (R63, log 12). -/
def stockPlaceFreed (s : State) : Effect :=
  (s, (allHolders.filter fun h => (s.holder h).closeWait = .place).map Act.isolationAsk)

/-- The valve unit's words about an inlet to the isolation that asked or claims it (R25, R26, R72). -/
def isolationWord (h : HolderId) (w : ValveWord) (s : State) : Effect :=
  let x := s.holder h
  match w with
  | .driveEnded | .closeDone => if x.closeWait = .drive then (s, [.isolationAsk h]) else (s, [])
  | .done => isolationClosed h s
  | .failed | .superseded | .taken _ | .faultSet | .faultCleared => (s, [])

/-- ISOLATE HOLDER taken (R25): the claim, ISOLATING, the close asked, the selector told; and ISOLATED within the event
where both valves stand CLOSED (R26). -/
def isolate (h : HolderId) (s : State) : Effect :=
  let both := s.bothClosed h
  let (_, s1, freed) := claimRequest (.isolation h) [inletValve h] s
  let s2 := s1.putHolder h { s1.holder h with state := .isolating, closeWait := .nothing }
  if both then (s2, freed ++ [.stockValve h])
  else (s2, freed ++ [.isolationAsk h, .holderIsolating h, .stockTold])

/-- RETURN HOLDER taken for an ISOLATED holder (R27). -/
def returnToService (h : HolderId) (s : State) : Effect :=
  let x := s.holder h
  let s1 := s.putHolder h { x with state := .service, silence := some (s.holderSettings h).silence }
  let (s2, released) := releaseIsolation h s1
  (s2, released ++ [.basisChanged, .judgeCondition, .stockTold])

/-- CLEAR HOLDER FAULT taken for a holder in FAULT (R23, R28). -/
def clearHolder (h : HolderId) (s : State) : Effect :=
  let x := s.holder h
  (s.putHolder h { x with state := .service, cause := none, content := none, sinceReading := none,
                          silence := some (s.holderSettings h).silence },
    [.basisChanged, .judgeCondition, .decodeTrigger])

/-- The guards judged afresh after SET HOLDER in RUN, against the present content (R15). -/
def rejudgeGuards (h : HolderId) (s : State) : Effect :=
  let old := s.holder h
  match old.content with
  | none => (s, [])
  | some content =>
    let new := judgedHolder (s.holderSettings h) old content
    let trigger := if new.atCrown = old.atCrown ∧ new.atLow = old.atLow then [] else [Act.stockTold]
    (s.putHolder h new, guardWords h old new content ++ trigger)

/-! ## The reserve release (R32, R33) -/

/-- The release ends in RUN: the district unit and the selector are told (R33). -/
def endRelease (notices : List Act) (s : State) : Effect :=
  (s.putStock { s.stock with release := none }, notices ++ [.findSetpoints, .decodeTrigger])

/-- Expiry of the release timer (R33). -/
def releaseExpired (s : State) : Effect :=
  if s.running && due s.stock.release then endRelease [.notice .releaseExpired] s else (s, [])

/-! ## Phases (R35, R36) -/

/-- START at the stock unit: the silence timers start and the condition is judged (R35, R21). A change of condition found
here is no re-decode trigger: the selector, which adopts its outlets in the next step, is told nothing and makes no decode
from it (DESIGN CHOICE, log 43: R31 and R41 tell the selector of a change, R35 has it read the condition). -/
def startStockUnit (s : State) : Effect :=
  let s1 := allHolders.foldl (fun t h =>
    let x := t.holder h
    t.putHolder h { x with
      sinceReading := none
      silence := if (t.holderSettings h).configured && decide (x.state = .service) then some (t.holderSettings h).silence
                 else none }) s
  judgeStock s1

/-- A holder at STOP (R36, R28). -/
def Holder.stopped (x : Holder) : Holder :=
  { x with state := if x.state = .isolating then .service else x.state, content := none, atCrown := false,
           atLow := false, silence := none, sinceReading := none, closeWait := .nothing }

/-- STOP at the stock unit: an ISOLATING holder returns to SERVICE and its claim is released (R36). -/
def stopStockUnit (s : State) : State :=
  let s1 := allHolders.foldl (fun t h =>
    if (t.holder h).state = .isolating then t.putClaim (inletValve h) .unclaimed else t) s
  s1.putStock { holders := s1.stock.holders.map Holder.stopped, condition := .unknown, release := none }

end Sys2Proof.Machine
end

