-- ==== Sys2Proof/Machine/SelectorUnit.lean ====
section
/-!
DEFINITION. Sys2Proof/Machine/SelectorUnit.lean: the send-out selector (03, R201): the re-decode trigger, changeovers from
their beginning to their end, pins, and the adoption of the outlets at START.
-/

namespace Sys2Proof.Machine

/-! ## The beginning of a changeover (R44, R48, R49) -/

/-- A holder's outlet as a valve of a closing set still to be taken. -/
def toClose (h : HolderId) : ClosingValve := { holder := h, st := .waiting .unasked }

/-- The word to the channel whose pin the selector withdraws (R53). -/
def pinLostWords (x : Selector) : List Act :=
  match x.pin with
  | some p => [.pinLost p.channel]
  | none => []

/-- A DECODED or DIRECTED changeover begins (R44, R52): the pin on the old holder is withdrawn before the open is
asked. -/
def beginChange (kind : ChangeKind) (new : HolderId) (serves : Option ChannelId) (s : State) : Effect :=
  let x := s.selector
  let ch : Changeover :=
    { kind := kind, old := x.current, new := some new, closing := x.current.toList.map toClose, step := .openingNew,
      serves := serves, openWait := .unasked }
  (s.putSelector { x with state := .changeover, waiting := none, pin := none, change := some ch },
    [Act.notice (.changeoverBegun kind x.current (some new))] ++ pinLostWords x ++ [.askOpenNew])

/-- A LOSS changeover begins (R48). -/
def beginLoss (s : State) : Effect :=
  let x := s.selector
  match x.current with
  | none => (s, [])
  | some h =>
    let ch : Changeover :=
      { kind := .loss, old := some h, new := none, closing := [toClose h], step := .closingOld, serves := none,
        openWait := .unasked }
    (s.putSelector { x with state := .changeover, waiting := none, pin := none, change := some ch },
      pinLostWords x ++ [.notice (.sendOutLost h), .takeClosing h, .closingCheck])

/-- A TIDY changeover begins (R49). -/
def beginTidy (hs : List HolderId) (s : State) : Effect :=
  let x := s.selector
  let ch : Changeover :=
    { kind := .tidy, old := x.current, new := x.current, closing := hs.map toClose, step := .closingOld,
      serves := none, openWait := .unasked }
  (s.putSelector { x with state := .changeover, waiting := none, change := some ch },
    [Act.notice (.changeoverBegun .tidy x.current x.current)] ++ hs.map Act.takeClosing ++ [.closingCheck])

/-! ## The re-decode trigger (R41 to R43) -/

/-- A changeover whose new holder has become unusable in OPENING NEW is given up (R47). -/
def giveUpNew (s : State) : Effect :=
  match s.selector.change with
  | some ch =>
    match ch.step, ch.new with
    | .openingNew, some n =>
      if s.usable n then (s, [])
      else (s.putSelector { s.selector with change := some { ch with step := .backingOut } }, [.backOut])
    | _, _ => (s, [])
  | none => (s, [])

/-- The pending result after a decode made in CHANGEOVER (R43; log 17). -/
def waitingAfter (x : Selector) (r : Option HolderId) : Option HolderId :=
  match x.change, r with
  | some ch, some n => if ch.new = some n then x.waiting else some n
  | _, _ => x.waiting

/-- The result of a decode is kept for READ SEND-OUT (R56). -/
def State.noteDecode (s : State) (r : Option HolderId) : State :=
  s.putSelector { s.selector with lastDecode := some r }

/-- A trigger in STEADY with a decode result (R42). -/
def actSteady (c : HolderId) (r : Option HolderId) (s : State) : Effect :=
  match r with
  | none =>
    if s.usable c then (s.putSelector { s.selector with waiting := none }, []) else beginLoss s
  | some n =>
    if n = c then (s.putSelector { s.selector with waiting := none }, [])
    else if !s.usable c then beginChange .decoded n none s
    else if s.selector.dwell = none ∧ s.selector.pin = none then beginChange .decoded n none s
    else (s.putSelector { s.selector with waiting := some n }, [])

/-- A re-decode trigger (R41): the selector decodes and acts by its state; with the condition UNKNOWN it makes no
decode (R39, R43). In NONE a decode that gives NONE leaves a pending result as it stands (DESIGN CHOICE, log 17). -/
def decodeTrigger (s : State) : Effect :=
  if !s.running then (s, [])
  else
    let known := decide (s.stock.condition ≠ .unknown)
    match s.selector.state, s.selector.current with
    | .steady, some c =>
      if known then
        let r := s.decode none
        actSteady c r (s.noteDecode r)
      else if s.usable c then (s, [])
      else beginLoss s
    | .changeover, _ =>
      let (s1, acts) := giveUpNew s
      if known then
        let r := s1.decode none
        ((s1.noteDecode r).putSelector { (s1.noteDecode r).selector with waiting := waitingAfter s1.selector r }, acts)
      else (s1, acts)
    | _, _ =>
      if known then
        let r := s.decode none
        match r with
        | some n => beginChange .decoded n none (s.noteDecode r)
        | none => (s.noteDecode r, [])
      else (s, [])

/-! ## The end of a changeover (R45, R46, R48, R49, R52) -/

/-- The state the selector enters with its current holder. -/
def restState (current : Option HolderId) : SelectorState :=
  match current with
  | some _ => .steady
  | none => .noHolder

/-- The word by which a changeover's end reaches the channels and the selector itself (R45, R43). -/
def endWords : List Act := [.askPins, .decodeTrigger]

/-- The closing set is done and the changeover ends. Its outcome looks at how each valve was last counted done (R45; DESIGN
CHOICE for one taken again after a fault, log 39). A holder that is usable becomes or stays current also where its outlet
stands CLOSED (DESIGN CHOICE, log 40). -/
def endChange (ch : Changeover) (s : State) : Effect :=
  let x := s.selector
  let outcome : ChangeOutcome :=
    if ch.closing.any fun c => decide (c.st = .doneFaulted) then .oldFaulted else .complete
  let done := Act.notice (.changeoverDone ch.kind ch.old ch.new outcome)
  match ch.kind with
  | .decoded =>
    (s.putSelector { x with state := restState ch.new, current := ch.new, change := none,
                            dwell := some s.settings.dwell }, [done] ++ endWords)
  | .directed =>
    let pin : Option Pin :=
      match ch.serves, ch.new with
      | some c, some n => some { channel := c, holder := n }
      | _, _ => none
    (s.putSelector { x with state := restState ch.new, current := ch.new, change := none, pin := pin,
                            dwell := some s.settings.dwell },
      [done] ++ (pin.toList.map fun p => .pinGranted p.channel) ++ endWords)
  | .loss =>
    (s.putSelector { x with state := .noHolder, current := none, change := none, dwell := none }, endWords)
  | .tidy => (s.putSelector { x with state := restState x.current, change := none }, [done] ++ endWords)

/-- The valves of a given-up changeover's closing set that stand open through no fault and belong to no current holder:
they are closed by a TIDY changeover (R40, R49; log 16). -/
def leftovers (ch : Changeover) (s : State) : List HolderId :=
  (ch.closing.map fun c => c.holder).filter fun h =>
    decide (s.selector.current ≠ some h) && decide ((s.valve (outletValve h)).position ≠ .closed)
      && decide ((s.valve (outletValve h)).fault = .noFault)

/-- A changeover ends ABANDONED (R46, R47). An old holder that is usable again stays current also where its outlet stands
CLOSED (DESIGN CHOICE, log 40). -/
def abandonChange (ch : Changeover) (s : State) : Effect :=
  let x := s.selector
  let s1 := s.putSelector { x with state := restState x.current, change := none }
  let refused :=
    match ch.kind, ch.serves with
    | .directed, some c => [Act.pinRefused c]
    | _, _ => []
  let (s2, tidy) := if (leftovers ch s1).isEmpty then (s1, []) else beginTidy (leftovers ch s1) s1
  (s2, [Act.notice (.changeoverDone ch.kind ch.old ch.new .abandoned)] ++ refused ++ [.askPins] ++ tidy
    ++ [.decodeTrigger])

/-! ## The steps (R44, R45, R47) -/

/-- The changeover in progress replaced. -/
def State.putChange (s : State) (ch : Changeover) : State := s.putSelector { s.selector with change := some ch }

/-- The closing set of a changeover that comes to CLOSING OLD is taken valve by valve (R45). -/
def takeAll (ch : Changeover) : List Act := (ch.closing.map fun c => Act.takeClosing c.holder) ++ [.closingCheck]

/-- What the selector waits for after a move request; none where nothing is left to wait for. -/
def Answer.wait : Answer → Option MoveWait
  | .accepted => some .answer
  | .inUse => some .drive
  | .queueFull => some .place
  | .isProtected => some .shielded
  | .done => none
  | .faulted => none

/-- In OPENING NEW the new outlet is looked at: OPEN takes the changeover to CLOSING OLD, a fault gives it up, and
anything else has its open asked (R44, R45, R46). -/
def askOpenNew (s : State) : Effect :=
  match s.selector.change with
  | none => (s, [])
  | some ch =>
    match ch.step, ch.new with
    | .openingNew, some n =>
      let v := outletValve n
      if (s.valve v).fault ≠ .noFault then abandonChange ch s
      else if !s.usable n then (s.putChange { ch with step := .backingOut }, [.backOut])
      else if s.stands v .opened then (s.putChange { ch with step := .closingOld, openWait := .unasked }, takeAll ch)
      else
        let (a, s1, acts) := moveRequest .selector v .opened s
        (s1.putChange { ch with openWait := a.wait.getD .unasked }, acts)
    | _, _ => (s, [])

/-- A closing set with the standing of one valve changed. -/
def setClosing (l : List ClosingValve) (h : HolderId) (st : ClosingState) : List ClosingValve :=
  l.map fun c => if c.holder = h then { c with st := st } else c

/-- A valve of the closing set is still to be closed. -/
def ClosingState.open : ClosingState → Bool
  | .waiting _ => true
  | .doneClosed => false
  | .doneFaulted => false

/-- A valve of the closing set is taken (R45). -/
def takeClosing (h : HolderId) (s : State) : Effect :=
  match s.selector.change with
  | none => (s, [])
  | some ch =>
    if ch.step = .closingOld ∧ (ch.closing.any fun c => decide (c.holder = h) && c.st.open) = true then
      let v := outletValve h
      let put (st : ClosingState) (t : State) : State := t.putChange { ch with closing := setClosing ch.closing h st }
      if s.stands v .closed then (put .doneClosed s, [])
      else if (s.valve v).fault ≠ .noFault then (put .doneFaulted s, [])
      else if s.shielded v then (put (.waiting .shielded) s, [])
      else
        let (a, s1, acts) := moveRequest .selector v .closed s
        match a.wait with
        | some w => (put (.waiting w) s1, acts)
        | none => (put .doneClosed s1, acts)
    else (s, [])

/-- When every valve of the closing set is done, the changeover ends (R45). -/
def closingCheck (s : State) : Effect :=
  match s.selector.change with
  | none => (s, [])
  | some ch =>
    if ch.step = .closingOld ∧ (ch.closing.any fun c => c.st.open) = false then endChange ch s else (s, [])

/-- In BACKING OUT the new outlet is looked at (R47; log 17 for an outlet at UNKNOWN): the queued open is withdrawn, and
its place is told as freed before anything is asked (R63); a drive or a protective close is waited for, an outlet left
open has its close asked, and one CLOSED or faulted ends the changeover. -/
def backOut (s : State) : Effect :=
  match s.selector.change with
  | none => (s, [])
  | some ch =>
    match ch.step, ch.new with
    | .backingOut, some n =>
      let v := outletValve n
      if s.hasQueuedOpen .selector v then
        let (s1, freed) := withdraw .selector v s
        (s1, freed ++ [.backOut])
      else if (s.valve v).fault ≠ .noFault ∨ s.stands v .closed = true then abandonChange ch s
      else if s.driven v || s.shielded v then
        (s.putChange { ch with openWait := if s.shielded v then .shielded else .answer }, [])
      else
        let (a, s1, acts) := moveRequest .selector v .closed s
        (s1.putChange { ch with openWait := a.wait.getD .unasked }, acts)
    | _, _ => (s, [])

/-! ## Words that reach the selector -/

/-- The valve unit's words about a holder outlet, to the selector as requester and as claimant (R44 to R48, R72). -/
def selectorWord (h : HolderId) (w : ValveWord) (s : State) : Effect :=
  match s.selector.change with
  | none => (s, [])
  | some ch =>
    if ch.new = some h ∧ ch.step = .openingNew then
      match w with
      | .done | .failed | .driveEnded | .closeDone | .faultSet => (s, [.askOpenNew])
      | .superseded => (s.putChange { ch with openWait := .shielded }, [])
      | .taken _ | .faultCleared => (s, [])
    else if ch.new = some h ∧ ch.step = .backingOut then
      match w with
      | .done | .failed | .driveEnded | .closeDone | .faultSet | .superseded => (s, [.backOut])
      | .taken _ | .faultCleared => (s, [])
    else if ch.closing.any fun c => decide (c.holder = h) then
      match w with
      | .failed | .faultSet =>
        (s.putChange { ch with closing := setClosing ch.closing h .doneFaulted }, [.closingCheck])
      | .done | .driveEnded | .closeDone => (s, [.takeClosing h, .closingCheck])
      | .superseded | .taken _ | .faultCleared => (s, [])
    else (s, [])

/-- A stray outlet is closed: by a TIDY changeover, or in the closing set of the changeover in progress, where a valve
counted done is taken again (R49, R201); what it was counted done by is forgotten (DESIGN CHOICE, log 39). -/
def closeStray (h : HolderId) (s : State) : Effect :=
  match s.selector.change with
  | none => beginTidy [h] s
  | some ch =>
    let closing :=
      if ch.closing.any fun c => decide (c.holder = h) then setClosing ch.closing h (.waiting .unasked)
      else ch.closing ++ [toClose h]
    (s.putChange { ch with closing := closing },
      if ch.step = .closingOld then [.takeClosing h, .closingCheck] else [])

/-- A fault has been cleared on a holder outlet (R201): the valve is judged, and then the trigger is taken. -/
def outletCleared (h : HolderId) (s : State) : Effect :=
  let closed := decide ((s.valve (outletValve h)).position = .closed)
  let countedDone :=
    match s.selector.change with
    | some ch => ch.closing.any fun c => decide (c.holder = h) && decide (c.st = .doneFaulted)
    | none => false
  let isNew :=
    match s.selector.change with
    | some ch => decide (ch.new = some h)
    | none => false
  let stray := !closed && !decide (s.selector.current = some h) && !isNew
  let (s1, acts) := if stray || (!closed && countedDone) then closeStray h s else (s, [])
  (s1, acts ++ [.decodeTrigger])

/-- A holder has become ISOLATING (R25, R49): the outlet of one that is not current is closed where it is open or moving
open; the trigger follows as the stock unit's last word. -/
def holderIsolating (h : HolderId) (s : State) : Effect :=
  let x := s.valve (outletValve h)
  let isOpen := decide (x.position = .opened) || decide (x.position = .movingOpen)
  if !decide (s.selector.current = some h) && isOpen && decide (x.fault = .noFault) then closeStray h s else (s, [])

/-- A place of the move queue has freed (R44, R45, R63). -/
def selectorPlace (s : State) : Effect :=
  match s.selector.change with
  | none => (s, [])
  | some ch =>
    let first :=
      match ch.step with
      | .openingNew => if ch.openWait = .place then [Act.askOpenNew] else []
      | .backingOut => if ch.openWait = .place then [Act.backOut] else []
      | .closingOld => []
    let again := (ch.closing.filter fun c => decide (c.st = .waiting .place)).map fun c => Act.takeClosing c.holder
    (s, first ++ again ++ [.closingCheck])

/-- Expiry of the dwell timer (R50). -/
def dwellExpired (s : State) : Effect :=
  if s.running && due s.selector.dwell then (s.putSelector { s.selector with dwell := none }, [.decodeTrigger])
  else (s, [])

/-! ## Pins (R51 to R53) -/

/-- A channel asks for a pin (R51): whether it is granted, with what the asking begins. -/
def pinRequest (c : ChannelId) (h : HolderId) (force : Bool) (s : State) : Bool × Effect :=
  let x := s.selector
  if x.pin.any fun p => decide (p.channel ≠ c) then (false, s, [])
  else if x.state = .steady ∧ x.current = some h ∧ s.usable h = true then
    (true, s.putSelector { x with pin := some { channel := c, holder := h } }, [])
  else if x.state ≠ .changeover ∧ s.usable h = true ∧ x.current ≠ some h ∧ force = true then
    (false, beginChange .directed h (some c) s)
  else (false, s, [])

/-- A channel holds a pin. -/
def State.holdsPin (s : State) (c : ChannelId) : Bool := s.selector.pin.any fun p => decide (p.channel = c)

/-- A channel releases its pin (R53): a re-decode trigger, and a word to the channels that wait for one (R84), in this
order (DESIGN CHOICE, log 25); in an event at the stock unit the trigger waits and the word does not (DESIGN CHOICE,
log 23). -/
def releasePin (c : ChannelId) (s : State) : Effect :=
  if s.holdsPin c then (s.putSelector { s.selector with pin := none }, [.decodeTrigger, .askPins]) else (s, [])

/-- A channel's order ends: a DIRECTED changeover that serves it grants its pin to no channel (R52), and from then on
records no channel served (DESIGN CHOICE, log 41). -/
def forgetServed (c : ChannelId) (s : State) : State :=
  match s.selector.change with
  | some ch => if ch.serves = some c then s.putChange { ch with serves := none } else s
  | none => s

/-! ## Phases (R54, R55) -/

/-- A holder whose outlet is a candidate at START (R55). -/
def State.candidate (s : State) (h : HolderId) : Bool :=
  (s.holderSettings h).configured && decide ((s.holder h).state = .service)
    && decide ((s.valve (outletValve h)).position = .opened)

/-- A holder outlet at OPEN or UNKNOWN that carries no fault (R55). -/
def State.openOutlet (s : State) (h : HolderId) : Bool :=
  let x := s.valve (outletValve h)
  (decide (x.position = .opened) || decide (x.position = .unknown)) && decide (x.fault = .noFault)

/-- START at the selector (R55). Several strays stand in the closing set, and are asked to close, in ascending holder
number (DESIGN CHOICE, log 12: R45, R49 and R55 give no order). -/
def startSelector (s : State) : Effect :=
  let chosen := allHolders.find? s.candidate
  let strays := allHolders.filter fun h => !decide (chosen = some h) && (s.candidate h || s.openOutlet h)
  let s1 := s.putSelector { Selector.atReset with state := restState chosen, current := chosen }
  if strays.isEmpty then (s1, []) else beginTidy strays s1

end Sys2Proof.Machine
end

