-- ==== Sys2Proof/Machine/ChannelUnit.lean ====
section
/-!
DEFINITION. Sys2Proof/Machine/ChannelUnit.lean: the channel unit (05, 06): an order becoming current, its path, its flow,
its endings, closing and posting, the going on of a chain, holding and resuming, and the words that reach a channel.
-/

namespace Sys2Proof.Machine

/-! ## Small changes of the records -/

/-- The status of an order slot replaced. -/
def State.putStatus (s : State) (n : OrderId) (k : OrderStatus) : State := s.putOrder n { s.order n with status := k }

/-- A channel's outstanding requests replaced. -/
def State.putWork (s : State) (c : ChannelId) (w : List Work) : State := s.putChannel c { s.channel c with work := w }

/-- The requests without those for a valve. -/
def dropWork (l : List Work) (v : ValveId) : List Work := l.filter fun w => w.valve ≠ v

/-- A channel's request for a valve, in place of the one it had. -/
def State.setWork (s : State) (c : ChannelId) (v : ValveId) (k : WorkKind) (w : WorkWait) : State :=
  s.putWork c (dropWork (s.channel c).work v ++ [{ valve := v, kind := k, wait := w }])

/-- A channel's request for a valve is gone. -/
def State.clearWork (s : State) (c : ChannelId) (v : ValveId) : State := s.putWork c (dropWork (s.channel c).work v)

/-- A channel's request for a valve. -/
def State.workFor (s : State) (c : ChannelId) (v : ValveId) : Option Work := (s.channel c).work.find? fun w => w.valve = v

/-- The path timeout is started where it does not run (R83). -/
def State.startPathTimer (s : State) (c : ChannelId) : State :=
  let x := s.channel c
  s.putChannel c { x with pathTimer := some (x.pathTimer.getD (s.settings.channels.get c).pathTimeout) }

/-- What a refused or taken move leaves the channel waiting for; none where it is answered. -/
def Answer.workWait : Answer → Option WorkWait
  | .accepted => some .answer
  | .inUse => some .drive
  | .queueFull => some .place
  | .isProtected => some .shielded
  | .done => none
  | .faulted => none

/-- The statuses from which the words of R89 to R97 end an order: WAIT-PATH, OPENING and FLOWING. -/
def OrderStatus.working : OrderStatus → Bool
  | .waitPath | .opening | .flowing => true
  | _ => false

/-! ## Endings, closing and posting (R98 to R100) -/

/-- An order ends from a running status other than CLOSING (R98): it enters CLOSING with its pending ending, its timers
stop, the booster of a TRANSFER that was FLOWING goes off (R87), its pin is released, and the closes of its path are
asked. -/
def endOrder (c : ChannelId) (k : OrderStatus) (cause : EndCause) (s : State) : Effect :=
  match s.currentSlot c with
  | none => (s, [])
  | some (n, x) =>
    if x.status.working || decide (x.status = .suspended) then
      let ch := s.channel c
      let s1 := (s.putStatus n .closing).putChannel c
        { ch with state := if ch.state = .suspended then .running else ch.state, ending := some (k, cause),
                  pathTimer := none, limitTimer := none, waitTimer := none, pathWait := .nothing }
      let s2 := if x.order.kind = some .transfer ∧ x.status = .flowing then s1.setBooster false else s1
      (forgetServed c s2, (if s.holdsPin c then [Act.releasePin c] else []) ++ [.askCloses c])
    else (s, [])

/-- A claim of the path is released, its close done (R98). -/
def releaseOne (c : ChannelId) (v : ValveId) (s : State) : Effect := releaseClaims (.channel c) [v] (s.clearWork c v)

/-- One close of CLOSING is asked, and its claim released where the close is done (R98). -/
def askClose (c : ChannelId) (v : ValveId) (s : State) : Effect :=
  if (s.valve v).claim ≠ .channel c then (s, [])
  else
    let (a, s1, acts) := moveRequest (.channel c) v .closed s
    match a.workWait with
    | some w => (s1.setWork c v .close w, acts)
    | none =>
      let (s2, told) := releaseOne c v s1
      (s2, acts ++ told)

/-- A valve of the path is left as it stands (R98): a queued move of it is withdrawn, and its claim is released, at the
end of its drive where it is being driven for the order. -/
def leaveValve (c : ChannelId) (v : ValveId) (anyMove : Bool) (s : State) : Effect :=
  if (s.valve v).claim ≠ .channel c then (s, [])
  else
    let (s1, freed) := if anyMove || s.hasQueuedOpen (.channel c) v then withdraw (.channel c) v s else (s, [])
    let drivenOpen : Bool :=
      match s1.driveOf v with
      | some d => decide (Requester.channel c ∈ d.requesters) && (anyMove || decide (d.target = .opened))
      | none => false
    if drivenOpen then (s1.setWork c v .settle .drive, freed)
    else
      let (s2, told) := releaseOne c v s1
      (s2, freed ++ told)

/-- One effect after another, their words in that order. -/
def Effect.andThen (e : Effect) (f : State → Effect) : Effect :=
  let (s1, acts) := f e.1
  (s1, e.2 ++ acts)

/-- The closes of CLOSING are asked, all in one event (R98). A hold close not yet asked or taken up is dropped with the
requests that went before; that of a RECEIVE with LEAVE leaves the inlet as it stands (DESIGN CHOICE, log 38). -/
def askCloses (c : ChannelId) (s : State) : Effect :=
  match s.currentSlot c with
  | none => (s, [])
  | some (_, x) =>
    if x.status ≠ .closing then (s, [])
    else
      let shut := decide (x.order.disposition = some .close)
        || decide ((s.channel c).ending = some (.aborted, .yardStop))
      let inlet (t : State) : Effect :=
        match x.order.dest with
        | some h => if shut then askClose c (inletValve h) t else leaveValve c (inletValve h) false t
        | none => (t, [])
      let s0 := s.putWork c []
      let (s1, acts) : Effect :=
        match x.order.kind with
        | some .transfer => (askClose c deliveryValve s0).andThen fun t => (askClose c suctionValve t).andThen inlet
        | some .receive => inlet s0
        | some .admitSource | some .cut =>
          match x.order.source with
          | some y => leaveValve c (sourceValve y) true s0
          | none => (s0, [])
        | some .wait | none => (s0, [])
      (s1, acts ++ [.postIfFree c])

/-- The destination content at the end of an order that has one (R77), read where its final status is posted (DESIGN
CHOICE, log 47). -/
def State.endContent (s : State) (o : Order) : Option (Option Nat) :=
  if o.movesGas then some (o.dest.bind fun h => (s.holder h).content) else none

/-- When the order holds no claim its final status is posted, with its notice and the word to the selector (R99), behind
what the release of the last claim brought about (DESIGN CHOICE, log 46). -/
def postIfFree (c : ChannelId) (s : State) : Effect :=
  match s.currentSlot c, (s.channel c).ending with
  | some (n, x), some (k, cause) =>
    if x.status ≠ .closing ∨ s.claimed (.channel c) ≠ [] then (s, [])
    else
      let slot : OrderSlot := { x with status := k, endCause := some cause, endContent := s.endContent x.order }
      let ch := s.channel c
      let s1 := (s.putOrder n slot).putChannel c { ch with ending := none, reported := none, work := [] }
      let told :=
        if x.order.notify || decide (k = .failed) || decide (k = .timedOut) then
          [Act.notice (.orderEnded c n x.order.kind k cause x.counted slot.endContent)]
        else []
      (s1, told ++ (if ch.reported.isSome then [Act.decodeTrigger] else []) ++ [.chainOn c n])
  | _, _ => (s, [])

/-- A channel goes IDLE with its notice (R100). -/
def goIdle (c : ChannelId) (last : OrderId) (reason : ChainReason) (s : State) : Effect :=
  (s.putChannel c Channel.idle, [.notice (.chainEnded c last reason)])

/-- A channel halts with its notice (R100). -/
def goHalted (c : ChannelId) (cause : HaltCause) (slot : Option OrderId) (s : State) : Effect :=
  (s.putChannel c { Channel.idle with state := .halted, halt := some cause, haltSlot := slot },
    [.notice (.channelHalted c cause slot)])

/-- After a posting the channel goes on by the first row of R100 that holds. -/
def chainOn (c : ChannelId) (ended : OrderId) (s : State) : Effect :=
  let x := s.order ended
  let ch := s.channel c
  match ch.state with
  | .stopping true => goHalted c .yardStop (some ended) s
  | .stopping false => goIdle c ended .stopped s
  | _ =>
    if (x.status = .failed ∨ x.status = .timedOut) ∧ x.order.continueOnError = false then
      goHalted c .orderError (some ended) s
    else if ch.stopAfter then goIdle c ended .stopped s
    else
      match x.order.next with
      | none => goIdle c ended .reachedEnd s
      | some m =>
        if s.currentOn c.other m then goHalted c .slotBusy (some m) s
        else if (s.order m).status ≠ .loaded then goHalted c .badLink (some m) s
        else (s, [.orderCurrent c m])

/-! ## An order becoming current (R82) -/

/-- A holder is not ready for an order that names it. -/
def State.notReady (s : State) (h : Option HolderId) : Bool :=
  match h with
  | some h => !(s.holderSettings h).configured || decide ((s.holder h).state ≠ .service)
  | none => false

/-- ADMIT of the contract source while the contract is CUT (R85). -/
def State.spent (s : State) (o : Order) : Bool :=
  decide (o.kind = some .admitSource) && o.source.isSome && decide (s.settings.source = o.source) && s.accounts.cut

/-- The first check of R82 that holds. -/
def currentCheck (o : Order) (s : State) : Option (OrderStatus × EndCause) :=
  if o.movesGas && (s.notReady o.dest || s.notReady o.src) then some (.failed, .holderNotReady)
  else if o.kind = some .receive ∧ s.stock.condition = .crown then some (.guardEnd, .crownStock)
  else if o.movesGas && (o.dest.any fun h => (s.holder h).atCrown) then some (.guardEnd, .crownGuard)
  else if o.kind = some .transfer ∧ (o.src.any fun h => (s.holder h).atLow) = true then some (.guardEnd, .lowGuard)
  else if o.kind = some .receive
      ∧ (o.dest.any fun h => (s.holder h).content.any fun n => decide (o.target ≤ n)) = true then some (.done, .target)
  else if s.spent o then some (.failed, .contractSpent)
  else if o.kind = some .wait ∧ o.form = some .minute ∧ o.target = s.clock.minute then some (.done, .target)
  else none

/-- A slot becomes current on a channel (R82). -/
def orderCurrent (c : ChannelId) (n : OrderId) (s : State) : Effect :=
  let x := s.order n
  let ch := s.channel c
  let s1 := (s.putStatus n .waitPath).putChannel c
    { Channel.idle with
      state := .running
      current := some n
      stopAfter := ch.stopAfter
      limitTimer := if x.order.timeLimit = 0 then none else some x.order.timeLimit }
  match currentCheck x.order s with
  | some (k, cause) => endOrder c k cause s1
  | none => if x.order.kind = some .wait then (s1, [.enterFlowing c]) else (s1, [.claimPath c])

/-! ## The path (R83 to R86) -/

/-- The channel claims its order's path (R83). -/
def claimPath (c : ChannelId) (s : State) : Effect :=
  match s.currentSlot c with
  | none => (s, [])
  | some (_, x) =>
    if x.status ≠ .waitPath then (s, [])
    else
      match claimRequest (.channel c) x.order.path s with
      | (.granted, s1, freed) =>
        (s1.putChannel c { s1.channel c with pathWait := .nothing }, freed ++ [.proceed c])
      | (.faulted, _) => endOrder c .failed .valveFault s
      | (.inUse, _) | (.wrongPhase, _) =>
        ((s.putChannel c { s.channel c with pathWait := .claim }).startPathTimer c, [])

/-- A TRANSFER asks for its pin (R84). -/
def askPin (c : ChannelId) (o : Order) (s : State) : Effect :=
  match o.src with
  | none => (s, [])
  | some h =>
    match pinRequest c h o.forceSource s with
    | (true, s1, acts) => (s1.putChannel c { s1.channel c with pathWait := .nothing }, acts ++ [.proceed c])
    | (false, s1, acts) => ((s1.putChannel c { s1.channel c with pathWait := .pin }).startPathTimer c, acts)

/-- What the asking of one open comes to. -/
inductive OpenResult where
  | isOpen
  | waiting
  | full
  | faulted
deriving DecidableEq, Repr

/-- An open of the path is asked where none is outstanding (R86). -/
def ensureOpen (c : ChannelId) (v : ValveId) (s : State) : OpenResult × Effect :=
  let outstanding : Bool :=
    match s.workFor c v with
    | some w => decide (w.kind = .move)
        && (decide (w.wait = .answer) || decide (w.wait = .drive) || decide (w.wait = .shielded))
    | none => false
  if outstanding then (.waiting, s, [])
  else
    match moveRequest (.channel c) v .opened s with
    | (.done, s1, acts) => (.isOpen, s1.clearWork c v, acts)
    | (.faulted, s1, acts) => (.faulted, s1, acts)
    | (.queueFull, s1, acts) => (.full, s1.setWork c v .move .place, acts)
    | (a, s1, acts) => (.waiting, s1.setWork c v .move (a.workWait.getD .answer), acts)

/-- The opens of a path in their order (R86): HkIN, and once it is OPEN, TDEL and TSUC in one event; the asking stops
where the queue is full. -/
def askOpens (c : ChannelId) (o : Order) (s : State) : OpenResult × Effect :=
  match o.dest with
  | none => (.isOpen, s, [])
  | some h =>
    match ensureOpen c (inletValve h) s with
    | (.isOpen, s1, acts1) =>
      if o.kind = some .transfer then
        match ensureOpen c deliveryValve s1 with
        | (.full, s2, acts2) => (.full, s2, acts1 ++ acts2)
        | (.faulted, s2, acts2) => (.faulted, s2, acts1 ++ acts2)
        | (r2, s2, acts2) =>
          match ensureOpen c suctionValve s2 with
          | (.isOpen, s3, acts3) => (r2, s3, acts1 ++ acts2 ++ acts3)
          | (r3, s3, acts3) => (r3, s3, acts1 ++ acts2 ++ acts3)
      else (.isOpen, s1, acts1)
    | (r, s1, acts1) => (r, s1, acts1)

/-- The valves whose move, asked by the channel, waits for a place of the move queue (R86). -/
def State.placeWaits (s : State) (c : ChannelId) : List ValveId :=
  ((s.channel c).work.filter fun w => decide (w.kind = .move) && decide (w.wait = .place)).map fun w => w.valve

/-- An asking has left every move that waited for a place without one, so that an order in WAIT-PATH has not taken up
OPENING in between (R86; DESIGN CHOICE, log 49, where it waits for two places). -/
def keepsWaiting (c : ChannelId) (before after : State) : Bool :=
  !(before.placeWaits c).isEmpty && (before.placeWaits c).all fun v => decide (v ∈ after.placeWaits c)

/-- An order is in WAIT-PATH for want of a place (R86). One that stood there before the asking, and still waits for all that
it waited for, goes on waiting; any other has returned there, and its path timeout starts afresh (R83). -/
def returnToPath (c : ChannelId) (n : OrderId) (was : OrderStatus) (before s : State) : State :=
  let s1 := s.putStatus n .waitPath
  if was = .waitPath ∧ keepsWaiting c before s = true then s1
  else s1.putChannel c { s1.channel c with pathTimer := some (s.settings.channels.get c).pathTimeout }

/-- An order leaves WAIT-PATH: its path timeout stops (R83). -/
def leavePath (c : ChannelId) (n : OrderId) (k : OrderStatus) (s : State) : State :=
  let s1 := s.putStatus n k
  s1.putChannel c { s1.channel c with pathTimer := none, pathWait := .nothing }

/-- OPENING goes on by one asking of the opens (R86). -/
def openStep (c : ChannelId) (n : OrderId) (x : OrderSlot) (s : State) : Effect :=
  match askOpens c x.order s with
  | (.isOpen, s1, acts) => (leavePath c n .opening s1, acts ++ [.enterFlowing c])
  | (.waiting, s1, acts) => (leavePath c n .opening s1, acts)
  | (.full, s1, acts) => (returnToPath c n x.status s s1, acts)
  | (.faulted, s1, acts) =>
    let (s2, ended) := endOrder c .failed .valveFault s1
    (s2, acts ++ ended)

/-- The move of an ADMIT or CUT is asked (R87, R91), an ADMIT making the question of R85 first. -/
def moveStep (c : ChannelId) (n : OrderId) (x : OrderSlot) (s : State) : Effect :=
  match x.order.source with
  | none => (s, [])
  | some y =>
    if s.spent x.order then endOrder c .failed .contractSpent s
    else
      let target : Limit := if x.order.kind = some .admitSource then .opened else .closed
      match moveRequest (.channel c) (sourceValve y) target s with
      | (.done, s1, acts) =>
        let (s2, ended) := endOrder c .done .target s1
        (s2, acts ++ ended)
      | (.faulted, s1, acts) =>
        let (s2, ended) := endOrder c .failed .valveFault s1
        (s2, acts ++ ended)
      | (.queueFull, s1, acts) => (returnToPath c n x.status s (s1.setWork c (sourceValve y) .move .place), acts)
      | (a, s1, acts) =>
        ((leavePath c n .flowing s1).setWork c (sourceValve y) .move (a.workWait.getD .answer), acts)

/-- An order enters FLOWING and begins its work (R87). -/
def enterFlowing (c : ChannelId) (s : State) : Effect :=
  match s.currentSlot c with
  | none => (s, [])
  | some (n, x) =>
    if !x.status.working then (s, [])
    else
      let s1 := leavePath c n .flowing s
      match x.order.kind with
      | some .transfer => (s1.setBooster true, [])
      | some .wait =>
        (if x.order.form = some .duration then s1.putChannel c { s1.channel c with waitTimer := some x.order.target }
         else s1, [])
      | some .admitSource | some .cut => moveStep c n (s1.order n) s1
      | some .receive | none => (s1, [])

/-- A granted claim, a granted pin or an answered open passes the order on (R83 to R87). -/
def proceed (c : ChannelId) (s : State) : Effect :=
  match s.currentSlot c with
  | none => (s, [])
  | some (n, x) =>
    if x.status ≠ .waitPath ∧ x.status ≠ .opening then (s, [])
    else
      match x.order.kind with
      | some .receive => openStep c n x s
      | some .transfer =>
        if s.holdsPin c then openStep c n x s
        else if x.status = .waitPath then askPin c x.order s
        else (s, [])
      | some .admitSource | some .cut => if s.spent x.order then endOrder c .failed .contractSpent s else (s, [.enterFlowing c])
      | some .wait | none => (s, [])

/-! ## Holding and resuming (06) -/

/-- The hold close is begun, or asked again (R108). -/
def askHoldClose (c : ChannelId) (s : State) : Effect :=
  match s.currentSlot c with
  | none => (s, [])
  | some (_, x) =>
    match x.order.flowValve with
    | none => (s, [])
    | some v =>
      if s.stands v .closed then (s.clearWork c v, [])
      else if (s.driveOf v).any fun d => decide (d.target = .opened) && decide (Requester.channel c ∈ d.requesters) then
        (s.setWork c v .holdClose .drive, [])
      else
        let (a, s1, acts) := moveRequest (.channel c) v .closed s
        match a with
        | .faulted => endOrder c .failed .valveFault s1
        | .done => (s1.clearWork c v, acts)
        | _ => (s1.setWork c v .holdClose (a.workWait.getD .answer), acts)

/-- Every queued open of the order is withdrawn, and no open is asked any more (R107); one being driven runs to its end,
and is asked afresh when the order goes on (R113, R114). -/
def withdrawOpens (c : ChannelId) (o : Order) (s : State) : Effect :=
  let e : Effect := o.path.foldl (fun e v =>
    e.andThen fun t => if t.hasQueuedOpen (.channel c) v then withdraw (.channel c) v t else (t, [])) (s, [])
  (e.1.putWork c [], e.2)

/-- A hold is taken (R107). -/
def takeHold (c : ChannelId) (s : State) : Effect :=
  match s.currentSlot c with
  | none => (s, [])
  | some (n, x) =>
    let s1 := s.putStatus n .suspended
    let s2 := s1.putChannel c { s1.channel c with state := .suspended }
    let s3 := if x.order.kind = some .transfer then s2.setBooster false else s2
    let (s4, freed) := withdrawOpens c x.order s3
    (s4, freed ++ [.beginHoldClose c] ++ (if x.order.kind = some .transfer then [.releasePin c] else []))

/-- Whether a hold close is outstanding (R107). -/
def State.holdOutstanding (s : State) (c : ChannelId) : Bool :=
  (s.channel c).work.any fun w => decide (w.kind = .holdClose)

/-- A RESUME is taken (R113, R114). -/
def takeResume (c : ChannelId) (s : State) : Effect :=
  match s.currentSlot c with
  | none => (s, [])
  | some (n, x) =>
    let s1 := s.putStatus n (if x.order.kind = some .transfer then .waitPath else .opening)
    (s1.putChannel c { s1.channel c with state := .running }, [.proceed c])

/-- The remaining quantity of a RECEIVE or TRANSFER; none where the destination content is UNKNOWN (R106). -/
def State.remaining (s : State) (x : OrderSlot) : Option Nat :=
  match x.order.kind with
  | some .receive => (x.order.dest.bind fun h => (s.holder h).content).map fun n => x.order.target - n
  | some .transfer => some (x.order.target - x.counted)
  | _ => none

/-! ## The valve unit's words (R91, R96, R98, R108, R109) -/

/-- A word that reaches an order in WAIT-PATH, OPENING or FLOWING (R86, R91, R96). -/
def wordWorking (c : ChannelId) (x : OrderSlot) (v : ValveId) (w : ValveWord) (s : State) : Effect :=
  let held := decide ((s.valve v).claim = .channel c)
  let retry : Effect :=
    match s.workFor c v with
    | some y =>
      match y.kind with
      | .holdClose => if y.wait = .drive then (s, [.beginHoldClose c]) else (s.clearWork c v, [])
      | _ =>
        if y.wait = .drive ∨ y.wait = .shielded then (s.setWork c v .move .again, [.channelRetry c]) else (s, [])
    | none => (s, [])
  match w with
  | .faultSet | .failed => if held then endOrder c .failed .valveFault s else (s, [])
  | .faultCleared => (s, [])
  | .taken cause =>
    if held && decide (cause = .contract) && decide (x.order.kind = some .admitSource) then
      endOrder c .failed .contractSpent s
    else (s, [])
  | .superseded =>
    if (s.workFor c v).any fun y => decide (y.kind = .move) then (s.setWork c v .move .shielded, []) else (s, [])
  | .done =>
    match s.workFor c v with
    | some y =>
      if y.kind = .move ∧ y.wait = .answer then
        if x.order.movesGas then (s.clearWork c v, [.proceed c]) else endOrder c .done .target (s.clearWork c v)
      else retry
    | none => (s, [])
  | .driveEnded | .closeDone => retry

/-- A word that reaches a SUSPENDED order (R108, R109). -/
def wordHeld (c : ChannelId) (v : ValveId) (w : ValveWord) (s : State) : Effect :=
  let held := decide ((s.valve v).claim = .channel c)
  match w with
  | .faultSet | .failed => if held then endOrder c .failed .valveFault s else (s, [])
  | .faultCleared | .taken _ | .superseded => (s, [])
  | .closeDone => (s.clearWork c v, [])
  | .done | .driveEnded =>
    match s.workFor c v with
    | some y => if y.wait = .drive then (s, [.beginHoldClose c]) else (s.clearWork c v, [])
    | none => (s, [])

/-- A word that reaches an order in CLOSING (R96, R98). A claim that it releases is told to the other channel before the
order is posted (DESIGN CHOICE, log 46). -/
def wordClosing (c : ChannelId) (v : ValveId) (w : ValveWord) (s : State) : Effect :=
  let released : Effect := (releaseOne c v s).andThen fun t => (t, [.postIfFree c])
  match w with
  | .faultCleared | .taken _ | .superseded => (s, [])
  | .faultSet | .failed | .closeDone => released
  | .done | .driveEnded =>
    match s.workFor c v with
    | some y =>
      if y.kind = .close ∧ y.wait = .drive then (askClose c v s).andThen fun t => (t, [.postIfFree c])
      else if y.kind = .close ∧ w = .driveEnded then (s, [])
      else released
    | none => (s, [])

/-- The valve unit speaks to a channel as requester or as claimant of a valve. -/
def channelWord (c : ChannelId) (v : ValveId) (w : ValveWord) (s : State) : Effect :=
  match s.currentSlot c with
  | none => (s, [])
  | some (_, x) =>
    match x.status with
    | .waitPath | .opening | .flowing => wordWorking c x v w s
    | .suspended => wordHeld c v w s
    | .closing => wordClosing c v w s
    | _ => (s, [])

/-! ## Asking again -/

/-- A channel asks again what was refused (R63, R86, R87, R98, R108). -/
def channelRetry (c : ChannelId) (s : State) : Effect :=
  match s.currentSlot c with
  | none => (s, [])
  | some (n, x) =>
    let waiting (k : WorkKind) : List ValveId :=
      ((s.channel c).work.filter fun w => decide (w.kind = k) && (decide (w.wait = .place) || decide (w.wait = .again))).map
        fun w => w.valve
    if x.status = .closing then
      let e : Effect := (waiting .close).foldl (fun e v => e.andThen (askClose c v)) (s, [])
      e.andThen fun t => (t, [.postIfFree c])
    else
      let first : Effect := if (waiting .holdClose).isEmpty then (s, []) else askHoldClose c s
      if x.status.working && !(waiting .move).isEmpty then
        first.andThen fun t =>
          if x.order.movesGas then openStep c n x t else moveStep c n x t
      else first

/-- Which of the two channels goes first where both wait (log 6). -/
def bothWays (s : State) (f : ChannelId → Act) : Effect :=
  ({ s with freeCount := s.freeCount + 1 },
    if Config.channelAFirst s.freeCount then [f .a, f .b] else [f .b, f .a])

/-- Each channel that waits is told; where both do, in either order (R63, R83). -/
def eachWaiting (waits : ChannelId → Bool) (f : ChannelId → Act) (s : State) : Effect :=
  if waits .a && waits .b then bothWays s f else (s, (allChannels.filter waits).map f)

/-- The channel's order waits in WAIT-PATH for its claim or its pin. -/
def State.pathWaits (s : State) (k : PathWait) (c : ChannelId) : Bool :=
  match s.currentSlot c with
  | some (_, x) => decide (x.status = .waitPath) && decide ((s.channel c).pathWait = k)
  | none => false

/-- A claim has been released (R60, R83). -/
def claimReleased (s : State) : Effect := eachWaiting (s.pathWaits .claim) Act.claimPath s

/-- A place of the move queue has freed (R63). -/
def channelPlace (s : State) : Effect :=
  eachWaiting (fun c => (s.channel c).work.any fun w => decide (w.wait = .place)) Act.channelRetry s

/-- A changeover has ended or a pin has been released (R84): the order that waits for its pin asks again. -/
def askPins (s : State) : Effect := (s, (allChannels.filter (s.pathWaits .pin)).map Act.proceed)

/-! ## Words of the other blocks (R84, R88 to R95, R103) -/

/-- The word that the pin is granted (R52, R84). -/
def pinGranted (c : ChannelId) (s : State) : Effect :=
  if s.pathWaits .pin c then (s.putChannel c { s.channel c with pathWait := .nothing }, [.proceed c]) else (s, [])

/-- The word that the pin is refused (R84). -/
def pinRefused (c : ChannelId) (s : State) : Effect :=
  if s.pathWaits .pin c then endOrder c .failed .pinRefused s else (s, [])

/-- The word that the pin is lost (R95). -/
def pinLost (c : ChannelId) (s : State) : Effect :=
  match s.currentSlot c with
  | some (_, x) => if x.status.working then endOrder c .guardEnd .sourceLost s else (s, [])
  | none => (s, [])

/-- Each channel whose order meets a condition has it ended; both are in CLOSING before anything follows from it. -/
def endEach (hit : OrderSlot → Bool) (k : OrderStatus) (cause : EndCause) (s : State) : Effect :=
  allChannels.foldl (fun e c => e.andThen fun t =>
    match t.currentSlot c with
    | some (_, x) => if hit x then endOrder c k cause t else (t, [])
    | none => (t, [])) (s, [])

/-- A guard has been raised (R93, R110). -/
def guardRaised (h : HolderId) (g : Guard) (s : State) : Effect :=
  match g with
  | .crown => endEach (fun x => x.order.movesGas && decide (x.order.dest = some h)) .guardEnd .crownGuard s
  | .low =>
    endEach (fun x => decide (x.order.kind = some .transfer) && decide (x.order.src = some h)) .guardEnd .lowGuard s

/-- A holder has entered FAULT (R94, R110). -/
def holderInFault (h : HolderId) (s : State) : Effect :=
  endEach (fun x => x.order.movesGas && (decide (x.order.dest = some h) || decide (x.order.src = some h))) .failed
    .holderFault s

/-- A content handed on (R89, R110). -/
def contentTaken (h : HolderId) (s : State) : Effect :=
  endEach (fun x => decide (x.order.kind = some .receive) && decide (x.order.dest = some h)
    && ((s.holder h).content.any fun n => decide (x.order.target ≤ n))) .done .target s

/-- A change of minute (R90). -/
def minuteToChannels (s : State) : Effect :=
  endEach (fun x => decide (x.order.kind = some .wait) && decide (x.order.form = some .minute)
    && decide (x.order.target = s.clock.minute)) .done .target s

/-- The channel whose TRANSFER is FLOWING (R2, R88). -/
def State.flowingTransfer (s : State) : Option ChannelId :=
  allChannels.find? fun c =>
    match s.currentSlot c with
    | some (_, x) => decide (x.order.kind = some .transfer) && decide (x.status = .flowing)
    | none => false

/-- An M11 pulse passed to the channel unit (R88). -/
def transferPulse (weight : Nat) (s : State) : Effect :=
  match s.flowingTransfer with
  | none => (s, [])
  | some c =>
    match s.currentSlot c with
    | none => (s, [])
    | some (n, x) =>
      let s1 := s.putOrder n { x with counted := x.counted + weight }
      if x.order.target ≤ x.counted + weight then endOrder c .done .target s1 else (s1, [])

/-- The yard stop at one channel (R103). -/
def channelStop (c : ChannelId) (s : State) : Effect :=
  let ch := s.channel c
  match ch.state with
  | .idle => goHalted c .yardStop none s
  | .halted => (s.putChannel c { ch with halt := some .yardStop }, [])
  | .running | .suspended | .stopping _ =>
    endOrder c .aborted .yardStop (s.putChannel c { ch with state := .stopping true, stopAfter := false })

/-- The yard stop at the channel unit (R103): both channels have taken it before anything follows from either, so no claim
or pin that one gives up lets the other's order go on; A's consequences come before B's (DESIGN CHOICE, log 10). -/
def channelsStop (s : State) : Effect := allChannels.foldl (fun e c => e.andThen (channelStop c)) (s, [])

/-- The expiries of a channel's timers (R83, R90, R92). -/
def pathExpired (c : ChannelId) (s : State) : Effect :=
  match s.currentSlot c with
  | some (_, x) =>
    if due (s.channel c).pathTimer && decide (x.status = .waitPath) then endOrder c .timedOut .pathTimeout s else (s, [])
  | none => (s, [])

def limitExpired (c : ChannelId) (s : State) : Effect :=
  match s.currentSlot c with
  | some (_, x) =>
    if due (s.channel c).limitTimer && x.status.working then endOrder c .timedOut .timeLimit s else (s, [])
  | none => (s, [])

def waitExpired (c : ChannelId) (s : State) : Effect :=
  match s.currentSlot c with
  | some (_, x) =>
    if due (s.channel c).waitTimer && decide (x.status = .flowing) then endOrder c .done .target s else (s, [])
  | none => (s, [])

/-- The destination of a TRANSFER that a channel has still to report as current (R82). -/
def State.unreported (s : State) (c : ChannelId) : Option HolderId :=
  match s.currentSlot c with
  | some (_, x) =>
    if x.status.running && decide (x.order.kind = some .transfer) && (s.channel c).reported.isNone then x.order.dest
    else none
  | none => none

/-- The close of an event (R82): each TRANSFER that has become current in it and still runs is reported to the selector,
channel A's first, each by a trigger of its own (DESIGN CHOICE, log 4). -/
def eventClose (s : State) : Effect :=
  match s.unreported .a, s.unreported .b with
  | some h, _ => (s.putChannel .a { s.channel .a with reported := some h }, [.decodeTrigger, .eventClose])
  | none, some h => (s.putChannel .b { s.channel .b with reported := some h }, [.decodeTrigger, .eventClose])
  | none, none => (s, [])

/-- START at the channel unit (R194, R7): where the yard stop stands ASSERTED, the stop is handed on. -/
def startChannels (s : State) : Effect :=
  if s.control.stopAsserted then
    (s, Act.channelsStop :: stopValves.map fun v => .protectClose v .yardStop)
  else (s, [])

end Sys2Proof.Machine
end

