-- ==== Sys2Proof/Machine/DistrictUnit.lean ====
section
/-!
DEFINITION. Sys2Proof/Machine/DistrictUnit.lean: the district unit (07, 08): setpoints in force, governor outputs, opening
and shutting, valve faults, samples, excursions and trips.
-/

namespace Sys2Proof.Machine

/-! ## Outputs, lockouts and notices -/

/-- The governor output of a district's outlet follows its state and its setpoint in force (R126). -/
def loadOutput (d : DistrictId) (s : State) : State :=
  match s.outletOf d with
  | none => s
  | some p =>
    let x := s.district d
    s.putOutput p (if x.state.loaded then (x.inForce.map fun i => i.value).getD 0 else 0)

/-- The settle lockout starts with the district's setting and cancels the qualify timer; one of 0 s expires within the
event (R139). -/
def startLockout (d : DistrictId) (s : State) : State :=
  let n := (s.districtSettings d).lockout
  s.putDistrict d { s.district d with lockout := if n = 0 then none else some n, qualify := none }

/-- A DISTRICT STATE notice (R134). -/
def stateNotice (d : DistrictId) (old : DistrictState) (fault : Option (ValveFault × Position)) (s : State) : Act :=
  .notice (.districtState d (s.outletOf d) old (s.district d).state
    ((s.district d).inForce.map fun i => i.value) fault)

/-- A district's state is replaced; its timers stop outside LIVE and WARN, nothing is waited for, and its output follows
(R126, R127). -/
def setDistrictState (d : DistrictId) (k : DistrictState) (s : State) : State :=
  let x := s.district d
  let y : District :=
    if k.loaded then { x with state := k, moveWait := .unasked }
    else { x with state := k, moveWait := .unasked, lockout := none, qualify := none, repeatLeft := none }
  loadOutput d (s.putDistrict d y)

/-! ## The setpoint in force (R123, R124) -/

/-- The setpoint in force of a district is found afresh (R124): another value loads the governor and restarts the lockout
in LIVE and WARN; the row is kept as it now is (R136). -/
def findSetpoint (d : DistrictId) (s : State) : State :=
  if s.running && (s.outletOf d).isSome then
    let x := s.district d
    let found := s.setpointNow d
    let s1 := s.putDistrict d { x with inForce := some found }
    if (x.inForce.map fun i => i.value) ≠ some found.value ∧ x.state.loaded = true then startLockout d (loadOutput d s1)
    else s1
  else s

/-- The setpoint in force is found afresh for every district with an outlet (R124). -/
def findSetpoints (s : State) : State := allDistricts.foldl (fun t d => findSetpoint d t) s

/-! ## Opening and shutting (R128 to R131) -/

/-- The claim of a district on its outlet valve is released (R130, R131). -/
def releaseOutlet (d : DistrictId) (s : State) : Effect :=
  match s.outletOf d with
  | some p => releaseClaims (.district d) [districtValve p] s
  | none => (s, [])

/-- A district enters FAULT (R133). It leaves the requesters of a protective close that it had joined too, and that close
stands (DESIGN CHOICE, log 48: R133 withdraws a move in the move queue). -/
def enterDistrictFault (d : DistrictId) (s : State) : Effect :=
  match s.outletOf d with
  | none => (s, [])
  | some p =>
    let v := districtValve p
    let old := (s.district d).state
    let s1 := setDistrictState d .fault s
    let (s2, freed) := withdraw (.district d) v s1
    (s2, freed ++ [stateNotice d old (some ((s.valve v).fault, (s.valve v).position)) s2])

/-- A district in OPENING enters LIVE (R129). -/
def enterLive (d : DistrictId) (s : State) : Effect :=
  let old := (s.district d).state
  if old = .opening then
    let s1 := startLockout d (setDistrictState d .live s)
    (s1, [stateNotice d old none s1])
  else (s, [])

/-- A district in CLOSING or FAULT becomes SHUT (R130, R131). -/
def enterShut (d : DistrictId) (s : State) : Effect :=
  let old := (s.district d).state
  if old = .closing ∨ old = .fault then
    let (s1, released) := releaseOutlet d (setDistrictState d .shut s)
    (s1, released ++ [stateNotice d old none s1])
  else (s, [])

/-- The open of a district in OPENING, or the close of one in CLOSING, is asked, and its answer is acted on (R129,
R131). -/
def askDistrictMove (d : DistrictId) (s : State) : Answer × Effect :=
  match s.outletOf d with
  | none => (.faulted, s, [])
  | some p =>
    let opening := decide ((s.district d).state = .opening)
    match moveRequest (.district d) (districtValve p) (if opening then .opened else .closed) s with
    | (.done, s1, acts) => (.done, s1, acts ++ [if opening then .districtLive d else .districtShut d])
    | (.faulted, s1, acts) =>
      let (s2, told) := enterDistrictFault d s1
      (.faulted, s2, acts ++ told)
    | (a, s1, acts) => (a, s1.putDistrict d { s1.district d with moveWait := a.wait.getD .unasked }, acts)

/-- The same, asked again within an event. -/
def districtAsk (d : DistrictId) (s : State) : Effect :=
  if (s.district d).state = .opening ∨ (s.district d).state = .closing then (askDistrictMove d s).2 else (s, [])

/-- OK where the move was answered DONE, ACCEPTED in every other case (R128, R130). -/
def moveStatus : Answer → Status
  | .done => .ok
  | _ => .accepted

/-- A district enters OPENING or CLOSING, with its notice, and its move is asked, behind the blocks that a place freed by
its claim is told to (R63, R128, R130). Whether the move is answered DONE rests on its own valve, which those leave alone. -/
def beginMove (d : DistrictId) (k : DistrictState) (freed : List Act) (s : State) : Status × Effect :=
  let old := (s.district d).state
  let s1 := setDistrictState d k s
  (moveStatus (askDistrictMove d s1).1, s1, freed ++ [stateNotice d old none s1, .districtAsk d])

/-- OPEN DISTRICT in RUN for a district with an outlet (R128, R146). -/
def openDistrict (d : DistrictId) (p : OutletId) (s : State) : Status × Effect :=
  match (s.district d).state with
  | .opening | .live | .warn | .closing | .fault => (.inUse, s, [])
  | .tripped => if s.stands (districtValve p) .closed then beginMove d .opening [] s else (.inUse, s, [])
  | .shut =>
    match claimRequest (.district d) [districtValve p] s with
    | (.granted, s1, freed) => beginMove d .opening freed s1
    | (.faulted, _) => (.faulted, s, [])
    | (.inUse, _) => (.inUse, s, [])
    | (.wrongPhase, _) => (.wrongPhase, s, [])

/-- SHUT DISTRICT in RUN (R130). -/
def shutDistrict (d : DistrictId) (s : State) : Status × Effect :=
  if (s.outletOf d).isNone then (.ok, s, [])
  else
    match (s.district d).state with
    | .shut | .closing => (.ok, s, [])
    | .fault => (.ok, enterShut d s)
    | .opening | .live | .warn | .tripped => beginMove d .closing [] s

/-- A place of the move queue has freed (R63, R129, R131); the districts ask again in ascending number (log 12). -/
def districtPlace (s : State) : Effect :=
  (s, (allDistricts.filter fun d => (s.district d).moveWait = .place).map Act.districtAsk)

/-- The valve unit's words about an outlet valve, to the district that asked or claims it (R129, R131, R132). A TRIPPED
district records the close of its trip, where the valve unit has one under way, until its end (R145); the record is kept
as what the district waits for, so READ DISTRICT sends wait 04h for it (DESIGN CHOICE, log 8: R136 gives what an open or
close waits for, and a TRIPPED district has asked neither). -/
def districtWord (d : DistrictId) (w : ValveWord) (s : State) : Effect :=
  let x := s.district d
  match w with
  | .failed | .faultSet =>
    match x.state with
    | .opening | .live | .warn | .closing | .tripped => enterDistrictFault d s
    | .shut | .fault => (s, [])
  | .done =>
    match x.state with
    | .opening => if x.moveWait = .answer then (s, [.districtLive d]) else (s, [.districtAsk d])
    | .closing => if x.moveWait = .answer then (s, [.districtShut d]) else (s, [.districtAsk d])
    | _ => (s, [])
  | .driveEnded | .closeDone =>
    if x.state = .tripped then (s.putDistrict d { x with moveWait := .unasked }, [])
    else if x.moveWait = .drive ∨ x.moveWait = .shielded then (s, [.districtAsk d])
    else (s, [])
  | .superseded =>
    if x.state = .opening then (s.putDistrict d { x with moveWait := .shielded }, []) else (s, [])
  | .taken .trip =>
    if x.state = .tripped ∧ (s.outletOf d).any (fun p => s.shielded (districtValve p)) = true then
      (s.putDistrict d { x with moveWait := .shielded }, [])
    else (s, [])
  | .taken _ | .faultCleared => (s, [])

/-! ## Excursions and trips (08) -/

/-- The position of a valve as a protective close finds it, told in DISTRICT TRIPPED and CONTRACT CUT. -/
def State.foundPosition (s : State) (v : ValveId) : Position := (s.valve v).position

/-- WARN is left for LIVE at the repeat window's expiry (R143). -/
def leaveWarn (d : DistrictId) (s : State) : Effect :=
  let s1 := s.putDistrict d { s.district d with state := .live, repeatLeft := none }
  (s1, [stateNotice d .warn none s1])

/-- A qualified excursion in LIVE puts the district in WARN (R142); a window of 0 s expires within the event (R143). -/
def enterWarn (d : DistrictId) (p : OutletId) (side : Side) (sample setpoint : Nat) (s : State) : Effect :=
  let y := s.districtSettings d
  let s1 := s.putDistrict d { s.district d with state := .warn, qualify := none, repeatLeft := some y.repeatWindow }
  let notice := Act.notice (.districtWarn d p side sample setpoint ((setpoint : Int) - y.lowMargin)
    (setpoint + y.highMargin))
  if y.repeatWindow = 0 then
    let (s2, acts) := leaveWarn d s1
    (s2, notice :: acts)
  else (s1, [notice])

/-- A qualified excursion in WARN trips the district (R144). -/
def trip (d : DistrictId) (p : OutletId) (side : Side) (sample setpoint : Nat) (s : State) : Effect :=
  let v := districtValve p
  (setDistrictState d .tripped s,
    [.protectClose v .trip, .notice (.districtTripped d p side sample setpoint (s.foundPosition v))])

/-- A qualified excursion acts by the district's state (R141, R142, R144). -/
def qualified (d : DistrictId) (side : Side) (sample setpoint : Nat) (s : State) : Effect :=
  match s.outletOf d, (s.district d).state with
  | some p, .live => enterWarn d p side sample setpoint s
  | some p, .warn => trip d p side sample setpoint s
  | _, _ => (s, [])

/-- A sample is judged (R138, R140, R141). -/
def judgeSample (d : DistrictId) (value : Nat) (s : State) : Effect :=
  let x := s.district d
  let y := s.districtSettings d
  if !s.running || !x.state.loaded || x.lockout.isSome then (s, [])
  else
    match x.inForce with
    | none => (s, [])
    | some i =>
      match excursion y i.value value with
      | none => (s.putDistrict d { x with qualify := none }, [])
      | some side =>
        if x.qualify.isSome then (s, [])
        else if y.qualify = 0 then qualified d side value i.value s
        else (s.putDistrict d { x with qualify := some y.qualify }, [])

/-- A pressure sample (R4). -/
def takeSample (p : OutletId) (value : Nat) (s : State) : Effect :=
  match s.settings.map.districtAt p with
  | none => (s, [])
  | some d => judgeSample d value (s.putDistrict d { s.district d with sample := some { value := value, age := 0 } })

/-- Expiry of the qualify timer (R141). -/
def qualifyExpired (d : DistrictId) (s : State) : Effect :=
  let x := s.district d
  if s.running && due x.qualify then
    let s1 := s.putDistrict d { x with qualify := none }
    match x.sample, x.inForce with
    | some a, some i =>
      match excursion (s.districtSettings d) i.value a.value with
      | some side => qualified d side a.value i.value s1
      | none => (s1, [])
    | _, _ => (s1, [])
  else (s, [])

/-- Expiry of the settle lockout (R139). -/
def lockoutExpired (d : DistrictId) (s : State) : Effect :=
  let x := s.district d
  if s.running && due x.lockout then (s.putDistrict d { x with lockout := none }, []) else (s, [])

/-- Expiry of the repeat window (R143). -/
def repeatExpired (d : DistrictId) (s : State) : Effect :=
  let x := s.district d
  if s.running && due x.repeatLeft && decide (x.state = .warn) then leaveWarn d s else (s, [])

/-! ## The outlet map and the phases (R118, R135) -/

/-- A district's setpoint in force after a change of the outlet map in RUN (R118). -/
def afterMap (old : OutletMap) (d : DistrictId) (s : State) : State :=
  match old.outletOf d, s.outletOf d with
  | none, some _ => findSetpoint d s
  | some _, none => s.putDistrict d { s.district d with inForce := none }
  | _, _ => s

/-- The new map applies in RUN (R118). -/
def applyMap (old : OutletMap) (s : State) : Effect :=
  (allDistricts.foldl (fun t d => afterMap old d t) s, [.mapChanged])

/-- START at one district (R135). -/
def startDistrict (d : DistrictId) (s : State) : Effect :=
  match s.outletOf d with
  | none => (s, [])
  | some p =>
    let v := districtValve p
    let s1 := s.putDistrict d { s.district d with inForce := some (s.setpointNow d) }
    if (s.valve v).position ≠ .opened then (s1, [])
    else if (s.valve v).fault = .noFault then
      let s2 := startLockout d (setDistrictState d .live (s1.putClaim v (.district d)))
      (s2, [stateNotice d .shut none s2])
    else
      let s2 := setDistrictState d .fault (s1.putClaim v (.district d))
      (s2, [stateNotice d .shut (some ((s.valve v).fault, (s.valve v).position)) s2])

/-- START at the district unit (R135), the districts in ascending number (DESIGN CHOICE, log 12). -/
def startDistricts (s : State) : Effect :=
  allDistricts.foldl (fun e d => e.andThen (startDistrict d)) (s, [])

/-- STOP at the district unit (R135): every setpoint in force is removed. -/
def stopDistricts (s : State) : State :=
  { s with districts := { s.districts with
      table := s.districts.table.map fun x =>
        { x with inForce := none, lockout := none, qualify := none, repeatLeft := none, moveWait := .unasked }
      outputs := Vector.replicate 6 0 } }

end Sys2Proof.Machine
end

