-- ==== Sys2Proof/Machine/AccountUnit.lean ====
section
/-!
DEFINITION. Sys2Proof/Machine/AccountUnit.lean: the account unit (09): meters, halves, posting, the day book and its
statement, and the contract.
-/

namespace Sys2Proof.Machine

/-! ## Marks and halves -/

/-- A half without marks (R152). -/
def noMarks : Marks := Half.empty.marks

/-- A half that becomes FILLING (R152). -/
def openedHalf (at_ : Interval) (reading : StockReading) (marks : Marks) (atStart : Bool) : Half where
  state := .filling
  first := at_
  last := at_
  span := 1
  columns := Vector.replicate 12 0
  atOpen := reading
  atClose := none
  openedAtStart := atStart
  marks := marks
  fullNoticed := false

/-- A FILLING half that becomes READY (R153). -/
def Half.closed (x : Half) (reading : StockReading) : Half :=
  { x with state := .ready, atClose := some reading, fullNoticed := false }

/-- A FILLING half stretched over an interval (R154). -/
def Half.stretched (x : Half) (reached : Interval) (dayCrossed : Bool) : Half :=
  { x with last := reached, span := x.span + 1,
           marks := { x.marks with overrun := true, dayCrossed := x.marks.dayCrossed || dayCrossed } }

/-- The FILLING half changed by a mark (R155). -/
def markFilling (f : Marks → Marks) (s : State) : State :=
  match s.halfIn .filling with
  | some i => s.putHalf i { s.half i with marks := f (s.half i).marks }
  | none => s

/-- A word of the stock unit or the district unit marks the FILLING half in RUN (R155). -/
def basisChanged (s : State) : State := if s.running then markFilling (fun m => { m with basisChanged := true }) s else s
def mapChanged (s : State) : State := if s.running then markFilling (fun m => { m with mapChanged := true }) s else s

/-! ## Posting (R157 to R161) -/

/-- The slot a READY half posts as (R157, R159 to R161). -/
def slotOfHalf (x : Half) (atClose : StockReading) (threshold : Nat) : Slot :=
  let figure := unaccountedOf x.columns x.atOpen atClose x.openedAtStart
  let slot : Slot :=
    { first := x.first, last := x.last, span := x.span, columns := x.columns, atOpen := x.atOpen, atClose := atClose,
      openedAtStart := x.openedAtStart, unaccounted := figure, marks := x.marks,
      discrepant := discrepantOf figure threshold, original := true, check := 0 }
  { slot with check := checkWord slot }

/-- The DISCREPANCY notice of a slot on which the mark is newly set (R160). -/
def discrepancyWords (was : Bool) (x : Slot) : List Act :=
  match x.unaccounted with
  | some n => if x.discrepant && !was then [.notice (.discrepancy x.first n)] else []
  | none => []

/-- A READY half posts where the book holds fewer than 64 slots, or is found to wait (R157, R158). -/
def postReady (s : State) : Effect :=
  match s.halfIn .ready with
  | none => (s, [])
  | some i =>
    let x := s.half i
    match x.atClose with
    | none => (s, [])
    | some reading =>
      if s.accounts.book.length < Config.bookPlaces then
        let slot := slotOfHalf x reading s.settings.discrepancy
        let book := s.accounts.book ++ [slot]
        let s1 := s.putHalf i Half.empty
        (s1.putAccounts { s1.accounts with book := book, lastPosted := some slot.last },
          [Act.notice (.slotPosted slot.first slot.span slot.marks slot.discrepant slot.unaccounted book.length)]
            ++ discrepancyWords false slot)
      else if x.fullNoticed then (s, [])
      else (s.putHalf i { x with fullNoticed := true }, [.notice (.dayBookFull x.first)])

/-! ## The contract (R167 to R171) -/

/-- The contract becomes CUT in RUN (R169). -/
def cutContract (x : SourceId) (s : State) : Effect :=
  (s.putAccounts { s.accounts with cut := true },
    [.protectClose (sourceValve x) .contract,
      .notice (.contractCut x s.settings.cap s.accounts.take (s.foundPosition (sourceValve x)))])

/-- The contract state is judged other than at a pulse (R171); with no source it is OPEN (R167). -/
def judgeContract (s : State) : Effect :=
  match s.settings.source with
  | none => (s.putAccounts { s.accounts with cut := false }, [])
  | some x =>
    if s.accounts.take < s.settings.cap then (s.putAccounts { s.accounts with cut := false }, [])
    else if s.accounts.cut then (s, [])
    else if s.running then cutContract x s
    else (s.putAccounts { s.accounts with cut := true }, [])

/-- The take summed over the slots and halves whose first interval lies in the present gas day (R168). -/
def State.sumTake (s : State) : Nat :=
  match s.settings.source with
  | none => 0
  | some x =>
    let day := s.clock.day
    let slots := (s.accounts.book.filter fun b => b.first.day = day).map fun b => b.columns[x.val]
    let halves := ([s.half .a, s.half .b].filter fun h => h.state ≠ .empty ∧ h.first.day = day).map fun h =>
      h.columns[x.val]
    capVolume (slots.sum + halves.sum)

/-- The take is recomputed for the present gas day (R168). -/
def recomputeTake (s : State) : State :=
  s.putAccounts { s.accounts with take := s.sumTake, takeDay := s.clock.day }

/-- A gas-day start ends the old day's take (R168). -/
def gasDayStart (day : Nat) (s : State) : Effect :=
  judgeContract (s.putAccounts { s.accounts with take := 0, takeDay := day })

/-- A fault has been cleared on the contract source's valve (R170). -/
def contractFaultCleared (s : State) : Effect :=
  match s.settings.source with
  | some x => if s.running && s.accounts.cut then (s, [.protectClose (sourceValve x) .contract]) else (s, [])
  | none => (s, [])

/-! ## Pulses (R2, R151, R168, R169) -/

/-- A pulse's weight in its column of the FILLING half (R151). -/
def countPulse (k : MeterId) (weight : Nat) (s : State) : State :=
  match s.halfIn .filling with
  | none => s
  | some i =>
    let x := s.half i
    let col := meterColumn s.settings.map k
    s.putHalf i { x with columns := x.columns.set col.val (capVolume (x.columns[col.val] + weight)) }

/-- The meter of the contract source (R151). -/
def State.contractMeter (s : State) (k : MeterId) : Option SourceId :=
  s.settings.source.bind fun x => if x.val = k.val then some x else none

/-- A pulse of the contract source's meter (R168, R169). -/
def contractPulse (k : MeterId) (weight : Nat) (s : State) : Effect :=
  match s.contractMeter k with
  | none => (s, [])
  | some x =>
    let s1 := s.putAccounts { s.accounts with take := capVolume (s.accounts.take + weight) }
    if !s1.accounts.cut && decide (s1.settings.cap ≤ s1.accounts.take) then cutContract x s1 else (s1, [])

/-- A meter pulse (R2, R151). -/
def takePulse (k : MeterId) (s : State) : Effect :=
  if !s.running then (s, [])
  else
    let weight := s.settings.weights[k]
    let (s1, acts) := contractPulse k weight (countPulse k weight s)
    (s1, acts ++ (if k.val = 10 then [.transferPulse weight] else []))

/-! ## Boundaries, clock sets and START (R153, R154, R156, R174) -/

/-- The FILLING half closes with the stock as it stands, the other becomes FILLING, and the READY half posts (R153). -/
def turnHalves (i : HalfId) (x : Half) (begins : Interval) (atStart : Bool) (s : State) : Effect :=
  let reading := s.stockReading
  postReady ((s.putHalf i (x.closed reading)).putHalf i.other (openedHalf begins reading noMarks atStart))

/-- An interval boundary handed on in RUN (R153, R154, R168). -/
def takeBoundary (b : Boundary) (s : State) : Effect :=
  match s.halfIn .filling with
  | none => (s, [])
  | some i =>
    let x := s.half i
    let e : Effect :=
      if (s.half i.other).state = .empty then turnHalves i x b.beginning false s
      else (s.putHalf i (x.stretched b.beginning b.dayStart), [])
    if b.dayStart then e.andThen (gasDayStart b.beginning.day) else e

/-- A half marked by a clock set (R156). -/
def Half.clockSet (x : Half) : Half := { x with marks := { x.marks with clockSet := true } }

/-- A clock set handed on in RUN (R156, R168). -/
def takeClockSet (new : Interval) (laterDay : Bool) (s : State) : Effect :=
  match s.halfIn .filling with
  | none => (s, [])
  | some i =>
    let x := (s.half i).clockSet
    let e : Effect :=
      if (s.half i.other).state = .empty then turnHalves i x new false s
      else (s.putHalf i (x.stretched new laterDay), [])
    if laterDay then e.andThen (gasDayStart new.day) else e

/-- START found a configured holder's content UNKNOWN (R159; log 18). -/
def State.unknownContent (s : State) : Bool :=
  allHolders.any fun h => (s.holderSettings h).configured && (s.holder h).content.isNone

/-- The halves at START (R174). -/
def startHalves (s : State) : Effect :=
  let present := s.clock.interval
  match s.halfIn .filling with
  | none =>
    (s.putHalf .a (openedHalf present s.stockReading { noMarks with powerGap := s.accounts.gapPending } s.unknownContent),
      [])
  | some i =>
    let x := s.half i
    let marked : Half := { x with marks := { x.marks with mapChanged := true, basisChanged := true } }
    if x.last = present then (s.putHalf i marked, [])
    else if (s.half i.other).state = .empty then turnHalves i marked.clockSet present s.unknownContent s
    else (s.putHalf i (marked.clockSet.stretched present (dayLater present.day x.last.day)), [])

/-- The contract at START (R174): a state judged CUT makes its close and its notice whether it was CUT before or not. -/
def startContract (s : State) : Effect :=
  let s1 := if s.clock.day = s.accounts.takeDay then s else recomputeTake s
  judgeContract (s1.putAccounts { s1.accounts with cut := false })

/-- The first interval of the FILLING half. -/
def State.fillingFirst (s : State) : Interval :=
  match s.halfIn .filling with
  | some i => (s.half i).first
  | none => s.clock.interval

/-- The POWER GAP notice at START (R174). -/
def startGap (s : State) : Effect :=
  if s.accounts.gapPending then
    (s.putAccounts { s.accounts with gapPending := false, memoryLost := false },
      [.notice (.powerGap s.accounts.lastPosted s.accounts.memoryLost s.fillingFirst)])
  else (s, [])

/-- START at the account unit (R174). -/
def startAccounts (s : State) : Effect := ((startHalves s).andThen startContract).andThen startGap

/-- START's check of the present interval (R174, R193). -/
def State.clockBehind (s : State) : Bool :=
  let present := s.clock.interval
  let behindPosted :=
    match s.accounts.lastPosted with
    | some p => !present.later p
    | none => false
  behindPosted || [s.half .a, s.half .b].any fun h => decide (h.state ≠ .empty) && present.earlier h.last

/-! ## The day book (R161 to R166) -/

/-- The place of the slot with a first interval. -/
def State.slotPlace (s : State) (p : Interval) : Option Nat := s.accounts.book.findIdx? fun x => x.first = p

/-- The stored check word of a slot holds; an AMENDED slot has none to hold (R161). -/
def Slot.checkHolds (x : Slot) : Bool := decide (checkWord x = x.check)

/-- A slot made AMENDED, its check word void (R161, R162). -/
def Slot.amended (x : Slot) : Slot := { x with original := false, check := 0 }

/-- The slot at a place of the book replaced. -/
def State.putSlot (s : State) (place : Nat) (x : Slot) : State :=
  s.putAccounts { s.accounts with book := s.accounts.book.set place x }

/-- A slot with new columns (R162). -/
def Slot.withColumns (x : Slot) (columns : Vector Nat 12) (threshold : Nat) : Slot :=
  let figure := unaccountedOf columns x.atOpen x.atClose x.openedAtStart
  { x.amended with columns := columns, unaccounted := figure, discrepant := discrepantOf figure threshold }

/-- The take after an amendment of the present day's slot, held from 0 to its greatest figure (R162, R168; log 19). -/
def takeAfter (take old new : Nat) : Nat := capVolume (take + new - old)

/-- AMEND SLOT of the slot at a place (R162). -/
def amendSlot (place : Nat) (x : Slot) (columns : Vector Nat 12) (s : State) : Effect :=
  let y := x.withColumns columns s.settings.discrepancy
  let s1 := s.putSlot place y
  let take :=
    match s.settings.source with
    | some k =>
      if x.first.day = s.accounts.takeDay then takeAfter s.accounts.take x.columns[k.val] columns[k.val]
      else s.accounts.take
    | none => s.accounts.take
  let s2 := s1.putAccounts { s1.accounts with take := take }
  (s2, discrepancyWords x.discrepant y ++ (if take = s.accounts.take then [] else [.judgeContract]))

/-- Columns summed over slots (R166). -/
def sumColumns (l : List Slot) : Vector Nat 12 :=
  Vector.ofFn fun i => (l.map fun x => x.columns[i.val]).sum

/-- How many slots carry a mark. -/
def countSlots (l : List Slot) (f : Slot → Bool) : Nat := (l.filter f).length

/-- The day statement built from a day's slots (R166). -/
def statementOf (day : Nat) (slots : List Slot) : Statement :=
  let good := slots.filter fun x => x.original && x.checkHolds
  let none_ : StockReading := { stock := 0, complete := false }
  { day := day
    slots := slots.length
    intervals := (slots.map fun x => x.span).sum
    totals := sumColumns slots
    originalTotals := sumColumns good
    originalCount := good.length
    amendedCount := slots.length - good.length
    overrunCount := countSlots slots fun x => x.marks.overrun
    dayCrossedCount := countSlots slots fun x => x.marks.dayCrossed
    powerGapCount := countSlots slots fun x => x.marks.powerGap
    clockSetCount := countSlots slots fun x => x.marks.clockSet
    discrepantCount := countSlots slots fun x => x.discrepant
    firstClose := (slots.head?.map fun x => x.atClose).getD none_
    lastClose := (slots.getLast?.map fun x => x.atClose).getD none_
    unaccountedTotal := (slots.map fun x => x.unaccounted.getD 0).sum
    absentCount := countSlots slots fun x => x.unaccounted.isNone
    checkFailures := countSlots slots fun x => x.original && !x.checkHolds }

/-- CLOSE DAY is refused with NOT OLDEST or NOT POSTED, or passes its checks (R164). -/
def closeDayCheck (day : Nat) (s : State) : Status :=
  match s.accounts.book with
  | [] => .notOldest
  | oldest :: _ =>
    if oldest.first.day ≠ day then .notOldest
    else if !dayLater s.clock.day day then .notPosted
    else if [s.half .a, s.half .b].any fun h => decide (h.state ≠ .empty) && decide (h.first.day = day) then .notPosted
    else .ok

/-- CLOSE DAY taken (R165). -/
def closeDay (day : Nat) (s : State) : Effect :=
  let slots := s.accounts.book.filter fun x => x.first.day = day
  (s.putAccounts { s.accounts with
    statement := some (statementOf day slots)
    book := s.accounts.book.filter fun x => x.first.day ≠ day }, [.postReady])

end Sys2Proof.Machine
end

