-- ==== Sys2Proof/Machine/Engine.lean ====
section
/-!
DEFINITION. Sys2Proof/Machine/Engine.lean: the clock unit's handing on (01), the handler of every word between blocks, the
running of an event to its end (95: each step is whole and indivisible; log 4), and the taking of a request by the link
port (R179, R180).
-/

namespace Sys2Proof.Machine

/-! ## The clock unit's words (R9, R13) -/

/-- One second passes: every timer counts it, and the clock advances (R8, R10; log 2). -/
def secondPasses (s : State) : State :=
  let t := s.timersSecond
  t.putClock (s.clock.second1 s.running)

/-- The change of minute the clock owes is handed to the district unit and the channel unit (R9; log 3). -/
def handMinute (s : State) : Effect :=
  if s.running && s.clock.minuteOwed then
    (s.putClock { s.clock with minuteOwed := false }, [.findSetpoints, .minuteToChannels])
  else (s, [])

/-- The boundary the clock owes is handed to the account unit (R9; log 3). -/
def handBoundary (s : State) : Effect :=
  match s.clock.boundaryOwed with
  | some b => if s.running then (s.putClock { s.clock with boundaryOwed := none }, [.boundary b]) else (s, [])
  | none => (s, [])

/-- The clock takes a new time (R12, R13); in RUN a later interval is handed to the account unit, and a changed minute
to the district unit and the channel unit. -/
def setClock (day minute second dayStartMinute : Nat) (s : State) : Effect :=
  let old := s.clock
  let new : ClockUnit :=
    { day := day, minute := minute, second := second, dayStartMinute := dayStartMinute, unset := false,
      minuteOwed := false, boundaryOwed := none }
  let s1 := s.putClock new
  if !s.running then (s1, [])
  else if new.interval = old.interval then
    (s1, if minute = old.minute then [] else [.findSetpoints, .minuteToChannels])
  else
    (s1, [.clockSet old.interval new.interval (dayLater new.day old.day), .findSetpoints, .minuteToChannels])

/-! ## The handler of a word -/

/-- A word of the valve unit to a requester (R72). -/
def tellRequester (r : Requester) (v : ValveId) (w : ValveWord) (s : State) : Effect :=
  match r with
  | .selector =>
    match outletHolder v with
    | some h => selectorWord h w s
    | none => (s, [])
  | .isolation h => if inletValve h = v then isolationWord h w s else (s, [])
  | .district d =>
    match s.outletOf d with
    | some p => if districtValve p = v then districtWord d w s else (s, [])
    | none => (s, [])
  | .channel c => channelWord c v w s
  | .host => (s, [])

/-- A word of the valve unit to a claimant (R65, R72). -/
def tellClaimant (k : Claim) (v : ValveId) (w : ValveWord) (s : State) : Effect :=
  match k.requester with
  | some r => tellRequester r v w s
  | none => (s, [])

/-- What a word does, and the words it hands on. -/
def handle (a : Act) (s : State) : Effect :=
  match a with
  | .notice n => (s.notify n, [])
  | .secondPasses => (secondPasses s, [])
  | .handMinute => handMinute s
  | .handBoundary => handBoundary s
  | .setClock day minute second dayStartMinute => setClock day minute second dayStartMinute s
  | .protectClose v cause => if s.running then protectiveClose v cause s else (s, [])
  | .arbiter => arbiterChoose s
  | .driveStart => startDrive s
  | .reportEnd => endReport s
  | .placeFreed => freePlace s
  | .tellRequester r v w => tellRequester r v w s
  | .tellClaimant k v w => tellClaimant k v w s
  | .stockValve h => judgeIsolation h s
  | .stockPlace => stockPlaceFreed s
  | .isolationAsk h => askIsolationClose h s
  | .judgeCondition => judgeStock s
  | .decodeTrigger => decodeTrigger s
  | .stockTold => decodeTrigger s
  | .holderIsolating h => holderIsolating h s
  | .askOpenNew => askOpenNew s
  | .takeClosing h => takeClosing h s
  | .closingCheck => closingCheck s
  | .backOut => backOut s
  | .outletCleared h => outletCleared h s
  | .selectorPlace => selectorPlace s
  | .claimReleased => claimReleased s
  | .channelPlace => channelPlace s
  | .channelRetry c => channelRetry c s
  | .claimPath c => claimPath c s
  | .guardRaised h g => guardRaised h g s
  | .holderInFault h => holderInFault h s
  | .contentTaken h => contentTaken h s
  | .pinGranted c => pinGranted c s
  | .pinRefused c => pinRefused c s
  | .pinLost c => pinLost c s
  | .askPins => askPins s
  | .orderCurrent c n => orderCurrent c n s
  | .proceed c => proceed c s
  | .enterFlowing c => enterFlowing c s
  | .askCloses c => askCloses c s
  | .postIfFree c => postIfFree c s
  | .chainOn c n => chainOn c n s
  | .channelsStop => channelsStop s
  | .minuteToChannels => minuteToChannels s
  | .transferPulse weight => transferPulse weight s
  | .beginHoldClose c => askHoldClose c s
  | .releasePin c => releasePin c s
  | .eventClose => eventClose s
  | .findSetpoints => (findSetpoints s, [])
  | .districtPlace => districtPlace s
  | .districtAsk d => districtAsk d s
  | .districtLive d => enterLive d s
  | .districtShut d => enterShut d s
  | .basisChanged => (basisChanged s, [])
  | .mapChanged => (mapChanged s, [])
  | .boundary b => takeBoundary b s
  | .clockSet _ new laterDay => takeClockSet new laterDay s
  | .postReady => postReady s
  | .contractFaultCleared => contractFaultCleared s
  | .judgeContract => judgeContract s
  | .startValves => (adoptValves s, [])
  | .startStock => startStockUnit s
  | .startSelector => startSelector s
  | .startDistricts => startDistricts s
  | .startAccounts => startAccounts s
  | .startChannels => startChannels s

/-! ## An event carried to its end (log 4) -/

/-- The last word of an event at the stock unit to the selector. -/
def Act.endsStock : Act → Bool
  | .stockTold => true
  | _ => false

/-- A re-decode trigger that arises while the last word of an event at the stock unit is still to be handed on: the two
are one trigger, taken at that last word (R41; log 23). -/
def Act.mergedInto (a : Act) (rest : List Act) : Bool :=
  match a with
  | .decodeTrigger | .stockTold => rest.any Act.endsStock
  | _ => false

/-- Handles words, each with all that follows from it before the next; words left over when the count is used up stay in
the backlog. A trigger merged into a later word is passed over; the word to the channels that a pin has been released is
not, so in an event at the stock unit they may ask before the trigger is taken (DESIGN CHOICE, log 23). -/
def run : Nat → List Act → State → State
  | 0, acts, s => { s with backlog := acts }
  | _ + 1, [], s => s
  | n + 1, a :: rest, s =>
    if a.mergedInto rest then run n rest s else run n ((handle a s).2 ++ rest) (handle a s).1

/-- An effect carried to the end of its event; words left over from an earlier event come first. -/
def settle (e : Effect) : State :=
  if e.1.backlog.isEmpty && e.2.isEmpty then e.1
  else run Config.eventWords (e.1.backlog ++ e.2 ++ [.eventClose]) { e.1 with backlog := [] }

/-- A command that is no request: its effect carried to its end. -/
def event (e : Effect) : Host.Outcome State Fault Refusal := .next (settle e)

/-! ## The taking of a request (R179, R180) -/

/-- What an owner makes of a request: its effect, and the reply's body read from the records as the event leaves
them. -/
abbrev Taken := Effect × (State → List Byte)

/-- A request answered with a status alone, changing nothing: a refusal, or a taking that changes nothing. -/
def answer (k : Status) (s : State) : Taken := ((s, []), fun _ => k.body)

/-- A request taken with an effect and a status. -/
def taken (k : Status) (e : Effect) : Taken := (e, fun _ => k.body)

/-- A read request: OK and the fields as the records stand. -/
def reading (s : State) (fields : State → List Byte) : Taken := ((s, []), fun t => Status.ok.body ++ fields t)

/-- The kind of the reply to a request code (R179). -/
def replyKind (code : Nat) : Byte := toByte (code + 0x40)

/-- A good frame of a known kind is taken by the port (R179), or refused or discarded while the port is busy (R180). -/
def request (code : Nat) (tag : Byte) (owner : State → Taken) (s : State) : Host.Outcome State Fault Refusal :=
  if s.link.busy then .next (s.putLink (s.link.refuseBusy (replyKind code) tag))
  else
    let t := owner (s.putLink { s.link with taking := true })
    let s1 := settle t.1
    .next (s1.putLink (s1.link.composeReply (replyKind code) tag (t.2 s1)))

/-- The port's own check that a body has the length its fields give (R179); the owner follows. -/
def sized (n : Nat) (body : List Byte) (owner : State → Taken) (s : State) : Taken :=
  if body.length = n then owner s else answer .badField s

end Sys2Proof.Machine
end

