-- ==== Sys2Proof/Machine/LinkCommands.lean ====
section
/-!
DEFINITION. Sys2Proof/Machine/LinkCommands.lean: what the link port itself takes (10): IDENTIFY, YARD STATUS, a kind it does
not know, bad frames, framing errors, breaks and the end of a frame.
-/

namespace Sys2Proof.Machine

/-- The number of configured holders (R189). -/
def State.configuredCount (s : State) : Nat := (allHolders.filter fun h => (s.holderSettings h).configured).length

/-- LOADED first, BLANK second (R191). -/
def loadedPlace (loaded : Bool) : Nat := if loaded then 1 else 2

/-- The fields of IDENTIFY after the status (R189). -/
def identifyFields (s : State) : List Byte :=
  [0x0A#8, 0x04#8, 0x03#8] ++ b1 s.settings.map.districtCount ++ b1 s.configuredCount
    ++ b1 (loadedPlace s.control.loaded) ++ flagBytes s.control.frozen

/-- IDENTIFY (R189). -/
def execIdentify (tag : Byte) (body : List Byte) (s : State) : Host.Outcome State Fault Refusal :=
  request 1 tag (sized 0 body fun t => reading t identifyFields) s

/-- ASSERTED first, RELEASED second (R191). -/
def stopPlace (asserted : Bool) : Nat := if asserted then 1 else 2

/-- OPEN first, CUT second (R168, R190). -/
def contractPlace (cut : Bool) : Nat := if cut then 2 else 1

/-- The phase controller's group of YARD STATUS (R190). -/
def phaseGroup (s : State) : List Byte :=
  b1 (phasePlace s.control.phase) ++ flagBytes s.control.frozen ++ b1 (loadedPlace s.control.loaded)
    ++ flagBytes s.control.write.isSome ++ b1 (stopPlace s.control.stopAsserted)

/-- The clock unit's group (R190). -/
def clockGroup (s : State) : List Byte :=
  countBytes s.clock.day ++ countBytes s.clock.minute ++ b1 s.clock.second ++ b1 s.clock.interval.index
    ++ countBytes s.clock.dayStartMinute ++ flagBytes s.clock.unset

/-- The stock unit's group (R190). -/
def stockGroup (s : State) : List Byte :=
  volumeBytes s.yardStock ++ flagBytes s.stockComplete ++ b1 (conditionPlace s.stock.condition)
    ++ flagBytes s.stock.release.isSome ++ optionalBytes 2 (s.stock.release.map countBytes)

/-- The groups of the selector and the channel unit (R190). -/
def workGroup (s : State) : List Byte :=
  b1 (selectorStatePlace s.selector.state) ++ numberBytes s.selector.current
    ++ b1 (channelStatePlace (s.channel .a).state) ++ b1 (channelStatePlace (s.channel .b).state)
    ++ flagBytes s.channels.booster

/-- The three counts of the valve unit (R75, R190). -/
def valveCounts (s : State) : List Byte :=
  countBytes s.valves.protect.length ++ countBytes s.valves.queue.length ++ countBytes (limitedCount s.valves.queue)

/-- The groups of the valve unit, the account unit and the link port (R190). -/
def restGroup (s : State) : List Byte :=
  valveCounts s ++ numberBytes (s.valves.main.drive?.map fun d => d.valve)
    ++ countBytes s.accounts.book.length ++ b1 (contractPlace s.accounts.cut)
    ++ countBytes s.link.errors ++ countBytes s.link.queue.length ++ countBytes s.link.dropped

/-- The fields of YARD STATUS after the status (R190). -/
def yardFields (s : State) : List Byte := phaseGroup s ++ clockGroup s ++ stockGroup s ++ workGroup s ++ restGroup s

/-- YARD STATUS (R190). -/
def execYardStatus (tag : Byte) (body : List Byte) (s : State) : Host.Outcome State Fault Refusal :=
  request 2 tag (sized 0 body fun t => reading t yardFields) s

/-- A good frame whose kind is no request code: UNKNOWN KIND with kind 7Fh, or BUSY (R179, R180). -/
def execUnknownKind (_kind tag : Byte) (_body : List Byte) (s : State) : Host.Outcome State Fault Refusal :=
  if s.link.busy then .next (s.putLink (s.link.refuseBusy 0x7F#8 tag))
  else .next (s.putLink (s.link.composeReply 0x7F#8 tag Status.unknownKind.body))

/-- A frame whose check fails or whose length is above 240 is discarded and counted (R177, R178). -/
def execFrameCheckFailed (s : State) : Host.Outcome State Fault Refusal := .next (s.putLink s.link.countError)

/-- A framing error counts inside a frame being received, and is discarded without count while the receiver hunts
(R176, R178). -/
def execFramingError (received : List Byte) (s : State) : Host.Outcome State Fault Refusal :=
  if Receiver.after received = .hunting then .next s else .next (s.putLink s.link.countError)

/-- A break condition (R188). -/
def execLinkBreak (s : State) : Host.Outcome State Fault Refusal := .next (s.putLink s.link.lineBroken)

/-- The last byte of a frame has been sent (R186). -/
def execFrameSent (s : State) : Host.Outcome State Fault Refusal := .next (s.putLink s.link.frameGone)

end Sys2Proof.Machine
end

