-- ==== Sys2Proof/Machine/PhaseCommands.lean ====
section
/-!
DEFINITION. Sys2Proof/Machine/PhaseCommands.lean: the phase controller (11) and the yard stop line (R6, R7): power-on reset,
START, STOP, FREEZE, SAVE SETTINGS and the end of its write.
-/

namespace Sys2Proof.Machine

/-! ## Power-on reset -/

/-- The line speed by the straps (R176). -/
def baudOf (p : PowerUp) : Nat :=
  if p.strap3Made then 19200
  else if p.strap2Made then (if p.strap1Made then 9600 else 4800)
  else if p.strap1Made then 2400
  else 1200

/-- The bank that loads: the later generation of two good banks, or the one good bank (R192). -/
def loadedBank (one two : Option StoredImage) : Option (Bank × StoredImage) :=
  match one, two with
  | some x, some y => if dayLater x.generation y.generation then some (.one, x) else some (.two, y)
  | some x, none => some (.one, x)
  | none, some y => some (.two, y)
  | none, none => none

/-- The clock after power-on reset (R11). -/
def clockAtPowerUp (p : PowerUp) (k : ClockUnit) : ClockUnit :=
  if p.clockHolds then k.afterSeconds p.secondsOff else State.reset.clock

/-- The account unit after power-on reset, but for the take (R172). -/
def accountsAtPowerUp (p : PowerUp) (x : AccountUnit) : AccountUnit :=
  if p.bookHolds then
    { State.reset.accounts with book := x.book, lastPosted := x.lastPosted, statement := x.statement, memoryLost := false }
  else State.reset.accounts

/-- The store and the phase controller after power-on reset (R191, R192, R7). -/
def controlAtPowerUp (p : PowerUp) (x : PhaseUnit) : PhaseUnit :=
  let one := if p.bank1Holds then x.bank1 else none
  let two := if p.bank2Holds then x.bank2 else none
  let loaded := loadedBank one two
  { State.reset.control with
    loaded := loaded.isSome
    newest := loaded.map fun l => (l.1, l.2.generation)
    bank1 := one
    bank2 := two
    stopAsserted := p.stopAsserted }

/-- The part after power-on reset. The waiting commands stand, and so does the counter of free orders. -/
def State.powerUp (p : PowerUp) (s : State) : State :=
  let control := controlAtPowerUp p s.control
  let settings := ((loadedBank control.bank1 control.bank2).map fun l => l.2.image).getD Settings.blank
  let s1 : State :=
    { State.reset with
      pending := s.pending
      freeCount := s.freeCount
      settings := settings
      control := control
      clock := clockAtPowerUp p s.clock
      valves := { State.reset.valves with
        table := Vector.ofFn fun i => Valve.atReset (p.openMade.getLsb i) (p.closedMade.getLsb i) }
      accounts := accountsAtPowerUp p s.accounts
      link := { State.reset.link with baud := baudOf p } }
  let s2 := recomputeTake s1
  if p.stopAsserted then s2.notify .yardStop else s2

/-- POWER ON RESET (R192, with R7, R11, R34, R58, R77, R80, R119, R135, R172, R176, R185). -/
def execPowerOnReset (p : PowerUp) (s : State) : Host.Outcome State Fault Refusal := .next (s.powerUp p)

/-! ## START and STOP -/

/-- Every configured holder's settings pass the checks of R15 (R193). -/
def State.holdersOk (s : State) : Bool :=
  allHolders.all fun h => !(s.holderSettings h).configured || holderSettingsOk (s.holderSettings h)

/-- Every enabled supply entry names a configured holder (R193). -/
def State.entriesOk (s : State) : Bool :=
  s.settings.supply.toList.all fun e => decide (e.high < e.low) || (s.holderSettings e.holder).configured

/-- START's checks in their order (R193). -/
def startCheck (s : State) : Status :=
  if s.running then .wrongPhase
  else if s.clock.unset then .badField
  else if s.configuredCount = 0 then .badField
  else if !s.holdersOk then .badField
  else if !s.entriesOk then .badField
  else if s.clockBehind then .clockBack
  else .ok

/-- START taken: the phase becomes RUN and the blocks adopt the plant in the order of R194. -/
def startPart (s : State) : Effect :=
  (s.putControl { s.control with phase := .run },
    [.startValves, .startStock, .startSelector, .startDistricts, .startAccounts, .startChannels])

/-- START (R193, R194). -/
def execStart (tag : Byte) (body : List Byte) (s : State) : Host.Outcome State Fault Refusal :=
  request 3 tag (sized 0 body fun t =>
    match startCheck t with
    | .ok => taken .ok (startPart t)
    | k => answer k t) s

/-- What refuses STOP in RUN (R196). -/
def State.stopRefused (s : State) : Bool :=
  (allChannels.any fun c => decide ((s.channel c).state ≠ .idle))
    || (allDistricts.any fun d => decide ((s.district d).state ≠ .shut))
    || decide (s.selector.state = .changeover) || s.valves.busy

/-- STOP taken (R197); the last decode made since START stands for READ SEND-OUT (R54, R56). -/
def stopPart (s : State) : State :=
  let s1 := s.putControl { s.control with phase := .setup }
  let s2 := s1.putClock { s1.clock with minuteOwed := false, boundaryOwed := none }
  let s3 := (stopStockUnit (stopValveUnit s2)).putSelector { Selector.atReset with lastDecode := s.selector.lastDecode }
  stopDistricts s3

/-- STOP (R196, R197). -/
def execStop (tag : Byte) (body : List Byte) (s : State) : Host.Outcome State Fault Refusal :=
  request 4 tag (sized 0 body fun t =>
    if !t.running then answer .wrongPhase t
    else if t.stopRefused then answer .inUse t
    else taken .ok (stopPart t, [])) s

/-- FREEZE (R198). -/
def execFreeze (tag : Byte) (body : List Byte) (s : State) : Host.Outcome State Fault Refusal :=
  request 5 tag (sized 0 body fun t => taken .ok (t.putControl { t.control with frozen := true }, [])) s

/-! ## SAVE SETTINGS -/

/-- The bank that does not hold the newest good image, or bank 1 where neither is good (R199). -/
def writeBank (newest : Option (Bank × Nat)) : Bank :=
  match newest with
  | some (.one, _) => .two
  | some (.two, _) => .one
  | none => .one

/-- The generation after the newest, or 1 where the newest is none (R199). -/
def nextGeneration (newest : Option (Bank × Nat)) : Nat :=
  match newest with
  | some (_, g) => (g + 1) % 65536
  | none => 1

/-- A bank of the store replaced. -/
def PhaseUnit.putBank (x : PhaseUnit) (b : Bank) (i : Option StoredImage) : PhaseUnit :=
  match b with
  | .one => { x with bank1 := i }
  | .two => { x with bank2 := i }

/-- A write begins (R199): the bank it goes to holds nothing good until it has succeeded (R200). -/
def beginWrite (s : State) : State :=
  let x := s.control
  let b := writeBank x.newest
  let w : StoreWrite :=
    { stored := { generation := nextGeneration x.newest, image := s.settings }, bank := b, left := Config.writeLimit }
  s.putControl { x.putBank b none with write := some w }

/-- SAVE SETTINGS (R199). -/
def execSaveSettings (tag : Byte) (body : List Byte) (s : State) : Host.Outcome State Fault Refusal :=
  request 6 tag (sized 0 body fun t =>
    if t.control.write.isSome then answer .busy t else taken .accepted (beginWrite t, [])) s

/-- A write fails: its bank is left not good (R200). -/
def failWrite (w : StoreWrite) (cause : SaveFailure) (s : State) : Effect :=
  (s.putControl { s.control.putBank w.bank none with write := none }, [.notice (.saveFailed cause)])

/-- The end of a write (R200); a timeout is due once the 2 s of its limit have passed (log 1). -/
def endWrite (result : WriteEnd) (s : State) : Effect :=
  match s.control.write with
  | none => (s, [])
  | some w =>
    match result with
    | .good =>
      (s.putControl { s.control.putBank w.bank (some w.stored) with
        write := none, newest := some (w.bank, w.stored.generation) }, [.notice (.settingsSaved w.stored.generation)])
    | .mismatch => failWrite w .mismatch s
    | .timeout => if w.left = 0 then failWrite w .timeout s else (s, [])

/-- SAVE WRITE END (R200). -/
def execSaveWriteEnd (result : WriteEnd) (s : State) : Host.Outcome State Fault Refusal := event (endWrite result s)

/-! ## The yard stop line -/

/-- What an assertion in RUN hands on: the stop to both channels and the closes of the ten valves, in either order (R6;
log 10). -/
def stopWords (order : StopOrder) : List Act :=
  let closes := stopValves.map fun v => Act.protectClose v .yardStop
  match order with
  | .closesFirst => closes ++ [.channelsStop]
  | .channelsFirst => Act.channelsStop :: closes

/-- YARD STOP ASSERTION (R6). -/
def execYardStopAssertion (order : StopOrder) (s : State) : Host.Outcome State Fault Refusal :=
  event (s.putControl { s.control with stopAsserted := true },
    [.notice .yardStop] ++ (if s.running then stopWords order else []))

/-- YARD STOP RELEASE (R7). -/
def execYardStopRelease (s : State) : Host.Outcome State Fault Refusal :=
  event (s.putControl { s.control with stopAsserted := false }, [.notice .yardStopCleared])

end Sys2Proof.Machine
end

