-- ==== Sys2Proof/Machine/ClockCommands.lean ====
section
/-!
DEFINITION. Sys2Proof/Machine/ClockCommands.lean: the clock unit (01): its tick, what it hands on, and SET CLOCK.
-/

namespace Sys2Proof.Machine

/-- The four fields of SET CLOCK lie in range (R12). -/
def clockFieldsOk (minute second dayStartMinute : Nat) : Bool :=
  decide (minute ≤ 1439) && decide (second ≤ 59) && decide (dayStartMinute % 30 = 0) && decide (dayStartMinute ≤ 1410)

/-- SET CLOCK's checks in their order (R12, R13). -/
def setClockCheck (day minute second dayStartMinute : Nat) (s : State) : Status :=
  let new : Interval := { day := day, index := intervalIndex minute dayStartMinute }
  if !clockFieldsOk minute second dayStartMinute then .badField
  else if !s.running then .ok
  else if dayStartMinute ≠ s.clock.dayStartMinute then .wrongPhase
  else if new.earlier s.clock.interval then .clockBack
  else .ok

/-- SET CLOCK (R12, R13): what the clock still owes its readers is handed on before the set (log 3). -/
def execSetClock (tag : Byte) (body : List Byte) (s : State) : Host.Outcome State Fault Refusal :=
  request 7 tag (sized 7 body fun t =>
    let day := field body 0 2
    let minute := field body 2 2
    let second := field body 4 1
    let start := field body 5 2
    match setClockCheck day minute second start t with
    | .ok => taken .ok (t, [.handBoundary, .handMinute, .setClock day minute second start])
    | k => answer k t) s

/-- CLOCK TICK (R8, R10): what is still owed is handed on, then one second passes (log 2, log 3). -/
def execClockTick (s : State) : Host.Outcome State Fault Refusal :=
  event (s, [.handBoundary, .handMinute, .secondPasses])

/-- CHANGE OF MINUTE (R9). -/
def execChangeOfMinute (s : State) : Host.Outcome State Fault Refusal := event (handMinute s)

/-- INTERVAL BOUNDARY (R9). -/
def execIntervalBoundary (s : State) : Host.Outcome State Fault Refusal := event (handBoundary s)

end Sys2Proof.Machine
end

