-- ==== Sys2Proof/Machine/StockCommands.lean ====
section
/-!
DEFINITION. Sys2Proof/Machine/StockCommands.lean: the requests, readings and expiries of the stock unit (02).
-/

namespace Sys2Proof.Machine

/-! ## SET HOLDER -/

/-- The six settings of a SET HOLDER body after the holder number, or none where the flag is outside its encoding; with
configured set to no the limits are not examined and become 0 (R15, R182). -/
def holderSettingsOf (body : List Byte) : Option HolderSettings :=
  match flagOf (field body 1 1) with
  | none => none
  | some true =>
    some { configured := true, capacity := field body 2 4, crownStop := field body 6 4, lowStop := field body 10 4,
           margin := field body 14 4, silence := field body 18 2 }
  | some false =>
    some { configured := false, capacity := 0, crownStop := 0, lowStop := 0, margin := field body 14 4,
           silence := field body 18 2 }

/-- A request changes the holder limits that FREEZE locks (R15, R198). -/
def limitsChange (old new : HolderSettings) : Bool :=
  decide (new.capacity ≠ old.capacity) || decide (new.crownStop ≠ old.crownStop) || decide (new.lowStop ≠ old.lowStop)

/-- SET HOLDER's checks after the holder number, in their order (R15). -/
def setHolderCheck (h : HolderId) (new : HolderSettings) (s : State) : Status :=
  let old := s.holderSettings h
  if !(if new.configured then holderSettingsOk new else marginOk new) then .badField
  else if s.running && decide (new.configured ≠ old.configured) then .wrongPhase
  else if s.control.frozen && limitsChange old new then .frozen
  else if s.running && new.configured && ((s.holder h).content.any fun n => decide (new.capacity < n)) then .badField
  else .ok

/-- SET HOLDER taken (R15). -/
def storeHolder (h : HolderId) (new : HolderSettings) (s : State) : Effect :=
  let old := s.holderSettings h
  let s1 := s.putSettings { s.settings with holders := s.settings.holders.set h.val new h.isLt }
  if s.running then (if new.configured then rejudgeGuards h s1 else (s1, []))
  else if new.configured = old.configured then (s1, [])
  else
    let v := inletValve h
    let s2 := if (s1.valve v).claim = .isolation h then s1.putClaim v .unclaimed else s1
    (s2.putHolder h Holder.atReset, [])

/-- SET HOLDER (R15). -/
def execSetHolder (tag : Byte) (body : List Byte) (s : State) : Host.Outcome State Fault Refusal :=
  request 8 tag (sized 20 body fun t =>
    match numberOf 4 (field body 0 1), holderSettingsOf body with
    | some h, some new =>
      match setHolderCheck h new t with
      | .ok => taken .ok (storeHolder h new t)
      | k => answer k t
    | _, _ => answer .badField t) s

/-! ## READ HOLDER -/

/-- A list value or cause that may be absent, 00h where it is (log 8). -/
def placeOr {α : Type} (x : Option α) (place : α → Nat) : List Byte := b1 ((x.map place).getD 0)

/-- The fields of READ HOLDER after the status (R28); a content UNKNOWN is sent as an absent field (DESIGN CHOICE,
log 8). -/
def holderFields (h : HolderId) (s : State) : List Byte :=
  let y := s.holderSettings h
  let x := s.holder h
  if !y.configured then flagBytes false ++ volumeBytes y.margin ++ countBytes y.silence
  else
    flagBytes true ++ volumeBytes y.capacity ++ volumeBytes y.crownStop ++ volumeBytes y.lowStop ++ volumeBytes y.margin
      ++ countBytes y.silence ++ b1 (holderStatePlace x.state) ++ optionalBytes 4 (x.content.map volumeBytes)
      ++ b1 (raisedPlace x.atCrown) ++ b1 (raisedPlace x.atLow) ++ placeOr x.cause holderFaultPlace
      ++ flagBytes (decide ((s.valve (inletValve h)).claim = .isolation h))
      ++ optionalBytes 2 (x.sinceReading.map countBytes)

/-- READ HOLDER (R28). -/
def execReadHolder (tag : Byte) (body : List Byte) (s : State) : Host.Outcome State Fault Refusal :=
  request 9 tag (sized 1 body fun t =>
    match numberOf 4 (field body 0 1) with
    | some h => reading t (holderFields h)
    | none => answer .badField t) s

/-! ## Isolation and faults -/

/-- The checks common to the requests that name one configured holder in RUN, in the order of R23, R24 and R27. -/
def holderCheck (h : HolderId) (s : State) : Status :=
  if !(s.holderSettings h).configured then .noSuch else if !s.running then .wrongPhase else .ok

/-- ISOLATE HOLDER's checks for a holder in SERVICE, in their order (R24). The decode with the holder excluded leaves the
last decode made, which READ SEND-OUT shows, as it stood (DESIGN CHOICE for a request that is then taken, log 45). -/
def isolateCheck (h : HolderId) (s : State) : Status :=
  let inlet := s.valve (inletValve h)
  let isOldOrNew := s.selector.change.any fun ch => decide (ch.old = some h) || decide (ch.new = some h)
  if s.namedBy .a h || s.namedBy .b h then .inUse
  else if inlet.fault ≠ .noFault ∨ (s.valve (outletValve h)).fault ≠ .noFault then .faulted
  else if inlet.claim ≠ .unclaimed ∧ inlet.claim ≠ .selector then .inUse
  else if isOldOrNew then .inUse
  else if s.selector.current = some h ∧ (s.stock.condition = .unknown ∨ s.decode (some h) = none) then .noAlternative
  else .ok

/-- ISOLATE HOLDER (R24, R25). -/
def execIsolateHolder (tag : Byte) (body : List Byte) (s : State) : Host.Outcome State Fault Refusal :=
  request 10 tag (sized 1 body fun t =>
    match numberOf 4 (field body 0 1) with
    | none => answer .badField t
    | some h =>
      match holderCheck h t, (t.holder h).state with
      | .ok, .fault => answer .faulted t
      | .ok, .isolated => answer .ok t
      | .ok, .isolating => answer .ok t
      | .ok, .service =>
        match isolateCheck h t with
        | .ok => taken (if t.bothClosed h then .ok else .accepted) (isolate h t)
        | k => answer k t
      | k, _ => answer k t) s

/-- RETURN HOLDER (R27). -/
def execReturnHolder (tag : Byte) (body : List Byte) (s : State) : Host.Outcome State Fault Refusal :=
  request 11 tag (sized 1 body fun t =>
    match numberOf 4 (field body 0 1) with
    | none => answer .badField t
    | some h =>
      match holderCheck h t, (t.holder h).state with
      | .ok, .fault => answer .faulted t
      | .ok, .isolating => answer .inUse t
      | .ok, .service => answer .ok t
      | .ok, .isolated => taken .ok (returnToService h t)
      | k, _ => answer k t) s

/-- CLEAR HOLDER FAULT (R23). -/
def execClearHolderFault (tag : Byte) (body : List Byte) (s : State) : Host.Outcome State Fault Refusal :=
  request 12 tag (sized 1 body fun t =>
    match numberOf 4 (field body 0 1) with
    | none => answer .badField t
    | some h =>
      match holderCheck h t, (t.holder h).state with
      | .ok, .fault => taken .ok (clearHolder h t)
      | .ok, _ => answer .ok t
      | k, _ => answer k t) s

/-! ## The ladder and the release -/

/-- SET LADDER's checks in their order (R30). -/
def setLadderCheck (new : Ladder) (s : State) : Status :=
  if ¬(new.critical ≤ new.reserve ∧ new.reserve ≤ new.crown) then .badField
  else if s.control.frozen && decide (new ≠ s.settings.ladder) then .frozen
  else .ok

/-- SET LADDER taken (R30, R31): a change of condition also reaches the selector (R41). -/
def storeLadder (new : Ladder) (s : State) : Effect :=
  let (s1, acts) := judgeStock (s.putSettings { s.settings with ladder := new })
  (s1, acts ++ (if s1.stock.condition = s.stock.condition then [] else [.decodeTrigger]))

/-- SET LADDER (R30). -/
def execSetLadder (tag : Byte) (body : List Byte) (s : State) : Host.Outcome State Fault Refusal :=
  request 13 tag (sized 6 body fun t =>
    let new : Ladder := { critical := field body 0 2, reserve := field body 2 2, crown := field body 4 2 }
    match setLadderCheck new t with
    | .ok => taken .ok (storeLadder new t)
    | k => answer k t) s

/-- RELEASE RESERVE (R32); its duration in minutes takes two bytes (DESIGN CHOICE, log 8). -/
def execReleaseReserve (tag : Byte) (body : List Byte) (s : State) : Host.Outcome State Fault Refusal :=
  request 14 tag (sized 2 body fun t =>
    let minutes := field body 0 2
    if minutes < 15 ∨ 240 < minutes then answer .badField t
    else if !t.running then answer .wrongPhase t
    else
      taken .ok (t.putStock { t.stock with release := some (minutes * 60) },
        if t.stock.release.isSome then [] else [.findSetpoints, .decodeTrigger])) s

/-- WITHDRAW RELEASE (R33). -/
def execWithdrawRelease (tag : Byte) (body : List Byte) (s : State) : Host.Outcome State Fault Refusal :=
  request 15 tag (sized 0 body fun t =>
    if !t.running then answer .wrongPhase t
    else if t.stock.release.isNone then answer .ok t
    else taken .ok (endRelease [] t)) s

/-! ## Readings and expiries -/

/-- LIFT READING (R3, R16, R17). -/
def execLiftReading (h : HolderId) (content : BitVec 32) (s : State) : Host.Outcome State Fault Refusal :=
  event (takeReading h content.toNat s)

/-- LIFT SILENCE EXPIRY (R21). -/
def execLiftSilenceExpiry (h : HolderId) (s : State) : Host.Outcome State Fault Refusal := event (silenceExpired h s)

/-- RELEASE EXPIRED (R33). -/
def execReleaseExpired (s : State) : Host.Outcome State Fault Refusal := event (releaseExpired s)

end Sys2Proof.Machine
end

