-- ==== Sys2Proof/Machine/SelectorCommands.lean ====
section
/-!
DEFINITION. Sys2Proof/Machine/SelectorCommands.lean: the requests of the send-out selector and its dwell expiry (03).
-/

namespace Sys2Proof.Machine

/-- A supply class by its place; none for any other value (R37, R182). -/
def classOf (n : Nat) : Option EntryClass :=
  match n with
  | 1 => some .ordinary
  | 2 => some .reserve
  | _ => none

/-- The entry of a SET SUPPLY ENTRY body (R37). -/
def supplyEntryOf (body : List Byte) : Option SupplyEntry :=
  match numberOf 4 (field body 1 1), classOf (field body 6 1) with
  | some h, some k => some { holder := h, low := field body 2 2, high := field body 4 2, cls := k }
  | _, _ => none

/-- An entry of the supply table replaced; in RUN a re-decode trigger (R37). -/
def storeEntry (e : EntryId) (x : SupplyEntry) (s : State) : Effect :=
  (s.putSettings { s.settings with supply := s.settings.supply.set e.val x e.isLt },
    if s.running then [.decodeTrigger] else [])

/-- SET SUPPLY ENTRY (R37). -/
def execSetSupplyEntry (tag : Byte) (body : List Byte) (s : State) : Host.Outcome State Fault Refusal :=
  request 16 tag (sized 7 body fun t =>
    match numberOf 8 (field body 0 1), supplyEntryOf body with
    | some e, some x => taken .ok (storeEntry e x t)
    | _, _ => answer .badField t) s

/-- SET DWELL (R50). -/
def execSetDwell (tag : Byte) (body : List Byte) (s : State) : Host.Outcome State Fault Refusal :=
  request 17 tag (sized 2 body fun t =>
    let n := field body 0 2
    if n < 60 ∨ 3600 < n then answer .badField t
    else taken .ok (t.putSettings { t.settings with dwell := n }, [])) s

/-- The bytes of a supply entry. -/
def entryBytes (e : SupplyEntry) : List Byte :=
  b1 (e.holder.val + 1) ++ countBytes e.low ++ countBytes e.high ++ b1 (classPlace e.cls)

/-- The bytes of a changeover (R56): the closing set as valve numbers in the order the record holds, and 00h for no channel
served (DESIGN CHOICE, log 8). -/
def changeBytes (ch : Changeover) : List Byte :=
  b1 (changeKindPlace ch.kind) ++ numberBytes ch.old ++ numberBytes ch.new ++ b1 (changeStepPlace ch.step)
    ++ listBytes (ch.closing.map fun c => b1 ((outletValve c.holder).val + 1)) ++ b1 ((ch.serves.map channelNumber).getD 0)

/-- The fields of READ SEND-OUT after the status (R56). -/
def sendOutFields (s : State) : List Byte :=
  let x := s.selector
  b1 (selectorStatePlace x.state) ++ numberBytes x.current ++ numberBytes x.waiting
    ++ optionalBytes 2 (x.dwell.map countBytes)
    ++ optionalBytes 2 (x.pin.map fun p => b1 (channelNumber p.channel) ++ b1 (p.holder.val + 1))
    ++ optionalBytes 6 (x.change.map changeBytes) ++ optionalBytes 1 (x.lastDecode.map numberBytes)
    ++ (s.settings.supply.toList.map entryBytes).flatten ++ countBytes s.settings.dwell

/-- READ SEND-OUT (R56). -/
def execReadSendOut (tag : Byte) (body : List Byte) (s : State) : Host.Outcome State Fault Refusal :=
  request 18 tag (sized 0 body fun t => reading t sendOutFields) s

/-- DWELL EXPIRY (R50). -/
def execDwellExpiry (s : State) : Host.Outcome State Fault Refusal := event (dwellExpired s)

end Sys2Proof.Machine
end

