-- ==== Sys2Proof/Machine/ValveCommands.lean ====
section
/-!
DEFINITION. Sys2Proof/Machine/ValveCommands.lean: the requests of the valve unit, the limit switches and the travel timer (04,
R5).
-/

namespace Sys2Proof.Machine

/-- SET VALVE (R57). -/
def execSetValve (tag : Byte) (body : List Byte) (s : State) : Host.Outcome State Fault Refusal :=
  request 19 tag (sized 3 body fun t =>
    let n := field body 1 2
    match numberOf 20 (field body 0 1) with
    | some v =>
      if n < 10 ∨ 600 < n then answer .badField t
      else taken .ok (t.putSettings { t.settings with travel := t.settings.travel.set v.val n v.isLt }, [])
    | none => answer .badField t) s

/-- The reply to a move request of the host (R61, R73). -/
def Answer.status : Answer → Status
  | .done => .ok
  | .accepted => .accepted
  | .inUse => .inUse
  | .faulted => .faulted
  | .isProtected => .isProtected
  | .queueFull => .queueFull

/-- MOVE VALVE's own checks in their order (R73, R170). -/
def moveCheck (v : ValveId) (target : Limit) (s : State) : Status :=
  let spent := s.accounts.cut && (s.settings.source.any fun x => decide (sourceValve x = v))
  if !s.running then .wrongPhase
  else if target = .opened ∧ s.control.stopAsserted = true then .yardStopped
  else if (s.valve v).claim ≠ .unclaimed then .inUse
  else if target = .opened ∧ spent = true then .contractSpent
  else .ok

/-- MOVE VALVE (R73). -/
def execMoveValve (tag : Byte) (body : List Byte) (s : State) : Host.Outcome State Fault Refusal :=
  request 20 tag (sized 2 body fun t =>
    match numberOf 20 (field body 0 1), limitOf (field body 1 1) with
    | some v, some target =>
      match moveCheck v target t with
      | .ok =>
        let (a, e) := moveRequest .host v target t
        taken a.status e
      | k => answer k t
    | _, _ => answer .badField t) s

/-- The place of a valve in the protect list, the head being 1, with its cause (R75; log 8). -/
def protectPlace (l : List ProtectEntry) (v : ValveId) : Option (Nat × ProtectCause) :=
  match l.findIdx? fun e => e.valve = v with
  | some i => (l[i]?).map fun e => (i + 1, e.cause)
  | none => none

/-- The drive of a valve with the seconds left on its travel timer. -/
def Main.drivingOf (m : Main) (v : ValveId) : Option (Drive × Nat) :=
  match m with
  | .driving d left => if d.valve = v then some (d, left) else none
  | _ => none

/-- The fields of READ VALVE after the status (R75); the switch record is two flags, the OPEN switch first, and the place in
the protect list takes two bytes (DESIGN CHOICE, log 8). -/
def valveFields (v : ValveId) (s : State) : List Byte :=
  let x := s.valve v
  b1 (positionPlace x.position) ++ b1 (valveFaultPlace x.fault) ++ claimBytes x.claim
    ++ countBytes s.settings.travel[v] ++ flagBytes x.openMade ++ flagBytes x.closedMade
    ++ optionalBytes 4 ((s.valves.main.drivingOf v).map fun d =>
        b1 (limitPlace d.1.target) ++ flagBytes d.1.protective ++ countBytes d.2)
    ++ optionalBytes 3 ((protectPlace s.valves.protect v).map fun p => countBytes p.1 ++ b1 (causePlace p.2))
    ++ optionalBytes 4 ((s.queueEntry v).map fun e =>
        b1 (limitPlace e.target) ++ b1 (moveClassPlace e.cls) ++ countBytes e.requesters.length)
    ++ valveCounts s

/-- READ VALVE (R75). -/
def execReadValve (tag : Byte) (body : List Byte) (s : State) : Host.Outcome State Fault Refusal :=
  request 21 tag (sized 1 body fun t =>
    match numberOf 20 (field body 0 1) with
    | some v => reading t (valveFields v)
    | none => answer .badField t) s

/-- CLEAR VALVE FAULT (R74). -/
def execClearValveFault (tag : Byte) (body : List Byte) (s : State) : Host.Outcome State Fault Refusal :=
  request 22 tag (sized 1 body fun t =>
    match numberOf 20 (field body 0 1) with
    | some v => taken .ok (clearFault v t)
    | none => answer .badField t) s

/-- LIMIT SWITCH (R5, R69, R71). -/
def execLimitSwitch (v : ValveId) (which : Limit) (s : State) : Host.Outcome State Fault Refusal :=
  event (switchMade v which s)

/-- LIMIT SWITCH BREAK (R5): the switch record changes and nothing else. -/
def execLimitSwitchBreak (v : ValveId) (which : Limit) (s : State) : Host.Outcome State Fault Refusal :=
  .next (recordSwitch v which false s)

/-- TRAVEL TIMER EXPIRY (R70). -/
def execTravelTimerExpiry (s : State) : Host.Outcome State Fault Refusal := event (travelExpired s)

end Sys2Proof.Machine
end

