-- ==== Sys2Proof/Machine/ChannelCommands.lean ====
section
/-!
DEFINITION. Sys2Proof/Machine/ChannelCommands.lean: the requests of the channel unit and the expiries of its timers (05, 06).
-/

namespace Sys2Proof.Machine

/-! ## The order table (R78, R79, R183) -/

/-- The kind of an order by its place. -/
def orderKindOf (n : Nat) : Option OrderKind :=
  match n with
  | 1 => some .receive
  | 2 => some .transfer
  | 3 => some .admitSource
  | 4 => some .cut
  | 5 => some .wait
  | _ => none

/-- The target form of a WAIT by its place. -/
def formOf (n : Nat) : Option TargetForm :=
  match n with
  | 1 => some .minute
  | 2 => some .duration
  | _ => none

/-- The disposition by its place. -/
def dispositionOf (n : Nat) : Option Disposition :=
  match n with
  | 1 => some .leave
  | 2 => some .close
  | _ => none

/-- The port's check of the list places of a LOAD ORDER body (R182): a place beyond its list, in a field that the kind
uses (R78; log 15). -/
def loadEncodingOk (body : List Byte) : Bool :=
  let kind := field body 1 1
  decide (kind ≤ 5) && (!(decide (kind = 1) || decide (kind = 2)) || decide (field body 12 1 ≤ 2))
    && (!decide (kind = 5) || decide (field body 5 1 ≤ 2))

/-- The flags and the fields that every kind uses (R183); the fields that the kind does not use are absent (R78). -/
def commonOrder (body : List Byte) (kind : OrderKind) (next : Option OrderId) : Order :=
  { Order.absent with
    kind := some kind
    timeLimit := field body 10 2
    forceSource := bitOf (field body 13 1) 0
    continueOnError := bitOf (field body 13 1) 1
    notify := bitOf (field body 13 1) 2
    next := next }

/-- A holder that an order names must be configured (R78). -/
def State.namedHolder (s : State) (n : Nat) : Option HolderId :=
  match numberOf 4 n with
  | some h => if (s.holderSettings h).configured then some h else none
  | none => none

/-- The target and form of a WAIT lie in range (R77, R78). -/
def waitTargetOk (form : TargetForm) (target : Nat) : Bool :=
  match form with
  | .minute => decide (target ≤ 1439)
  | .duration => decide (1 ≤ target) && decide (target ≤ 65535)

/-- The order of a LOAD ORDER body, or none where R78 refuses it with BAD FIELD. -/
def orderOf (body : List Byte) (s : State) : Option Order :=
  let target := field body 6 4
  match orderKindOf (field body 1 1), nextOf (field body 14 1) with
  | some kind, some next =>
    let o := commonOrder body kind next
    if o.forceSource && decide (kind ≠ .transfer) then none
    else
      match kind with
      | .receive =>
        match s.namedHolder (field body 2 1), dispositionOf (field body 12 1) with
        | some h, some k =>
          if (s.holderSettings h).crownStop < target then none
          else some { o with dest := some h, target := target, disposition := some k }
        | _, _ => none
      | .transfer =>
        match s.namedHolder (field body 2 1), s.namedHolder (field body 3 1), dispositionOf (field body 12 1) with
        | some h, some m, some k =>
          if h = m ∨ target = 0 then none
          else some { o with dest := some h, src := some m, target := target, disposition := some k }
        | _, _, _ => none
      | .admitSource | .cut =>
        match numberOf 4 (field body 4 1) with
        | some x => some { o with source := some x }
        | none => none
      | .wait =>
        match formOf (field body 5 1) with
        | some f => if waitTargetOk f target then some { o with form := some f, target := target } else none
        | none => none
  | _, _ => none

/-- LOAD ORDER (R78, R183). -/
def execLoadOrder (tag : Byte) (body : List Byte) (s : State) : Host.Outcome State Fault Refusal :=
  request 23 tag (sized 15 body fun t =>
    if !loadEncodingOk body then answer .badField t
    else
      match slotOf (field body 0 1) with
      | none => answer .badField t
      | some n =>
        if t.isCurrent n then answer .inUse t
        else
          match orderOf body t with
          | none => answer .badField t
          | some o => taken .ok (t.putOrder n { OrderSlot.empty with order := o, status := .loaded }, [])) s

/-- LINK ORDER (R79). -/
def execLinkOrder (tag : Byte) (body : List Byte) (s : State) : Host.Outcome State Fault Refusal :=
  request 24 tag (sized 2 body fun t =>
    match slotOf (field body 0 1), nextOf (field body 1 1) with
    | some n, some next =>
      let x := t.order n
      if x.status = .empty then answer .noSuch t
      else taken .ok (t.putOrder n { x with order := { x.order with next := next } }, [])
    | _, _ => answer .badField t) s

/-- CLEAR ORDER (R79). -/
def execClearOrder (tag : Byte) (body : List Byte) (s : State) : Host.Outcome State Fault Refusal :=
  request 25 tag (sized 1 body fun t =>
    match slotOf (field body 0 1) with
    | some n => if t.isCurrent n then answer .inUse t else taken .ok (t.putOrder n OrderSlot.empty, [])
    | none => answer .badField t) s

/-- The channel on which a slot is current. -/
def State.channelOn (s : State) (n : OrderId) : Option ChannelId := allChannels.find? fun c => s.currentOn c n

/-- The pending ending of a channel's order in CLOSING, each part 00h where there is none (R183). -/
def endingBytes (x : Option (OrderStatus × EndCause)) : List Byte :=
  match x with
  | some (k, cause) => b1 (statusPlace k) ++ b1 (endCausePlace cause)
  | none => b1 0 ++ b1 0

/-- The fields of READ ORDER after the status (R79, R183). -/
def orderFields (n : OrderId) (s : State) : List Byte :=
  let c := s.channelOn n
  orderRecord (s.order n) ++ b1 ((c.map channelNumber).getD 0)
    ++ optionalBytes 2 ((c.bind fun c => (s.channel c).limitTimer).map countBytes)
    ++ endingBytes (c.bind fun c => (s.channel c).ending)

/-- READ ORDER (R79, R183). -/
def execReadOrder (tag : Byte) (body : List Byte) (s : State) : Host.Outcome State Fault Refusal :=
  request 26 tag (sized 1 body fun t =>
    match slotOf (field body 0 1) with
    | some n => reading t (orderFields n)
    | none => answer .badField t) s

/-! ## Channels (R80, R81, R101, R102, R104) -/

/-- START CHAIN's checks after the ranges, in their order (R81). -/
def startChainCheck (c : ChannelId) (n : OrderId) (s : State) : Status :=
  let k := (s.channel c).state
  if !s.running then .wrongPhase
  else if s.control.stopAsserted then .yardStopped
  else if k ≠ .idle ∧ k ≠ .halted then .inUse
  else if s.currentOn c.other n then .inUse
  else if (s.order n).status ≠ .loaded then .noSuch
  else if s.spent (s.order n).order then .contractSpent
  else .ok

/-- START CHAIN (R81). -/
def execStartChain (tag : Byte) (body : List Byte) (s : State) : Host.Outcome State Fault Refusal :=
  request 27 tag (sized 2 body fun t =>
    match channelOf (field body 0 1), slotOf (field body 1 1) with
    | some c, some n =>
      match startChainCheck c n t with
      | .ok => taken .ok (t.putChannel c { Channel.idle with state := .running }, [.orderCurrent c n])
      | k => answer k t
    | _, _ => answer .badField t) s

/-- STOP CHANNEL AFTER for a channel in RUN (R101). -/
def stopAfter (c : ChannelId) (s : State) : Taken :=
  let x := s.channel c
  match x.state with
  | .idle => answer .notRunning s
  | .halted => taken .ok (s.putChannel c Channel.idle, [])
  | .stopping _ => answer .ok s
  | .running | .suspended => taken .ok (s.putChannel c { x with stopAfter := true }, [])

/-- STOP CHANNEL, mode AFTER; any mode but AFTER and AT ONCE is out of range (R101). -/
def execStopChannelAfter (tag : Byte) (body : List Byte) (s : State) : Host.Outcome State Fault Refusal :=
  request 28 tag (sized 2 body fun t =>
    match channelOf (field body 0 1) with
    | some c =>
      if field body 1 1 ≠ 1 then answer .badField t
      else if !t.running then answer .wrongPhase t
      else stopAfter c t
    | none => answer .badField t) s

/-- STOP CHANNEL AT ONCE for a channel in RUN (R101, R102): OK where the order holds nothing when the request is taken,
and ACCEPTED in every other case. -/
def stopAtOnce (c : ChannelId) (s : State) : Taken :=
  let x := s.channel c
  match x.state with
  | .idle => answer .notRunning s
  | .halted => taken .ok (s.putChannel c Channel.idle, [])
  | .stopping _ => answer .ok s
  | .running | .suspended =>
    taken (if (s.claimed (.channel c)).isEmpty then .ok else .accepted)
      (endOrder c .aborted .stopped (s.putChannel c { x with state := .stopping false }))

/-- STOP CHANNEL, mode AT ONCE (R101, R102). -/
def execStopChannelAtOnce (tag : Byte) (body : List Byte) (s : State) : Host.Outcome State Fault Refusal :=
  request 28 tag (sized 2 body fun t =>
    match channelOf (field body 0 1) with
    | some c =>
      if field body 1 1 ≠ 2 then answer .badField t
      else if !t.running then answer .wrongPhase t
      else stopAtOnce c t
    | none => answer .badField t) s

/-- Whether some request of a channel waits in one of two ways. -/
def State.workWaits (s : State) (c : ChannelId) (k : WorkWait) : Bool :=
  (s.channel c).work.any fun w => decide (w.wait = k)

/-- The five waits of READ CHANNEL: a claim, a pin, a queue place, a protective close, a drive's end (R104; log 8). A
close that has joined a protective close shows as a wait for a drive's end (DESIGN CHOICE, log 8). -/
def waitFlags (c : ChannelId) (s : State) : List Byte :=
  flagBytes (s.pathWaits .claim c) ++ flagBytes (s.pathWaits .pin c) ++ flagBytes (s.workWaits c .place)
    ++ flagBytes (s.workWaits c .shielded) ++ flagBytes (s.workWaits c .answer || s.workWaits c .drive)

/-- The fields of READ CHANNEL after the status (R104); the claimed valves are listed in ascending number (DESIGN CHOICE,
log 8). -/
def channelFields (c : ChannelId) (s : State) : List Byte :=
  let x := s.channel c
  let y := s.settings.channels.get c
  b1 (channelStatePlace x.state) ++ slotBytes x.current
    ++ placeOr ((s.currentSlot c).map fun p => p.2.status) statusPlace ++ endingBytes x.ending ++ flagBytes x.stopAfter
    ++ listBytes ((s.claimed (.channel c)).map fun v => b1 (v.val + 1)) ++ flagBytes (s.holdsPin c) ++ waitFlags c s
    ++ optionalBytes 2 (x.pathTimer.map countBytes) ++ optionalBytes 2 (x.limitTimer.map countBytes)
    ++ countBytes y.pathTimeout ++ volumeBytes y.holdThreshold ++ placeOr x.halt haltPlace ++ slotBytes x.haltSlot
    ++ flagBytes s.channels.booster

/-- READ CHANNEL (R104). -/
def execReadChannel (tag : Byte) (body : List Byte) (s : State) : Host.Outcome State Fault Refusal :=
  request 31 tag (sized 1 body fun t =>
    match channelOf (field body 0 1) with
    | some c => reading t (channelFields c)
    | none => answer .badField t) s

/-- SET CHANNEL (R80). -/
def execSetChannel (tag : Byte) (body : List Byte) (s : State) : Host.Outcome State Fault Refusal :=
  request 32 tag (sized 7 body fun t =>
    let timeout := field body 1 2
    let threshold := field body 3 4
    match channelOf (field body 0 1) with
    | some c =>
      if timeout < 30 ∨ 3600 < timeout ∨ 1000000 < threshold then answer .badField t
      else
        taken .ok (t.putSettings { t.settings with
          channels := t.settings.channels.put c { pathTimeout := timeout, holdThreshold := threshold } }, [])
    | none => answer .badField t) s

/-! ## HOLD and RESUME (R105 to R107, R113) -/

/-- HOLD's checks after the channel, in their order (R105, R106). -/
def holdCheck (c : ChannelId) (s : State) : Status :=
  let k := (s.channel c).state
  if !s.running then .wrongPhase
  else
    match s.currentSlot c with
    | none => .notRunning
    | some (_, x) =>
      if k = .idle ∨ k = .halted then .notRunning
      else if x.status = .suspended then .alreadyHeld
      else if !x.order.movesGas || decide (x.status ≠ .opening ∧ x.status ≠ .flowing) then .notHoldable
      else
        match s.remaining x with
        | some n => if n < (s.settings.channels.get c).holdThreshold then .holdIgnored else .ok
        | none => .ok

/-- HOLD (R105 to R107). -/
def execHold (tag : Byte) (body : List Byte) (s : State) : Host.Outcome State Fault Refusal :=
  request 29 tag (sized 1 body fun t =>
    match channelOf (field body 0 1) with
    | some c =>
      match holdCheck c t with
      | .ok => (takeHold c t, fun u => (if u.holdOutstanding c then Status.accepted else Status.ok).body)
      | k => answer k t
    | none => answer .badField t) s

/-- RESUME's checks after the channel, in their order (R113). -/
def resumeCheck (c : ChannelId) (s : State) : Status :=
  if !s.running then .wrongPhase
  else if s.control.stopAsserted then .yardStopped
  else if (s.channel c).state ≠ .suspended then .notRunning
  else .ok

/-- RESUME (R113, R114). -/
def execResume (tag : Byte) (body : List Byte) (s : State) : Host.Outcome State Fault Refusal :=
  request 30 tag (sized 1 body fun t =>
    match channelOf (field body 0 1) with
    | some c =>
      match resumeCheck c t with
      | .ok => taken .ok (takeResume c t)
      | k => answer k t
    | none => answer .badField t) s

/-! ## Expiries (R83, R90, R92) -/

/-- PATH TIMEOUT (R83). -/
def execPathTimeout (c : ChannelId) (s : State) : Host.Outcome State Fault Refusal := event (pathExpired c s)

/-- TIME LIMIT (R92). -/
def execTimeLimit (c : ChannelId) (s : State) : Host.Outcome State Fault Refusal := event (limitExpired c s)

/-- WAIT DURATION EXPIRY (R90). -/
def execWaitDurationExpiry (c : ChannelId) (s : State) : Host.Outcome State Fault Refusal := event (waitExpired c s)

end Sys2Proof.Machine
end

