-- ==== Sys2Proof/Machine/DistrictCommands.lean ====
section
/-!
DEFINITION. Sys2Proof/Machine/DistrictCommands.lean: the requests, samples and expiries of the district unit (07, 08).
-/

namespace Sys2Proof.Machine

/-! ## The outlet map (R117, R118) -/

/-- The mode by its place. -/
def modeOf (n : Nat) : Option MapMode :=
  match n with
  | 1 => some .standard
  | 2 => some .remap
  | _ => none

/-- A remap table entry: 0 for none, 1 to 6 for a district; the outer none is a value above 6. -/
def tableEntryOf (n : Nat) : Option (Option DistrictId) := if n = 0 then some none else (numberOf 6 n).map some

/-- The remap table of a SET OUTLET MAP body, or none where an entry lies above 6. -/
def tableOf (body : List Byte) : Option (Vector (Option DistrictId) 6) :=
  match tableEntryOf (field body 2 1), tableEntryOf (field body 3 1), tableEntryOf (field body 4 1),
    tableEntryOf (field body 5 1), tableEntryOf (field body 6 1), tableEntryOf (field body 7 1) with
  | some a, some b, some c, some d, some e, some f => some #v[a, b, c, d, e, f]
  | _, _, _, _, _, _ => none

/-- No two entries of a table name the same district (R118). -/
def tableDistinct (t : Vector (Option DistrictId) 6) : Bool :=
  allDistricts.all fun d => decide ((allOutlets.filter fun p => decide (t[p] = some d)).length ≤ 1)

/-- The map of a SET OUTLET MAP body, or none where it is refused with BAD FIELD (R118); an enable set with a bit above
P6 lies outside its encoding (R182; log 15). -/
def mapOf (body : List Byte) : Option OutletMap :=
  let enable := field body 1 1
  match modeOf (field body 0 1), tableOf body with
  | some mode, some table =>
    if enable < 64 ∧ tableDistinct table = true then
      some { mode := mode, enable := Vector.ofFn fun i => bitOf enable i.val, table := table }
    else none
  | _, _ => none

/-- Every district whose outlet a new map changes is SHUT (R118). -/
def mapMovesShut (new : OutletMap) (s : State) : Bool :=
  allDistricts.all fun d => decide (new.outletOf d = s.outletOf d) || decide ((s.district d).state = .shut)

/-- SET OUTLET MAP's checks after its fields, in their order (R118). -/
def setMapCheck (new : OutletMap) (s : State) : Status :=
  if s.control.frozen && decide (new ≠ s.settings.map) then .frozen
  else if s.running && !mapMovesShut new s then .inUse
  else .ok

/-- SET OUTLET MAP taken (R118). -/
def storeMap (new : OutletMap) (s : State) : Effect :=
  let s1 := s.putSettings { s.settings with map := new }
  if s.running then applyMap s.settings.map s1 else (s1, [])

/-- SET OUTLET MAP (R118). -/
def execSetOutletMap (tag : Byte) (body : List Byte) (s : State) : Host.Outcome State Fault Refusal :=
  request 33 tag (sized 8 body fun t =>
    match mapOf body with
    | some new =>
      match setMapCheck new t with
      | .ok => taken .ok (storeMap new t)
      | k => answer k t
    | none => answer .badField t) s

/-! ## District settings (R120, R121, R125) -/

/-- The settings of a SET DISTRICT body over a schedule; none where the flag is outside its encoding. -/
def districtSettingsOf (body : List Byte) (schedule : List SchedulePoint) : Option DistrictSettings :=
  match flagOf (field body 3 1) with
  | some on =>
    some { schedule := schedule, economy := field body 1 2, economyOn := on, lowMargin := field body 4 2,
           highMargin := field body 6 2, lockout := field body 8 2, qualify := field body 10 2,
           repeatWindow := field body 12 2 }
  | none => none

/-- A district's settings replaced. -/
def putDistrictSettings (d : DistrictId) (x : DistrictSettings) (s : State) : State :=
  s.putSettings { s.settings with districts := s.settings.districts.set d.val x d.isLt }

/-- SET DISTRICT taken (R120): a change of the economy setpoint or of economy enabled has the setpoint found afresh. -/
def storeDistrict (d : DistrictId) (x : DistrictSettings) (s : State) : State :=
  let old := s.districtSettings d
  let s1 := putDistrictSettings d x s
  if x.economy ≠ old.economy ∨ x.economyOn ≠ old.economyOn then findSetpoint d s1 else s1

/-- SET DISTRICT (R120). -/
def execSetDistrict (tag : Byte) (body : List Byte) (s : State) : Host.Outcome State Fault Refusal :=
  request 34 tag (sized 14 body fun t =>
    match numberOf 6 (field body 0 1) with
    | none => answer .badField t
    | some d =>
      match districtSettingsOf body (t.districtSettings d).schedule with
      | some x => if districtSettingsOk x then taken .ok (storeDistrict d x t, []) else answer .badField t
      | none => answer .badField t) s

/-- The points of a SET SCHEDULE body. -/
def pointsOf (body : List Byte) (n : Nat) : List SchedulePoint :=
  (List.range n).map fun i => { minute := field body (2 + 4 * i) 2, setpoint := field body (4 + 4 * i) 2 }

/-- SET SCHEDULE (R121). -/
def execSetSchedule (tag : Byte) (body : List Byte) (s : State) : Host.Outcome State Fault Refusal :=
  let n := field body 1 1
  request 35 tag (sized (2 + 4 * n) body fun t =>
    match numberOf 6 (field body 0 1) with
    | some d =>
      if scheduleOk (pointsOf body n) then
        taken .ok (findSetpoint d (putDistrictSettings d { t.districtSettings d with schedule := pointsOf body n } t), [])
      else answer .badField t
    | none => answer .badField t) s

/-- OPEN DISTRICT (R128, R146). -/
def execOpenDistrict (tag : Byte) (body : List Byte) (s : State) : Host.Outcome State Fault Refusal :=
  request 36 tag (sized 1 body fun t =>
    match numberOf 6 (field body 0 1) with
    | some d =>
      if !t.running then answer .wrongPhase t
      else
        match t.outletOf d with
        | none => answer .noSuch t
        | some p =>
          let (k, e) := openDistrict d p t
          taken k e
    | none => answer .badField t) s

/-- SHUT DISTRICT (R130). -/
def execShutDistrict (tag : Byte) (body : List Byte) (s : State) : Host.Outcome State Fault Refusal :=
  request 37 tag (sized 1 body fun t =>
    match numberOf 6 (field body 0 1) with
    | some d =>
      if !t.running then answer .wrongPhase t
      else
        let (k, e) := shutDistrict d t
        taken k e
    | none => answer .badField t) s

/-- The held setpoint of a district replaced, and the setpoint in force found afresh (R125). -/
def holdSetpoint (d : DistrictId) (held : Option Nat) (s : State) : State :=
  findSetpoint d (s.putDistrict d { s.district d with held := held })

/-- HOLD SETPOINT (R125). -/
def execHoldSetpoint (tag : Byte) (body : List Byte) (s : State) : Host.Outcome State Fault Refusal :=
  request 38 tag (sized 3 body fun t =>
    let n := field body 1 2
    match numberOf 6 (field body 0 1) with
    | some d => if setpointOk n then taken .ok (holdSetpoint d (some n) t, []) else answer .badField t
    | none => answer .badField t) s

/-- RELEASE SETPOINT (R125). -/
def execReleaseSetpoint (tag : Byte) (body : List Byte) (s : State) : Host.Outcome State Fault Refusal :=
  request 39 tag (sized 1 body fun t =>
    match numberOf 6 (field body 0 1) with
    | some d => taken .ok (holdSetpoint d none t, [])
    | none => answer .badField t) s

/-! ## READ DISTRICT (R136) -/

/-- The bytes of a district's settings and schedule. -/
def districtSettingBytes (x : DistrictSettings) : List Byte :=
  countBytes x.economy ++ flagBytes x.economyOn ++ countBytes x.lowMargin ++ countBytes x.highMargin
    ++ countBytes x.lockout ++ countBytes x.qualify ++ countBytes x.repeatWindow
    ++ listBytes (x.schedule.map fun p => countBytes p.minute ++ countBytes p.setpoint)

/-- The enable set as one byte, P1 in bit 0 (R182). -/
def enableByte (m : OutletMap) : Nat := (allOutlets.map fun p => if m.enable[p] then 2 ^ p.val else 0).sum

/-- The bytes of the outlet map and of the mapping it gives (R136): the district of each outlet, P1 to P6 (DESIGN CHOICE,
log 8). -/
def mapBytes (m : OutletMap) : List Byte :=
  b1 (modePlace m.mode) ++ b1 (enableByte m) ++ (allOutlets.map fun p => numberBytes m.table[p]).flatten
    ++ (allOutlets.map fun p => numberBytes (m.districtAt p)).flatten

/-- Whether a district holds the claim on its outlet valve. -/
def State.holdsOutlet (s : State) (d : DistrictId) : Bool :=
  match s.outletOf d with
  | some p => decide ((s.valve (districtValve p)).claim = .district d)
  | none => false

/-- The governor output of a district's outlet; 0 where it has none. -/
def State.outputOf (s : State) (d : DistrictId) : Nat :=
  match s.outletOf d with
  | some p => s.districts.outputs[p]
  | none => 0

/-- The fields of READ DISTRICT after the status (R136); the row of R123 is one byte inside the field of the setpoint in
force (DESIGN CHOICE, log 8). -/
def districtFields (d : DistrictId) (s : State) : List Byte :=
  let x := s.district d
  let y := s.districtSettings d
  numberBytes (s.outletOf d) ++ districtSettingBytes y ++ optionalBytes 2 (x.held.map countBytes)
    ++ b1 (districtStatePlace x.state) ++ countBytes (scheduledAt y.schedule s.clock.minute)
    ++ optionalBytes 3 (x.inForce.map fun i => countBytes i.value ++ b1 i.row) ++ countBytes (s.outputOf d)
    ++ optionalBytes 4 (x.sample.map fun a => countBytes a.value ++ countBytes a.age)
    ++ optionalBytes 2 (x.lockout.map countBytes) ++ optionalBytes 2 (x.qualify.map countBytes)
    ++ optionalBytes 2 (x.repeatLeft.map countBytes) ++ flagBytes (s.holdsOutlet d) ++ b1 (moveWaitPlace x.moveWait)
    ++ mapBytes s.settings.map

/-- READ DISTRICT (R136). -/
def execReadDistrict (tag : Byte) (body : List Byte) (s : State) : Host.Outcome State Fault Refusal :=
  request 40 tag (sized 1 body fun t =>
    match numberOf 6 (field body 0 1) with
    | some d => reading t (districtFields d)
    | none => answer .badField t) s

/-! ## Samples and expiries -/

/-- PRESSURE SAMPLE (R4, R138). -/
def execPressureSample (p : OutletId) (value : Fin 1000) (s : State) : Host.Outcome State Fault Refusal :=
  event (takeSample p value.val s)

/-- SETTLE LOCKOUT EXPIRY (R139). -/
def execSettleLockoutExpiry (d : DistrictId) (s : State) : Host.Outcome State Fault Refusal := event (lockoutExpired d s)

/-- QUALIFY EXPIRY (R141). -/
def execQualifyExpiry (d : DistrictId) (s : State) : Host.Outcome State Fault Refusal := event (qualifyExpired d s)

/-- REPEAT WINDOW EXPIRY (R143). -/
def execRepeatWindowExpiry (d : DistrictId) (s : State) : Host.Outcome State Fault Refusal := event (repeatExpired d s)

end Sys2Proof.Machine
end

