-- ==== Sys2Proof/Machine/AccountCommands.lean ====
section
/-!
DEFINITION. Sys2Proof/Machine/AccountCommands.lean: the requests of the account unit and the meter pulses (09).
-/

namespace Sys2Proof.Machine

/-! ## Settings (R150, R160, R167) -/

/-- SET METER (R150). -/
def execSetMeter (tag : Byte) (body : List Byte) (s : State) : Host.Outcome State Fault Refusal :=
  request 41 tag (sized 3 body fun t =>
    let n := field body 1 2
    match numberOf 11 (field body 0 1) with
    | some k =>
      if n < 1 ∨ 10000 < n then answer .badField t
      else taken .ok (t.putSettings { t.settings with weights := t.settings.weights.set k.val n k.isLt }, [])
    | none => answer .badField t) s

/-- The source of a SET CONTRACT body: 00h for none; the outer none is a number out of range. -/
def contractSourceOf (n : Nat) : Option (Option SourceId) := if n = 0 then some none else (numberOf 4 n).map some

/-- SET CONTRACT's checks after the ranges, in their order (R167). -/
def setContractCheck (source : Option SourceId) (cap : Nat) (s : State) : Status :=
  if s.control.frozen && decide (cap ≠ s.settings.cap) then .frozen
  else if s.running && decide (source ≠ s.settings.source) then .wrongPhase
  else .ok

/-- SET CONTRACT taken (R167): a change of source in SETUP recomputes the take, and a change of either has the contract
judged (R171). -/
def storeContract (source : Option SourceId) (cap : Nat) (s : State) : Effect :=
  let s1 := s.putSettings { s.settings with source := source, cap := cap }
  let s2 := if source = s.settings.source then s1 else recomputeTake s1
  (s2, if source = s.settings.source ∧ cap = s.settings.cap then [] else [.judgeContract])

/-- SET CONTRACT (R167). -/
def execSetContract (tag : Byte) (body : List Byte) (s : State) : Host.Outcome State Fault Refusal :=
  request 42 tag (sized 5 body fun t =>
    let cap := field body 1 4
    match contractSourceOf (field body 0 1) with
    | some source =>
      if cap = 0 then answer .badField t
      else
        match setContractCheck source cap t with
        | .ok => taken .ok (storeContract source cap t)
        | k => answer k t
    | none => answer .badField t) s

/-- SET DISCREPANCY (R160). -/
def execSetDiscrepancy (tag : Byte) (body : List Byte) (s : State) : Host.Outcome State Fault Refusal :=
  request 43 tag (sized 4 body fun t =>
    let n := field body 0 4
    if 100000000 < n then answer .badField t
    else taken .ok (t.putSettings { t.settings with discrepancy := n }, [])) s

/-! ## READ LIVE (R163) -/

/-- The bytes of a half (R163). -/
def halfBytes (x : Half) : List Byte :=
  b1 (halfStatePlace x.state) ++ optionalBytes 69 (if x.state = .empty then none else
    some (intervalBytes x.first ++ intervalBytes x.last ++ countBytes x.span ++ columnBytes x.columns
      ++ stockBytes x.atOpen ++ optionalBytes 5 (x.atClose.map stockBytes) ++ b1 (marksByte x.marks false)
      ++ flagBytes x.fullNoticed))

/-- The fields of READ LIVE after the status (R163). -/
def liveFields (s : State) : List Byte :=
  let x := s.accounts
  halfBytes (s.half .a) ++ halfBytes (s.half .b) ++ countBytes x.book.length
    ++ optionalBytes 3 (x.book.head?.map fun y => intervalBytes y.first)
    ++ optionalBytes 3 (x.book.getLast?.map fun y => intervalBytes y.first)
    ++ optionalBytes 3 (x.lastPosted.map intervalBytes)
    ++ optionalBytes 2 (x.statement.map fun y => countBytes y.day)
    ++ (s.settings.weights.toList.map countBytes).flatten ++ volumeBytes s.settings.discrepancy
    ++ numberBytes s.settings.source ++ volumeBytes s.settings.cap ++ volumeBytes x.take ++ countBytes x.takeDay
    ++ b1 (contractPlace x.cut) ++ flagBytes x.gapPending

/-- READ LIVE (R163). -/
def execReadLive (tag : Byte) (body : List Byte) (s : State) : Host.Outcome State Fault Refusal :=
  request 44 tag (sized 0 body fun t => reading t liveFields) s

/-! ## Slots (R161, R162, R184) -/

/-- The interval in three bytes of a body. -/
def intervalOf (body : List Byte) (off : Nat) : Interval := { day := field body off 2, index := field body (off + 2) 1 }

/-- The place of the slot a READ SLOT names: 01h and its place, or 02h and its first interval (R161, R184); the outer
none is a body of neither form. -/
def namedSlot (body : List Byte) (s : State) : Option (Option Nat) :=
  match field body 0 1 with
  | 1 => if body.length = 2 then some (some (field body 1 1)) else none
  | 2 => if body.length = 4 then some (s.slotPlace (intervalOf body 1)) else none
  | _ => none

/-- The check result of a slot: GOOD, CHECK FAILED or NOT CHECKED (R161, R184). -/
def checkResult (x : Slot) : Nat := if !x.original then 3 else if x.checkHolds then 1 else 2

/-- READ SLOT of the slot at a place (R161): a check that fails makes the slot AMENDED. -/
def readSlot (place : Nat) (x : Slot) (s : State) : Taken :=
  let y := if x.original && !x.checkHolds then x.amended else x
  ((s.putSlot place y, []), fun _ => Status.ok.body ++ b1 place ++ b1 (checkResult x) ++ slotRecord y)

/-- READ SLOT (R161, R184). -/
def execReadSlot (tag : Byte) (body : List Byte) (s : State) : Host.Outcome State Fault Refusal :=
  request 45 tag (fun t =>
    match namedSlot body t with
    | none => answer .badField t
    | some none => answer .noSuch t
    | some (some place) =>
      match t.accounts.book[place]? with
      | some x => readSlot place x t
      | none => answer .noSuch t) s

/-- The twelve columns of an AMEND SLOT body (R184). -/
def columnsOf (body : List Byte) : Vector Nat 12 := Vector.ofFn fun i => field body (3 + 4 * i.val) 4

/-- AMEND SLOT (R162, R184). -/
def execAmendSlot (tag : Byte) (body : List Byte) (s : State) : Host.Outcome State Fault Refusal :=
  request 46 tag (sized 51 body fun t =>
    match t.slotPlace (intervalOf body 0) with
    | none => answer .noSuch t
    | some place =>
      match t.accounts.book[place]? with
      | some x => taken .ok (amendSlot place x (columnsOf body) t)
      | none => answer .noSuch t) s

/-! ## Days (R164 to R166) -/

/-- CLOSE DAY (R164, R165). -/
def execCloseDay (tag : Byte) (body : List Byte) (s : State) : Host.Outcome State Fault Refusal :=
  request 47 tag (sized 2 body fun t =>
    let day := field body 0 2
    match closeDayCheck day t with
    | .ok => taken .ok (closeDay day t)
    | k => answer k t) s

/-- The bytes of a day statement, in the order of R166. -/
def statementBytes (x : Statement) : List Byte :=
  countBytes x.day ++ countBytes x.slots ++ countBytes x.intervals ++ columnBytes x.totals ++ columnBytes x.originalTotals
    ++ countBytes x.originalCount ++ countBytes x.amendedCount ++ countBytes x.overrunCount
    ++ countBytes x.dayCrossedCount ++ countBytes x.powerGapCount ++ countBytes x.clockSetCount
    ++ countBytes x.discrepantCount ++ stockBytes x.firstClose ++ stockBytes x.lastClose
    ++ signedBytes x.unaccountedTotal ++ countBytes x.absentCount ++ countBytes x.checkFailures

/-- READ STATEMENT (R166). -/
def execReadStatement (tag : Byte) (body : List Byte) (s : State) : Host.Outcome State Fault Refusal :=
  request 48 tag (sized 0 body fun t =>
    match t.accounts.statement with
    | some x => reading t fun _ => statementBytes x
    | none => answer .noSuch t) s

/-! ## Pulses -/

/-- METER PULSE (R2, R151). -/
def execMeterPulse (m : MeterId) (s : State) : Host.Outcome State Fault Refusal := event (takePulse m s)

end Sys2Proof.Machine
end

