-- ==== Sys2Proof/Machine/Dispatch.lean ====
section
/-!
DEFINITION. Sys2Proof/Machine/Dispatch.lean: one arm for each command, each one direct call of its meaning.
-/

namespace Sys2Proof.Machine

def exec (i : Instr) (s : State) : Host.Outcome State Fault Refusal :=
  match i with
  | .powerOnReset p => Sys2Proof.Machine.execPowerOnReset p s
  | .identify tag body => Sys2Proof.Machine.execIdentify tag body s
  | .yardStatus tag body => Sys2Proof.Machine.execYardStatus tag body s
  | .start tag body => Sys2Proof.Machine.execStart tag body s
  | .stop tag body => Sys2Proof.Machine.execStop tag body s
  | .freeze tag body => Sys2Proof.Machine.execFreeze tag body s
  | .saveSettings tag body => Sys2Proof.Machine.execSaveSettings tag body s
  | .setClock tag body => Sys2Proof.Machine.execSetClock tag body s
  | .setHolder tag body => Sys2Proof.Machine.execSetHolder tag body s
  | .readHolder tag body => Sys2Proof.Machine.execReadHolder tag body s
  | .isolateHolder tag body => Sys2Proof.Machine.execIsolateHolder tag body s
  | .returnHolder tag body => Sys2Proof.Machine.execReturnHolder tag body s
  | .clearHolderFault tag body => Sys2Proof.Machine.execClearHolderFault tag body s
  | .setLadder tag body => Sys2Proof.Machine.execSetLadder tag body s
  | .releaseReserve tag body => Sys2Proof.Machine.execReleaseReserve tag body s
  | .withdrawRelease tag body => Sys2Proof.Machine.execWithdrawRelease tag body s
  | .setSupplyEntry tag body => Sys2Proof.Machine.execSetSupplyEntry tag body s
  | .setDwell tag body => Sys2Proof.Machine.execSetDwell tag body s
  | .readSendOut tag body => Sys2Proof.Machine.execReadSendOut tag body s
  | .setValve tag body => Sys2Proof.Machine.execSetValve tag body s
  | .moveValve tag body => Sys2Proof.Machine.execMoveValve tag body s
  | .readValve tag body => Sys2Proof.Machine.execReadValve tag body s
  | .clearValveFault tag body => Sys2Proof.Machine.execClearValveFault tag body s
  | .loadOrder tag body => Sys2Proof.Machine.execLoadOrder tag body s
  | .linkOrder tag body => Sys2Proof.Machine.execLinkOrder tag body s
  | .clearOrder tag body => Sys2Proof.Machine.execClearOrder tag body s
  | .readOrder tag body => Sys2Proof.Machine.execReadOrder tag body s
  | .startChain tag body => Sys2Proof.Machine.execStartChain tag body s
  | .stopChannelAfter tag body => Sys2Proof.Machine.execStopChannelAfter tag body s
  | .stopChannelAtOnce tag body => Sys2Proof.Machine.execStopChannelAtOnce tag body s
  | .hold tag body => Sys2Proof.Machine.execHold tag body s
  | .resume tag body => Sys2Proof.Machine.execResume tag body s
  | .readChannel tag body => Sys2Proof.Machine.execReadChannel tag body s
  | .setChannel tag body => Sys2Proof.Machine.execSetChannel tag body s
  | .setOutletMap tag body => Sys2Proof.Machine.execSetOutletMap tag body s
  | .setDistrict tag body => Sys2Proof.Machine.execSetDistrict tag body s
  | .setSchedule tag body => Sys2Proof.Machine.execSetSchedule tag body s
  | .openDistrict tag body => Sys2Proof.Machine.execOpenDistrict tag body s
  | .shutDistrict tag body => Sys2Proof.Machine.execShutDistrict tag body s
  | .holdSetpoint tag body => Sys2Proof.Machine.execHoldSetpoint tag body s
  | .releaseSetpoint tag body => Sys2Proof.Machine.execReleaseSetpoint tag body s
  | .readDistrict tag body => Sys2Proof.Machine.execReadDistrict tag body s
  | .setMeter tag body => Sys2Proof.Machine.execSetMeter tag body s
  | .setContract tag body => Sys2Proof.Machine.execSetContract tag body s
  | .setDiscrepancy tag body => Sys2Proof.Machine.execSetDiscrepancy tag body s
  | .readLive tag body => Sys2Proof.Machine.execReadLive tag body s
  | .readSlot tag body => Sys2Proof.Machine.execReadSlot tag body s
  | .amendSlot tag body => Sys2Proof.Machine.execAmendSlot tag body s
  | .closeDay tag body => Sys2Proof.Machine.execCloseDay tag body s
  | .readStatement tag body => Sys2Proof.Machine.execReadStatement tag body s
  | .unknownKind kind tag body => Sys2Proof.Machine.execUnknownKind kind tag body s
  | .frameCheckFailed => Sys2Proof.Machine.execFrameCheckFailed s
  | .framingError received => Sys2Proof.Machine.execFramingError received s
  | .linkBreak => Sys2Proof.Machine.execLinkBreak s
  | .frameSent => Sys2Proof.Machine.execFrameSent s
  | .meterPulse k => Sys2Proof.Machine.execMeterPulse k s
  | .liftReading h content => Sys2Proof.Machine.execLiftReading h content s
  | .pressureSample p value => Sys2Proof.Machine.execPressureSample p value s
  | .limitSwitch v which => Sys2Proof.Machine.execLimitSwitch v which s
  | .limitSwitchBreak v which => Sys2Proof.Machine.execLimitSwitchBreak v which s
  | .yardStopAssertion order => Sys2Proof.Machine.execYardStopAssertion order s
  | .yardStopRelease => Sys2Proof.Machine.execYardStopRelease s
  | .clockTick => Sys2Proof.Machine.execClockTick s
  | .changeOfMinute => Sys2Proof.Machine.execChangeOfMinute s
  | .intervalBoundary => Sys2Proof.Machine.execIntervalBoundary s
  | .liftSilenceExpiry h => Sys2Proof.Machine.execLiftSilenceExpiry h s
  | .travelTimerExpiry => Sys2Proof.Machine.execTravelTimerExpiry s
  | .dwellExpiry => Sys2Proof.Machine.execDwellExpiry s
  | .releaseExpired => Sys2Proof.Machine.execReleaseExpired s
  | .pathTimeout c => Sys2Proof.Machine.execPathTimeout c s
  | .timeLimit c => Sys2Proof.Machine.execTimeLimit c s
  | .waitDurationExpiry c => Sys2Proof.Machine.execWaitDurationExpiry c s
  | .settleLockoutExpiry d => Sys2Proof.Machine.execSettleLockoutExpiry d s
  | .qualifyExpiry d => Sys2Proof.Machine.execQualifyExpiry d s
  | .repeatWindowExpiry d => Sys2Proof.Machine.execRepeatWindowExpiry d s
  | .saveWriteEnd result => Sys2Proof.Machine.execSaveWriteEnd result s

end Sys2Proof.Machine
end

