-- ==== Sys2Proof/Machine/Step.lean ====
section
/-!
DEFINITION. Sys2Proof/Machine/Step.lean: one step of the part: the command at the front of the queue, or the rest of an event
on an empty queue (log 4, log 20).
-/

namespace Sys2Proof.Machine

/-- One step: the command at the front runs on the state with the rest of the queue; on an empty queue the part idles,
but for words an event has left in the backlog. -/
def step (s : State) : Host.Outcome State Fault Refusal :=
  match s.pending with
  | c :: rest => exec c { s with pending := rest }
  | [] => event (s, [])

/-- The state with the command that a word spells at the front of its queue; no word spells one. -/
def State.withFetchWord (s : State) (nbits w : Nat) : State :=
  match decodeTableWord nbits w with
  | some c => { s with pending := c :: s.pending }
  | none => s

end Sys2Proof.Machine
end

