-- ==== Sys2Proof/Safety.lean ====
section
/-!
DEFINITION. Sys2Proof/Safety.lean: the words in which the statements about the part are made: a part between two events, a
request answered, what the words between blocks leave alone (95), and the invariants: settings in range, the bounds of the
lists, the clock in range, the limits that FREEZE locks.
-/

namespace Sys2Proof.Machine

/-! ## Between two events -/

/-- No word of an earlier event is left over, and no current TRANSFER has still to be reported (R82; log 4). -/
abbrev State.atRest (s : State) : Prop := s.backlog = [] ∧ s.unreported .a = none ∧ s.unreported .b = none

/-- No word of an earlier event is left over, and the port takes a request (R180). -/
abbrev State.free (s : State) : Prop := s.backlog = [] ∧ s.link.busy = false

/-- A state with the reply to a request composed (R179). -/
def State.answered (s : State) (code : Nat) (tag : Byte) (body : List Byte) : State :=
  s.putLink (s.link.composeReply (replyKind code) tag body)

/-! ## What the words between blocks leave alone -/

/-- The notices of the queue, oldest first, without their numbers. -/
def LinkPort.notices (l : LinkPort) : List Notice := l.queue.map fun q => q.notice

/-- What no word between blocks changes, other than the clock unit's own: the waiting commands, the stored settings, the
phase controller's record, the clock; the replies and counts of the port that only the line moves; the release; a
holder's content, guards and fault cause; a held setpoint and a last sample; a valve's fault and switch record; the
fields of an order that the host wrote; the day statement. The bounded lists keep their bounds, and the notices and the
day book only grow at their ends. -/
structure Kept0 (s t : State) : Prop where
  pending : t.pending = s.pending
  settings : t.settings = s.settings
  control : t.control = s.control
  clock : t.clock = s.clock
  baud : t.link.baud = s.link.baud
  errors : t.link.errors = s.link.errors
  taking : t.link.taking = s.link.taking
  reply : t.link.reply = s.link.reply
  busyReply : t.link.busyReply = s.link.busyReply
  release : t.stock.release = s.stock.release
  content : ∀ h, (t.holder h).content = (s.holder h).content
  atCrown : ∀ h, (t.holder h).atCrown = (s.holder h).atCrown
  atLow : ∀ h, (t.holder h).atLow = (s.holder h).atLow
  cause : ∀ h, (t.holder h).cause = (s.holder h).cause
  held : ∀ d, (t.district d).held = (s.district d).held
  sample : ∀ d, (t.district d).sample = (s.district d).sample
  fault : ∀ v, (t.valve v).fault = (s.valve v).fault
  openMade : ∀ v, (t.valve v).openMade = (s.valve v).openMade
  closedMade : ∀ v, (t.valve v).closedMade = (s.valve v).closedMade
  order : ∀ n, (t.order n).order = (s.order n).order
  statement : t.accounts.statement = s.accounts.statement
  moves : s.valves.queue.length ≤ Config.queuePlaces → t.valves.queue.length ≤ Config.queuePlaces
  places : s.link.queue.length ≤ Config.noticePlaces → t.link.queue.length ≤ Config.noticePlaces
  slots : s.accounts.book.length ≤ Config.bookPlaces → t.accounts.book.length ≤ Config.bookPlaces
  notices : s.link.notices <+: t.link.notices
  book : s.accounts.book <+: t.accounts.book

/-- What the words keep that turn no half and end no day: all that `Kept0` names, the whole record of a holder that is not
ISOLATING, the FILLING half but for its marks, the contract take, and, where no holder is ISOLATING, the stock condition that
the records give (R31). -/
structure Kept (s t : State) : Prop extends Kept0 s t where
  holder : ∀ h, (s.holder h).state ≠ .isolating → t.holder h = s.holder h
  filling : ∀ i, (s.half i).state = .filling → t.half i = { s.half i with marks := (t.half i).marks }
  take : t.accounts.take = s.accounts.take
  condition : (∀ h, (s.holder h).state ≠ .isolating) → s.stock.condition = s.conditionNow →
    t.stock.condition = s.stock.condition

/-! ## Settings in range (11, table of stored settings) -/

/-- A holder's six settings lie in range; those of a holder set to no carry no limits (R15, R34). -/
def holderInRange (x : HolderSettings) : Bool :=
  if x.configured then holderSettingsOk x
  else marginOk x && decide (x.capacity = 0) && decide (x.crownStop = 0) && decide (x.lowStop = 0)

/-- The ladder lines ascend and fit two bytes (R30, R182). -/
def ladderInRange (x : Ladder) : Bool :=
  decide (x.critical ≤ x.reserve) && decide (x.reserve ≤ x.crown) && decide (x.crown ≤ 65535)

/-- A supply entry's window fits two bytes at each end (R37, R182). -/
def entryInRange (x : SupplyEntry) : Bool := decide (x.low ≤ 65535) && decide (x.high ≤ 65535)

/-- A channel's settings lie in range (R80). -/
def channelInRange (x : ChannelSettings) : Bool :=
  decide (30 ≤ x.pathTimeout) && decide (x.pathTimeout ≤ 3600) && decide (x.holdThreshold ≤ 1000000)

/-- Every stored setting lies in its range (R15, R30, R37, R50, R57, R80, R118, R120, R121, R150, R160, R167). -/
structure Settings.inRange (x : Settings) : Prop where
  holders : ∀ h : HolderId, holderInRange x.holders[h] = true
  ladder : ladderInRange x.ladder = true
  supply : ∀ e : EntryId, entryInRange x.supply[e] = true
  dwell : 60 ≤ x.dwell ∧ x.dwell ≤ 3600
  travel : ∀ v : ValveId, 10 ≤ x.travel[v] ∧ x.travel[v] ≤ 600
  channels : ∀ c, channelInRange (x.channels.get c) = true
  map : tableDistinct x.map.table = true
  districts : ∀ d : DistrictId, (districtSettingsOk x.districts[d] && scheduleOk x.districts[d].schedule) = true
  weights : ∀ m : MeterId, 1 ≤ x.weights[m] ∧ x.weights[m] ≤ 10000
  discrepancy : x.discrepancy ≤ 100000000
  cap : 1 ≤ x.cap ∧ x.cap ≤ Config.maxVolume

/-- What a bank or a write image holds has its settings in range and its generation in 0 to 65,535 (R191, R199). -/
def StoredImage.inRange (x : StoredImage) : Prop := x.image.inRange ∧ x.generation < 65536

/-- The settings at work, those of both banks and those of a write in progress are in range. -/
structure State.settingsInRange (s : State) : Prop where
  working : s.settings.inRange
  bank1 : ∀ x, s.control.bank1 = some x → x.inRange
  bank2 : ∀ x, s.control.bank2 = some x → x.inRange
  write : ∀ w, s.control.write = some w → w.stored.inRange
  newest : ∀ x, s.control.newest = some x → x.2 < 65536

/-! ## Bounds and the clock -/

/-- The lists and counts of the part hold no more than the manual allows (R63, R158, R178, R185). -/
structure State.bounded (s : State) : Prop where
  moves : s.valves.queue.length ≤ Config.queuePlaces
  places : s.link.queue.length ≤ Config.noticePlaces
  slots : s.accounts.book.length ≤ Config.bookPlaces
  errors : s.link.errors ≤ Config.countStop

/-- The clock stands at a time of day, under a gas-day start minute at a multiple of 30 (R8, R12). -/
structure ClockUnit.inRange (k : ClockUnit) : Prop where
  day : k.day < 65536
  minute : k.minute ≤ 1439
  second : k.second ≤ 59
  start : k.dayStartMinute % 30 = 0 ∧ k.dayStartMinute ≤ 1410

/-- A word that carries a time to the clock unit carries one in range. -/
def Act.timeInRange : Act → Prop
  | .setClock day minute second dayStartMinute =>
    ({ day := day, minute := minute, second := second, dayStartMinute := dayStartMinute, unset := false,
       minuteOwed := false, boundaryOwed := none } : ClockUnit).inRange
  | _ => True

/-- The clock is in range, and so is every time that a word left over from an event still carries to it (log 4). -/
structure State.clockSound (s : State) : Prop where
  clock : s.clock.inRange
  backlog : ∀ a ∈ s.backlog, a.timeInRange

/-! ## What FREEZE locks (R198) -/

/-- The outlet map, the holder limits, the ladder lines and the contract cap (R198). -/
structure Locked where
  map : OutletMap
  limits : Vector (Nat × Nat × Nat) 4
  ladder : Ladder
  cap : Nat
deriving DecidableEq, Repr

/-- The settings that FREEZE locks, as they stand. -/
def Settings.locked (x : Settings) : Locked where
  map := x.map
  limits := x.holders.map fun y => (y.capacity, y.crownStop, y.lowStop)
  ladder := x.ladder
  cap := x.cap

end Sys2Proof.Machine

namespace Sys2Proof

/-! ## Requests as a whole -/

/-- How long the body of each request is whose fields have a fixed length (R179, R182 to R184); none where the length is
not fixed or the command is no request of the catalogue. -/
def Instr.bodyLength : Instr → Option Nat
  | .identify _ _ | .yardStatus _ _ | .start _ _ | .stop _ _ | .freeze _ _ | .saveSettings _ _ => some 0
  | .setClock _ _ => some 7
  | .setHolder _ _ => some 20
  | .readHolder _ _ | .isolateHolder _ _ | .returnHolder _ _ | .clearHolderFault _ _ => some 1
  | .setLadder _ _ => some 6
  | .releaseReserve _ _ => some 2
  | .withdrawRelease _ _ => some 0
  | .setSupplyEntry _ _ => some 7
  | .setDwell _ _ => some 2
  | .readSendOut _ _ => some 0
  | .setValve _ _ => some 3
  | .moveValve _ _ => some 2
  | .readValve _ _ | .clearValveFault _ _ => some 1
  | .loadOrder _ _ => some 15
  | .linkOrder _ _ => some 2
  | .clearOrder _ _ | .readOrder _ _ => some 1
  | .startChain _ _ | .stopChannelAfter _ _ | .stopChannelAtOnce _ _ => some 2
  | .hold _ _ | .resume _ _ | .readChannel _ _ => some 1
  | .setChannel _ _ => some 7
  | .setOutletMap _ _ => some 8
  | .setDistrict _ _ => some 14
  | .openDistrict _ _ | .shutDistrict _ _ => some 1
  | .holdSetpoint _ _ => some 3
  | .releaseSetpoint _ _ | .readDistrict _ _ => some 1
  | .setMeter _ _ => some 3
  | .setContract _ _ => some 5
  | .setDiscrepancy _ _ => some 4
  | .readLive _ _ => some 0
  | .amendSlot _ _ => some 51
  | .closeDay _ _ => some 2
  | .readStatement _ _ => some 0
  | _ => none

end Sys2Proof
end

