-- ==== Sys2Proof/Certificates/Slice0/Obligations.lean ====
section
/-!
DEFINITION. Sys2Proof/Certificates/Slice0/Obligations.lean: the statements about the part, rule by rule. `State.answered`,
`State.free`, `State.atRest`, `Kept0` and `Kept` are those of Sys2Proof/Safety.lean. A statement of the form "there is a next
state t, and Kept s' t" says what the command itself makes of the state (s', with the reply composed where it is a request)
and that what follows inside the same event leaves everything alone that `Kept` names.
-/

section

open Sys2Proof Sys2Proof.Machine

/-! ## The machine -/

/-- The command at the front of the queue runs on the state with the rest of the queue. -/
def Obligations.StepRunsTheFrontCommand : Prop :=
  ∀ (c : Instr) (rest : List Instr) (s : State),
    step { s with pending := c :: rest } = exec c { s with pending := rest }

/-- No command stops the part, and none touches the commands that wait behind it. -/
def Obligations.EveryCommandAnswersANextState : Prop :=
  ∀ (c : Instr) (s : State), ∃ t, exec c s = .next t ∧ t.pending = s.pending

/-- An event that runs to its end leaves no TRANSFER unreported (R82), so that `State.atRest` lasts. -/
def Obligations.EventsEndAtRest : Prop :=
  ∀ (s t : State), s.atRest → step s = .next t → t.backlog = [] → t.atRest

/-! ## The link (R176 to R190) -/

/-- The bytes of the frame that a well-formed request travels in are received as that request (R177, R179, R181). -/
def Obligations.GoodFramesCarryTheirRequest : Prop :=
  ∀ (i : Instr) (f : Frame), i.wellFormed = true → requestFrame i = some f → receiveFrame f.bytes = some i

/-- IDENTIFY (R189): eight bytes, in either phase, and nothing of the part changes but the port's reply; with a body it is
refused. SAVE SETTINGS, with its write, leaves the settings state that IDENTIFY reports. -/
def Obligations.IdentifyReportsThePart : Prop :=
  (∀ (tag : Byte) (s : State), s.free →
    exec (.identify tag []) s = .next (s.answered 1 tag
      ([0x00#8, 0x0A#8, 0x04#8, 0x03#8]
        ++ [toByte (allOutlets.filter fun p => (s.settings.map.districtAt p).isSome).length]
        ++ [toByte (allHolders.filter fun h => (s.settings.holders[h]).configured).length]
        ++ [if s.control.loaded then 0x01#8 else 0x02#8] ++ [if s.control.frozen then 0x01#8 else 0x00#8]))
    ∧ ∀ body, body ≠ [] → exec (.identify tag body) s = .next (s.answered 1 tag Status.badField.body)) ∧
  (∀ (tag : Byte) (body : List Byte) (r : WriteEnd) (s t : State), s.backlog = [] →
    (exec (.saveSettings tag body) s = .next t → t.control.loaded = s.control.loaded) ∧
    (exec (.saveWriteEnd r) s = .next t → t.control.loaded = s.control.loaded))

/-- The read requests answer with the records as they stand and change the port alone (R28, R56, R75, R79, R104, R136,
R163, R166, R190): a number out of range gives BAD FIELD, a statement that is absent NO SUCH. The layouts that R182 leaves open are the
model's choice (log 8). -/
def Obligations.ReadRequestsChangeOnlyThePort : Prop :=
  ∀ (tag n : Byte) (s : State), s.free →
    exec (.yardStatus tag []) s = .next (s.answered 2 tag (Status.ok.body ++ yardFields s))
    ∧ exec (.readHolder tag [n]) s = .next (s.answered 9 tag
        (match numberOf 4 n.toNat with
          | some h => Status.ok.body ++ holderFields h s
          | none => Status.badField.body))
    ∧ exec (.readSendOut tag []) s = .next (s.answered 18 tag (Status.ok.body ++ sendOutFields s))
    ∧ exec (.readValve tag [n]) s = .next (s.answered 21 tag
        (match numberOf 20 n.toNat with
          | some v => Status.ok.body ++ valveFields v s
          | none => Status.badField.body))
    ∧ exec (.readOrder tag [n]) s = .next (s.answered 26 tag
        (match slotOf n.toNat with
          | some k => Status.ok.body ++ orderFields k s
          | none => Status.badField.body))
    ∧ exec (.readChannel tag [n]) s = .next (s.answered 31 tag
        (match channelOf n.toNat with
          | some c => Status.ok.body ++ channelFields c s
          | none => Status.badField.body))
    ∧ exec (.readDistrict tag [n]) s = .next (s.answered 40 tag
        (match numberOf 6 n.toNat with
          | some d => Status.ok.body ++ districtFields d s
          | none => Status.badField.body))
    ∧ exec (.readLive tag []) s = .next (s.answered 44 tag (Status.ok.body ++ liveFields s))
    ∧ exec (.readStatement tag []) s = .next (s.answered 48 tag
        (match s.accounts.statement with
          | some x => Status.ok.body ++ statementBytes x
          | none => Status.noSuch.body))

/-- A request whose body has another length than its fields give, SET SCHEDULE by its count among them, is refused with
BAD FIELD and changes the port alone (R179). A request that arrives while the port is busy reaches no block (R180): where
no BUSY reply is pending one is composed, and where one is pending the frame is discarded and counted. That a BUSY reply
being sent is still pending is the model's choice (log 27). -/
def Obligations.RequestsAreTurnedAwayWhole : Prop :=
  (∀ (i : Instr) (code n : Nat) (tag : Byte) (body : List Byte) (s : State), s.free →
    i.requestCode = some code → i.tagAndBody = some (tag, body) → i.bodyLength = some n → body.length ≠ n →
      exec i s = .next (s.answered code tag [0x13#8])) ∧
  (∀ (tag : Byte) (body : List Byte) (s : State), s.free → body.length ≠ 2 + 4 * field body 1 1 →
    exec (.setSchedule tag body) s = .next (s.answered 35 tag [0x13#8])) ∧
  (∀ (i : Instr) (f : Frame) (s : State), i.wellFormed = true → requestFrame i = some f → s.link.busy = true →
    let kind := if isRequestCode f.kind then f.kind + 0x40#8 else 0x7F#8
    let refusal : Frame := { kind := kind, tag := f.tag, body := [0x10#8] }
    let count := if s.link.errors < 65535 then s.link.errors + 1 else 65535
    (s.link.busyReply = none → exec i s = .next (s.putLink { s.link with busyReply := some refusal }))
    ∧ (s.link.busyReply ≠ none → exec i s = .next (s.putLink { s.link with errors := count })))

/-- A good frame of no known kind is answered UNKNOWN KIND with kind 7Fh (R179). A discarded frame and a framing
error inside a frame each count one link error, up to 65,535, and nothing else changes; a framing error while the
receiver hunts changes nothing (R176, R177, R178). -/
def Obligations.UnknownKindsAndBadFrames : Prop :=
  (∀ (kind tag : Byte) (body : List Byte) (s : State), s.free →
    exec (.unknownKind kind tag body) s
      = .next (s.putLink
          ({ s.link with taking := false, reply := some { kind := 0x7F#8, tag := tag, body := [0x12#8] } }).choose)) ∧
  (∀ s : State,
    (s.link.errors < 65535 →
      exec .frameCheckFailed s = .next (s.putLink { s.link with errors := s.link.errors + 1 })
      ∧ ∀ bs, Receiver.after bs ≠ .hunting →
          exec (.framingError bs) s = .next (s.putLink { s.link with errors := s.link.errors + 1 }))
    ∧ (s.link.errors = 65535 →
        exec .frameCheckFailed s = .next s ∧ ∀ bs, exec (.framingError bs) s = .next s)
    ∧ ∀ bs, Receiver.after bs = .hunting → exec (.framingError bs) s = .next s)

/-- A notice placed while the queue holds fewer than 32 joins its tail; one placed into a full queue is dropped, and
counted up to 65,535, which shows while a request is being taken: an idle transmitter takes the count up at once
(R185). When a frame has been sent, the transmitter sends the reply of the request in hand, otherwise a pending BUSY
reply, otherwise NOTICES LOST where notices were dropped, otherwise the head of the queue, otherwise nothing (R186); a
NOTICES LOST that a break held goes before any notice (R187); a notice takes the notice number when its sending first
begins, and one sent again keeps its own. The model's choices (log 27): an idle transmitter chooses at once, but not while
a request is being taken, and FRAME SENT with nothing being sent changes nothing. -/
def Obligations.NoticesQueueAndAreSentInOrder : Prop :=
  (∀ (n : Notice) (s : State),
    let count := if s.link.dropped < 65535 then s.link.dropped + 1 else 65535
    (s.link.queue.length < 32 → (s.notify n).link.notices = s.link.notices ++ [n]
      ∧ (s.link.taking = true → (s.notify n).link.dropped = s.link.dropped)) ∧
    (32 ≤ s.link.queue.length → (s.notify n).link.notices = s.link.notices
      ∧ (s.link.taking = true → (s.notify n).link.dropped = count)) ∧
    (s.notify n) = s.putLink (s.notify n).link) ∧
  (∀ s : State, ∃ l : LinkPort, exec .frameSent s = .next (s.putLink l) ∧
    let reply := if s.link.sending = .reply then none else s.link.reply
    let busyReply := if s.link.sending = .busyReply then none else s.link.busyReply
    let lost := if s.link.sending = .lost then none else s.link.lost
    let queue := if s.link.sending = .notice then s.link.queue.tail else s.link.queue
    l.baud = s.link.baud ∧ l.errors = s.link.errors ∧
    (s.link.sending = .nothing → l = s.link) ∧
    (s.link.sending ≠ .nothing → l.reply = reply ∧ l.busyReply = busyReply ∧
      (reply ≠ none → l.sending = .reply ∧ l.queue = queue ∧ l.lost = lost ∧ l.number = s.link.number) ∧
      (reply = none → busyReply ≠ none →
        l.sending = .busyReply ∧ l.queue = queue ∧ l.lost = lost ∧ l.number = s.link.number) ∧
      (reply = none → busyReply = none → ∀ x, lost = some x →
        l.sending = .lost ∧ l.lost = some x ∧ l.dropped = s.link.dropped ∧ l.queue = queue
          ∧ l.number = s.link.number) ∧
      (reply = none → busyReply = none → lost = none → 0 < s.link.dropped →
        l.sending = .lost ∧ l.lost = some { count := s.link.dropped, number := s.link.number } ∧ l.dropped = 0
          ∧ l.number = s.link.number + 1 ∧ l.queue = queue) ∧
      (reply = none → busyReply = none → lost = none → s.link.dropped = 0 →
        (queue = [] → l.sending = .nothing ∧ l.queue = [] ∧ l.number = s.link.number) ∧
        (∀ x rest, queue = { notice := x, number := none } :: rest →
          l.sending = .notice ∧ l.queue = { notice := x, number := some s.link.number } :: rest
            ∧ l.number = s.link.number + 1) ∧
        (∀ x n rest, queue = { notice := x, number := some n } :: rest →
          l.sending = .notice ∧ l.queue = queue ∧ l.number = s.link.number))))

/-- A break discards the replies, leaves the port free, keeps the notices and the error count, holds a NOTICES LOST
that was being sent together with the dropped count, sends a notice again under its own number, and touches no other
block (R188). That the transmitter chooses at once after the break is the model's choice (log 27). -/
def Obligations.LinkBreakDiscardsReplies : Prop :=
  ∀ s : State, ∃ l : LinkPort, exec .linkBreak s = .next (s.putLink l) ∧
    l.reply = none ∧ l.busyReply = none ∧ l.busy = false ∧ l.baud = s.link.baud ∧ l.errors = s.link.errors ∧
    l.notices = s.link.notices ∧
    (∀ x, s.link.lost = some x → l.lost = some x ∧ l.dropped = s.link.dropped ∧ l.sending = .lost) ∧
    (s.link.lost = none → ∀ x n rest, s.link.queue = { notice := x, number := some n } :: rest → s.link.dropped = 0 →
      l.sending = .notice ∧ l.queue = s.link.queue ∧ l.number = s.link.number)

/-! ## Phases, settings store and yard stop (R6, R7, R191 to R200) -/

/-- Power-on reset reads both banks: the later generation of two good banks loads, else the one good bank, else the
BLANK settings (R192); the phase is SETUP, frozen is clear, no write is in progress. The holders, the selector, the
valve table with its lists and the main, the orders, the channels, the districts, the outputs and the halves have their
reset values, and so have the port's error count, replies, lost and dropped counts and line speed; the notice number and
the set of refused blocks are not stated here. The book, the last posted interval and the statement stand where the
memory's check holds, and are empty or absent where it does not (R172); the clock's gas-day start minute stands where its
own check holds (R11), and it is 06:00:00 of gas day 0, UNSET, where it does not (R11); an asserted stop line places one
notice (R7). By the model's inference, and no rule's words, the mark UNSET stands where the clock's check holds, the
waiting commands stand, and no word of an unfinished event does (log 34). -/
def Obligations.PowerOnResetLoadsAndResets : Prop :=
  (∀ (p : PowerUp) (s : State), ∃ t, exec (.powerOnReset p) s = .next t ∧
    let one := if p.bank1Holds then s.control.bank1 else none
    let two := if p.bank2Holds then s.control.bank2 else none
    t.control.phase = .setup ∧ t.control.frozen = false ∧ t.control.write = none ∧
    t.control.stopAsserted = p.stopAsserted ∧ t.control.bank1 = one ∧ t.control.bank2 = two ∧
    (∀ x y, one = some x → two = some y → dayLater x.generation y.generation = true →
      t.settings = x.image ∧ t.control.loaded = true ∧ t.control.newest = some (.one, x.generation)) ∧
    (∀ x y, one = some x → two = some y → dayLater y.generation x.generation = true →
      t.settings = y.image ∧ t.control.loaded = true ∧ t.control.newest = some (.two, y.generation)) ∧
    (∀ x, one = some x → two = none →
      t.settings = x.image ∧ t.control.loaded = true ∧ t.control.newest = some (.one, x.generation)) ∧
    (∀ y, one = none → two = some y →
      t.settings = y.image ∧ t.control.loaded = true ∧ t.control.newest = some (.two, y.generation)) ∧
    (one = none → two = none →
      t.settings = Settings.blank ∧ t.control.loaded = false ∧ t.control.newest = none)) ∧
  (∀ (p : PowerUp) (s : State), ∃ t, exec (.powerOnReset p) s = .next t ∧
    t.pending = s.pending ∧ t.backlog = [] ∧
    (∀ h, t.holder h = Holder.atReset) ∧ t.stock.condition = .unknown ∧ t.stock.release = none ∧
    t.selector = Selector.atReset ∧
    (∀ v : ValveId, t.valve v =
      { position := .unknown, fault := .noFault, claim := .unclaimed, openMade := p.openMade.getLsb v,
        closedMade := p.closedMade.getLsb v }) ∧
    t.valves.protect = [] ∧ t.valves.queue = [] ∧ t.valves.main = .idle ∧
    (∀ n, t.order n = OrderSlot.empty) ∧ (∀ c, t.channel c = Channel.idle) ∧ t.channels.booster = false ∧
    (∀ d, t.district d = District.atReset) ∧ (∀ o : OutletId, t.districts.outputs[o] = 0) ∧
    (∀ i, t.half i = Half.empty) ∧ t.accounts.gapPending = true ∧ t.accounts.cut = false ∧
    (p.bookHolds = true → t.accounts.book = s.accounts.book ∧ t.accounts.lastPosted = s.accounts.lastPosted
      ∧ t.accounts.statement = s.accounts.statement ∧ t.accounts.memoryLost = false) ∧
    (p.bookHolds = false → t.accounts.book = [] ∧ t.accounts.lastPosted = none ∧ t.accounts.statement = none
      ∧ t.accounts.memoryLost = true) ∧
    t.accounts.take = t.sumTake ∧ t.accounts.takeDay = t.clock.day ∧
    (p.clockHolds = true → t.clock.dayStartMinute = s.clock.dayStartMinute ∧ t.clock.unset = s.clock.unset) ∧
    (p.clockHolds = false → t.clock.day = 0 ∧ t.clock.minute = 360 ∧ t.clock.second = 0
      ∧ t.clock.dayStartMinute = 360 ∧ t.clock.unset = true) ∧
    t.link.errors = 0 ∧ t.link.reply = none ∧ t.link.busyReply = none ∧ t.link.dropped = 0 ∧ t.link.lost = none ∧
    t.link.notices = (if p.stopAsserted then [.yardStop] else []) ∧
    (p.strap3Made = true → t.link.baud = 19200) ∧
    (p.strap3Made = false → p.strap2Made = true → p.strap1Made = true → t.link.baud = 9600) ∧
    (p.strap3Made = false → p.strap2Made = true → p.strap1Made = false → t.link.baud = 4800) ∧
    (p.strap3Made = false → p.strap2Made = false → p.strap1Made = true → t.link.baud = 2400) ∧
    (p.strap3Made = false → p.strap2Made = false → p.strap1Made = false → t.link.baud = 1200))

/-- START (R193, R194): the checks in their order, the first that fails giving the reply and changing nothing; a START that
passes them enters RUN with OK. On a part with nothing on its way, no stray outlet, the stop line released and the contract
not spent, the blocks adopt the plant: positions from the switch record (R58), the four holder outlets claimed by the
selector (R40), silence timers started in SERVICE (R35), the open holder in SERVICE current (R55), a mapped district
whose valve shows OPEN LIVE, or FAULT with a fault, its valve claimed, and any other SHUT (R135), the condition judged and
setpoints in force found; a FILLING half opened, taken up, closed or stretched (R174). That the selector has made no
decode, even where the condition judged at START is another one, is the model's choice (log 43). -/
def Obligations.StartEntersRun : Prop :=
  (∀ (tag : Byte) (s : State), s.free →
    let refusal (k : Status) := exec (.start tag []) s = .next (s.answered 3 tag k.body)
    let someConfigured := ∃ h : HolderId, s.settings.holders[h].configured = true
    let holdersPass := ∀ h : HolderId, s.settings.holders[h].configured = true →
      holderSettingsOk s.settings.holders[h] = true
    let entriesPass := ∀ e : EntryId, s.settings.supply[e].low ≤ s.settings.supply[e].high →
      s.settings.holders[s.settings.supply[e].holder].configured = true
    (s.control.phase = .run → refusal .wrongPhase) ∧
    (s.control.phase = .setup → s.clock.unset = true → refusal .badField) ∧
    (s.control.phase = .setup → ¬someConfigured → refusal .badField) ∧
    (s.control.phase = .setup → ¬holdersPass → refusal .badField) ∧
    (s.control.phase = .setup → ¬entriesPass → refusal .badField) ∧
    (s.control.phase = .setup → s.clock.unset = false → someConfigured → holdersPass → entriesPass →
      (s.clockBehind = true → refusal .clockBack) ∧
      (s.clockBehind = false → ∃ t, exec (.start tag []) s = .next t ∧
        Kept0 ((s.putControl { s.control with phase := .run }).answered 3 tag Status.ok.body) t))) ∧
  (∀ (tag : Byte) (chosen : Option HolderId) (s : State), s.free → startCheck s = .ok →
    s.control.stopAsserted = false → s.valves.protect = [] → s.valves.queue = [] → s.valves.main = .idle →
    (∀ c, s.channel c = Channel.idle) → (∀ d, (s.district d).state = .shut) →
    (s.settings.source = none
      ∨ (if s.clock.day = s.accounts.takeDay then s.accounts.take else s.sumTake) < s.settings.cap) →
    let shown (v : ValveId) : Position := ((s.valve v).shown.map limitPosition).getD .unknown
    let candidate (h : HolderId) : Prop := s.settings.holders[h].configured = true ∧ (s.holder h).state = .service
      ∧ shown (outletValve h) = .opened
    (∀ h, chosen = some h → candidate h) →
    (∀ h, chosen ≠ some h → ¬candidate h
      ∧ (shown (outletValve h) = .closed ∨ (s.valve (outletValve h)).fault ≠ .noFault)) →
    ∃ t, exec (.start tag []) s = .next t ∧
      (∀ v, (t.valve v).position = shown v) ∧ (∀ h, (t.valve (outletValve h)).claim = .selector) ∧
      (∀ h, t.holder h = { s.holder h with
        sinceReading := none
        silence := if s.settings.holders[h].configured && decide ((s.holder h).state = .service)
          then some s.settings.holders[h].silence else none }) ∧
      t.selector = { Selector.atReset with
        state := if chosen.isSome then .steady else .noHolder, current := chosen } ∧
      t.stock.condition = t.conditionNow ∧
      (∀ d p, s.outletOf d = some p →
        let v := districtValve p
        let lockout := s.settings.districts[d].lockout
        (t.district d).inForce = some (t.setpointNow d) ∧
        (shown v ≠ .opened → (t.district d).state = .shut ∧ (t.valve v).claim = (s.valve v).claim) ∧
        (shown v = .opened → (s.valve v).fault = .noFault → (t.district d).state = .live
          ∧ (t.district d).lockout = (if lockout = 0 then none else some lockout)
          ∧ (t.valve v).claim = .district d ∧ t.districts.outputs[p] = (t.setpointNow d).value) ∧
        (shown v = .opened → (s.valve v).fault ≠ .noFault → (t.district d).state = .fault
          ∧ (t.valve v).claim = .district d ∧ t.districts.outputs[p] = 0)) ∧
      (s.halfIn .filling = none → (t.half .a).state = .filling ∧ (t.half .a).first = s.clock.interval
        ∧ (t.half .a).last = s.clock.interval ∧ (t.half .a).span = 1
        ∧ (t.half .a).columns = Vector.replicate 12 0 ∧ (t.half .a).marks.powerGap = s.accounts.gapPending) ∧
      (∀ i, s.halfIn .filling = some i →
        let x := s.half i
        let marks : Marks := { x.marks with mapChanged := true, basisChanged := true }
        (x.last = s.clock.interval → t.half i = { x with marks := marks }) ∧
        (x.last ≠ s.clock.interval → (s.half i.other).state ≠ .empty → t.half i = { x with
          last := s.clock.interval, span := x.span + 1,
          marks := { marks with clockSet := true, overrun := true,
                                dayCrossed := x.marks.dayCrossed || dayLater s.clock.day x.last.day } }) ∧
        (x.last ≠ s.clock.interval → (s.half i.other).state = .empty →
          (t.half i.other).state = .filling ∧ (t.half i.other).first = s.clock.interval
          ∧ (t.half i.other).last = s.clock.interval ∧ (t.half i.other).span = 1
          ∧ (t.half i.other).columns = Vector.replicate 12 0 ∧
          (s.accounts.book.length < 64 → ∃ y, t.accounts.book = s.accounts.book ++ [y] ∧ y.first = x.first
            ∧ y.columns = x.columns ∧ y.marks = { marks with clockSet := true }))))

/-- STOP is refused with WRONG PHASE in SETUP, and in RUN with IN USE while a channel is not IDLE, a district is not SHUT,
the selector is in CHANGEOVER, or the valve unit is busy (R196); with a body it is refused; a HALTED channel is made IDLE by
STOP CHANNEL. -/
def Obligations.StopIsRefusedWhileWorkGoesOn : Prop :=
  ∀ (tag : Byte) (s : State), s.free →
    let refusal (k : Status) := exec (.stop tag []) s = .next (s.answered 4 tag k.body)
    (∀ body, body ≠ [] → exec (.stop tag body) s = .next (s.answered 4 tag Status.badField.body)) ∧
    (s.control.phase = .setup → refusal .wrongPhase) ∧
    (s.control.phase = .run →
      ((∃ c, (s.channel c).state ≠ .idle) → refusal .inUse) ∧
      ((∃ d, (s.district d).state ≠ .shut) → refusal .inUse) ∧
      (s.selector.state = .changeover → refusal .inUse) ∧
      (s.valves.protect ≠ [] → refusal .inUse) ∧ (s.valves.queue ≠ [] → refusal .inUse) ∧
      (s.valves.main ≠ .idle → refusal .inUse) ∧
      (∀ c, (s.channel c).state = .halted → refusal .inUse ∧
        exec (.stopChannelAfter tag [toByte (channelNumber c), 1#8]) s
          = .next ((s.putChannel c Channel.idle).answered 28 tag Status.ok.body) ∧
        exec (.stopChannelAtOnce tag [toByte (channelNumber c), 2#8]) s
          = .next ((s.putChannel c Channel.idle).answered 28 tag Status.ok.body)))

/-- A STOP that passes its checks (R197): the phase is SETUP, the timers of the holders, the release, the selector and
the districts are stopped, the selector is NONE, its last decode standing (R54, R56), the release is ended, contents are
UNKNOWN, the ages of the readings removed (R28) and guards lowered, an ISOLATING holder is in SERVICE (R36), every claim
but an ISOLATED holder's is cleared, setpoints in force are removed; positions, faults, switch records, settings, orders,
the accounts and the channels stand. That STOP forgets an owed minute and boundary is the model's choice (log 3). -/
def Obligations.StopReturnsToSetup : Prop :=
  ∀ (tag : Byte) (s : State), s.free → s.control.phase = .run → (∀ c, (s.channel c).state = .idle) →
    (∀ d, (s.district d).state = .shut) → s.selector.state ≠ .changeover → s.valves.protect = [] →
    s.valves.queue = [] → s.valves.main = .idle →
    ∃ t : State, exec (.stop tag []) s = .next (t.answered 4 tag Status.ok.body) ∧
      t.control = { s.control with phase := .setup } ∧
      t.clock = { s.clock with minuteOwed := false, boundaryOwed := none } ∧
      t.settings = s.settings ∧ t.channels = s.channels ∧ t.accounts = s.accounts ∧ t.link = s.link ∧
      t.pending = s.pending ∧ t.selector = { Selector.atReset with lastDecode := s.selector.lastDecode } ∧
      t.stock.condition = .unknown ∧ t.stock.release = none ∧
      (∀ h, t.holder h = { s.holder h with
        state := if (s.holder h).state = .isolating then .service else (s.holder h).state,
        content := none, atCrown := false, atLow := false, silence := none, sinceReading := none,
        closeWait := .nothing }) ∧
      (∀ v, (t.valve v).position = (s.valve v).position ∧ (t.valve v).fault = (s.valve v).fault
        ∧ (t.valve v).openMade = (s.valve v).openMade ∧ (t.valve v).closedMade = (s.valve v).closedMade) ∧
      (∀ v, (∀ h, (s.valve v).claim ≠ .isolation h) → (t.valve v).claim = .unclaimed) ∧
      (∀ h, (s.holder h).state = .isolating → (t.valve (inletValve h)).claim = .unclaimed) ∧
      (∀ h, (s.valve (inletValve h)).claim = .isolation h → (s.holder h).state = .isolated →
        (t.valve (inletValve h)).claim = .isolation h) ∧
      (∀ d, t.district d = { s.district d with
        inForce := none, lockout := none, qualify := none, repeatLeft := none, moveWait := .unasked }) ∧
      (∀ p : OutletId, t.districts.outputs[p] = 0)

/-- FREEZE sets frozen, with OK, in either phase, and changes nothing else (R198). Once FREEZE has been taken, the
outlet map, the holder limits, the ladder lines and the contract cap keep their values until the next power-on
reset, and frozen stays set (R198). -/
def Obligations.FreezeLocksTheLimits : Prop :=
  (∀ (tag : Byte) (s : State), s.free →
    exec (.freeze tag []) s
      = .next ((s.putControl { s.control with frozen := true }).answered 5 tag Status.ok.body)) ∧
  (∀ (c : Instr) (s t : State), s.control.frozen = true → (∀ p, c ≠ .powerOnReset p) →
    exec c s = .next t → t.control.frozen = true ∧ t.settings.locked = s.settings.locked)

/-- SAVE SETTINGS (R199): BUSY while a write is in progress; else ACCEPTED, the settings as they stand going to the
bank that does not hold the newest good image (bank 1 where there is none) under the next generation, with 2 s for
the write. The end of a write (R200): a good one makes its image the newest and places SETTINGS SAVED; a failed one
leaves its bank not good, the newest generation and the other bank as they were, and places SAVE FAILED with its
cause. A timeout is due when the 2 s are out (log 1). That the bank holds nothing good from the beginning of the write,
and that the end of a write with none in progress changes nothing, are the model's inferences (log 28). -/
def Obligations.SaveSettingsWritesTheStore : Prop :=
  (∀ (tag : Byte) (s : State), s.free →
    (s.control.write ≠ none → exec (.saveSettings tag []) s = .next (s.answered 6 tag [0x10#8])) ∧
    (s.control.write = none → ∃ w : StoreWrite,
      w.stored.image = s.settings ∧ w.left = 2 ∧
      (s.control.newest = none → w.stored.generation = 1 ∧ w.bank = .one) ∧
      (∀ g, s.control.newest = some (.one, g) → w.stored.generation = (g + 1) % 65536 ∧ w.bank = .two) ∧
      (∀ g, s.control.newest = some (.two, g) → w.stored.generation = (g + 1) % 65536 ∧ w.bank = .one) ∧
      exec (.saveSettings tag []) s = .next ((s.putControl { s.control with
        write := some w
        bank1 := if w.bank = .one then none else s.control.bank1
        bank2 := if w.bank = .two then none else s.control.bank2 }).answered 6 tag [0x01#8]))) ∧
  (∀ (s : State) (w : StoreWrite), s.atRest → s.control.write = some w →
    let bank1 (x : Option StoredImage) := if w.bank = .one then x else s.control.bank1
    let bank2 (x : Option StoredImage) := if w.bank = .two then x else s.control.bank2
    let failed (cause : SaveFailure) : State := (s.putControl { s.control with
      bank1 := bank1 none, bank2 := bank2 none, write := none }).notify (.saveFailed cause)
    exec (.saveWriteEnd .good) s = .next ((s.putControl { s.control with
        bank1 := bank1 (some w.stored), bank2 := bank2 (some w.stored), write := none,
        newest := some (w.bank, w.stored.generation) }).notify (.settingsSaved w.stored.generation)) ∧
    exec (.saveWriteEnd .mismatch) s = .next (failed .mismatch) ∧
    (w.left = 0 → exec (.saveWriteEnd .timeout) s = .next (failed .timeout)) ∧
    (w.left ≠ 0 → exec (.saveWriteEnd .timeout) s = .next s)) ∧
  (∀ (r : WriteEnd) (s : State), s.backlog = [] → s.control.write = none → exec (.saveWriteEnd r) s = .next s)

/-- A yard stop assertion sets ASSERTED and places its notice in either phase; in SETUP that is all (R6), and in RUN
what follows is the channels' and the valve unit's own. A release sets RELEASED, places its notice, and does nothing
more (R7). A yard stop in RUN on a part whose channels are IDLE and whose ten stop valves stand CLOSED, unclaimed
and neither driven nor queued: both channels halt with cause YARD STOP and their notices, and no close is entered
(R6, R103). Channel A's notice before channel B's is the model's choice (log 10), and a command that repeats the level is
taken like any other by its inference (log 29). -/
def Obligations.YardStopIsHandedOn : Prop :=
  (∀ (o : StopOrder) (s : State), s.atRest →
    let asserted := (s.putControl { s.control with stopAsserted := true }).notify .yardStop
    (s.control.phase = .setup → exec (.yardStopAssertion o) s = .next asserted) ∧
    (s.control.phase = .run → ∃ t, exec (.yardStopAssertion o) s = .next t ∧ Kept asserted t) ∧
    exec .yardStopRelease s
      = .next ((s.putControl { s.control with stopAsserted := false }).notify .yardStopCleared)) ∧
  (∀ (o : StopOrder) (s : State), s.atRest → s.control.phase = .run → s.valves.main = .idle →
    s.valves.protect = [] → s.valves.queue = [] → (∀ c, (s.channel c).state = .idle) →
    (∀ v ∈ stopValves, (s.valve v).position = .closed ∧ (s.valve v).claim = .unclaimed) →
    let halted : Channel := { Channel.idle with state := .halted, halt := some .yardStop }
    exec (.yardStopAssertion o) s = .next
      (((((s.putControl { s.control with stopAsserted := true }).notify .yardStop).putChannel .a halted).notify
        (.channelHalted .a .yardStop none)).putChannel .b halted |>.notify (.channelHalted .b .yardStop none)))

/-! ## The clock (R8 to R13) -/

/-- A clock tick with nothing owed (R8 to R10): the second, minute, gas-day number and what the clock then owes its
readers; every timer has one second less, but the time limit of a SUSPENDED order pauses (R92), every age is one more, and
no other record changes. The model's choices: one tick for every timer (log 2), a minute and a boundary owed to their
readers (log 3), and ages in elapsed seconds (log 9). -/
def Obligations.ClockTickCountsOneSecond : Prop :=
  ∀ s : State, s.atRest → s.clock.minuteOwed = false → s.clock.boundaryOwed = none →
    ∃ t, exec .clockTick s = .next t ∧
      let minute := if s.clock.minute < 1439 then s.clock.minute + 1 else 0
      let dayStart := decide (minute = s.clock.dayStartMinute)
      let day := if dayStart then (s.clock.day + 1) % 65536 else s.clock.day
      let begins : Interval := { day := day, index := intervalIndex minute s.clock.dayStartMinute }
      (s.clock.second < 59 → t.clock = { s.clock with second := s.clock.second + 1 }) ∧
      (59 ≤ s.clock.second → t.clock = { s.clock with
        second := 0, minute := minute, day := day, minuteOwed := s.running,
        boundaryOwed := if s.running && decide (minute % 30 = 0) then
          some { ending := s.clock.interval, beginning := begins, dayStart := dayStart } else none }) ∧
      (∀ h, t.holder h = { s.holder h with
        silence := (s.holder h).silence.map (· - 1), sinceReading := (s.holder h).sinceReading.map (· + 1) }) ∧
      t.stock.release = s.stock.release.map (· - 1) ∧ t.stock.condition = s.stock.condition ∧
      t.selector = { s.selector with dwell := s.selector.dwell.map (· - 1) } ∧
      (∀ d left, s.valves.main = .driving d left → t.valves = { s.valves with main := .driving d (left - 1) }) ∧
      (s.valves.main = .idle → t.valves = s.valves) ∧ t.pending = s.pending ∧
      t.channels.orders = s.channels.orders ∧ t.channels.booster = s.channels.booster ∧
      (∀ c, t.channel c = { s.channel c with
        pathTimer := (s.channel c).pathTimer.map (· - 1), waitTimer := (s.channel c).waitTimer.map (· - 1),
        limitTimer := if (s.channel c).state = .suspended then (s.channel c).limitTimer
                      else (s.channel c).limitTimer.map (· - 1) }) ∧
      (∀ d, t.district d = { s.district d with
        lockout := (s.district d).lockout.map (· - 1), qualify := (s.district d).qualify.map (· - 1),
        repeatLeft := (s.district d).repeatLeft.map (· - 1),
        sample := (s.district d).sample.map fun a => { a with age := a.age + 1 } }) ∧
      t.districts.outputs = s.districts.outputs ∧ t.accounts = s.accounts ∧ t.link = s.link ∧
      t.settings = s.settings ∧
      t.control = { s.control with write := s.control.write.map fun w => { w with left := w.left - 1 } }

/-- SET CLOCK (R12, R13): BAD FIELD out of range; in SETUP the whole clock is replaced and the mark cleared; in RUN a change
of start gives WRONG PHASE and an earlier interval CLOCK BACK, and else the clock takes the new time. A set into a later
interval marks the FILLING half CLOCK SET and closes it, the other half opening at the new interval, or, with the other
half READY, stretches it to the new interval (R156). With no order current, a set while a minute or a boundary is owed has
them handed on first, the boundary before the minute (log 3): with the other half READY the FILLING half is stretched by
the boundary and, into a later interval, by the set as well. -/
def Obligations.SetClockReplacesTheTime : Prop :=
  ∀ (tag : Byte) (body : List Byte) (s : State), s.free → body.length = 7 →
    let day := field body 0 2
    let minute := field body 2 2
    let second := field body 4 1
    let start := field body 5 2
    let new : ClockUnit := { day := day, minute := minute, second := second, dayStartMinute := start, unset := false,
                             minuteOwed := false, boundaryOwed := none }
    let inRange := minute ≤ 1439 ∧ second ≤ 59 ∧ start % 30 = 0 ∧ start ≤ 1410
    let refusal (k : Status) := exec (.setClock tag body) s = .next (s.answered 7 tag k.body)
    (¬inRange → refusal .badField) ∧
    (inRange → s.control.phase = .setup → s.unreported .a = none → s.unreported .b = none →
      exec (.setClock tag body) s = .next ((s.putClock new).answered 7 tag Status.ok.body)) ∧
    (inRange → s.control.phase = .run → start ≠ s.clock.dayStartMinute → refusal .wrongPhase) ∧
    (inRange → s.control.phase = .run → start = s.clock.dayStartMinute →
      (new.interval.earlier s.clock.interval = true → refusal .clockBack) ∧
      (new.interval.earlier s.clock.interval = false → s.clock.minuteOwed = false → s.clock.boundaryOwed = none →
        ∃ t, exec (.setClock tag body) s = .next t ∧
          Kept0 ((s.putClock new).answered 7 tag Status.ok.body) t ∧
          ∀ i, s.halfIn .filling = some i → new.interval ≠ s.clock.interval →
            let x := s.half i
            let marks : Marks := { x.marks with clockSet := true }
            ((s.half i.other).state = .empty →
              (t.half i.other).state = .filling ∧ (t.half i.other).first = new.interval
              ∧ (t.half i.other).last = new.interval ∧ (t.half i.other).span = 1
              ∧ (t.half i.other).columns = Vector.replicate 12 0 ∧ (t.half i.other).atOpen = s.stockReading ∧
              (s.accounts.book.length < 64 →
                s.accounts.book ++ [slotOfHalf { x with marks := marks } s.stockReading s.settings.discrepancy]
                  <+: t.accounts.book)) ∧
            ((s.half i.other).state ≠ .empty →
              (t.half i).state = .filling ∧ (t.half i).first = x.first ∧ (t.half i).last = new.interval
              ∧ (t.half i).span = x.span + 1 ∧ (t.half i).columns = x.columns ∧ (t.half i).marks.clockSet = true
              ∧ (t.half i).marks.overrun = true
              ∧ (t.half i).marks.dayCrossed = (x.marks.dayCrossed || dayLater day s.clock.day))) ∧
      (new.interval.earlier s.clock.interval = false → (∀ c, (s.channel c).current = none) → 0 < s.settings.cap →
        ∃ t, exec (.setClock tag body) s = .next t ∧ t.clock = new ∧ t.settings = s.settings ∧
          t.control = s.control ∧ t.channels = s.channels ∧
          t.link.reply = some { kind := 0x47#8, tag := tag, body := [0x00#8] } ∧
          ∀ b i, s.clock.boundaryOwed = some b → s.halfIn .filling = some i → (s.half i.other).state ≠ .empty →
            (t.half i).span = (s.half i).span + (if new.interval = s.clock.interval then 1 else 2) ∧
            (t.half i).last = (if new.interval = s.clock.interval then b.beginning else new.interval) ∧
            (t.half i).marks.overrun = true))

/-- A change of minute that is owed is handed on once, in RUN (R9): with both channels without an order, the setpoints in
force are found afresh and nothing else changes; where none is owed, nothing changes (log 3). A WAIT by minute that is
FLOWING ends DONE at its minute (R90): posted within the event, with its chain ended where next is END. -/
def Obligations.ChangeOfMinuteFindsSetpoints : Prop :=
  ∀ s : State, s.atRest →
    ((s.control.phase = .setup ∨ s.clock.minuteOwed = false) → exec .changeOfMinute s = .next s) ∧
    (s.control.phase = .run → s.clock.minuteOwed = true →
      let t := s.putClock { s.clock with minuteOwed := false }
      (∃ u, exec .changeOfMinute s = .next u ∧ Kept t u) ∧
      ((∀ c, (s.channel c).current = none) → exec .changeOfMinute s = .next (findSetpoints t)) ∧
      ∀ c n, (s.channel c).current = some n → (s.channel c.other).current = none → (s.channel c).state = .running →
        (s.channel c).reported = none → s.holdsPin c = false → s.selector.change = none →
        s.claimed (.channel c) = [] → (s.order n).status = .flowing → (s.order n).order.kind = some .wait →
        (s.order n).order.form = some .minute → (s.order n).order.target = s.clock.minute →
        (s.order n).order.notify = false → (s.order n).order.next = none → (s.channel c).stopAfter = false →
        exec .changeOfMinute s = .next ((((findSetpoints t).putOrder n { s.order n with
          status := .done, endCause := some .target, endContent := none }).putChannel c Channel.idle).notify
            (.chainEnded c n .reachedEnd)))

/-- An interval boundary that is owed is handed to the account unit once, in RUN (R9, R153): with the other half
EMPTY the FILLING half posts where the book has room, and the other half becomes FILLING with the beginning
interval; with a full book it waits READY, with DAY BOOK FULL (R158). A boundary while the other half is READY stretches
the FILLING half, marked OVERRUN, over the beginning interval (R154), and over a gas-day start DAY CROSSED as well. At a
gas-day start the contract take is 0 for the new day, and the contract is judged OPEN (R168, R171). That a boundary is
owed, and that its command changes nothing with none owed or in SETUP, is the model's choice (log 3). -/
def Obligations.IntervalBoundaryTurnsOrStretches : Prop :=
  (∀ (s : State) (b : Boundary) (i : HalfId), s.backlog = [] → s.control.phase = .run →
    s.clock.boundaryOwed = some b → s.halfIn .filling = some i → (s.half i.other).state = .empty →
    ∃ t, exec .intervalBoundary s = .next t ∧
      t.clock = { s.clock with boundaryOwed := none } ∧ t.settings = s.settings ∧ t.control = s.control ∧
      (t.half i.other).state = .filling ∧ (t.half i.other).first = b.beginning ∧
      (t.half i.other).last = b.beginning ∧ (t.half i.other).span = 1 ∧
      (t.half i.other).columns = Vector.replicate 12 0 ∧ (t.half i.other).atOpen = s.stockReading ∧
      (s.accounts.book.length < 64 →
        s.accounts.book ++ [slotOfHalf (s.half i) s.stockReading s.settings.discrepancy] <+: t.accounts.book) ∧
      (64 ≤ s.accounts.book.length → b.dayStart = false ∨ 0 < s.settings.cap →
        t.accounts.book = s.accounts.book ∧ (t.half i).state = .ready ∧ (t.half i).columns = (s.half i).columns
        ∧ (t.half i).atClose = some s.stockReading ∧ (t.half i).fullNoticed = true ∧
        (s.unreported .a = none → s.unreported .b = none → s.link.queue.length < 32 →
          t.link.notices = s.link.notices ++ [.dayBookFull (s.half i).first])) ∧
      (b.dayStart = false → t.accounts.take = s.accounts.take ∧ t.accounts.takeDay = s.accounts.takeDay) ∧
      (b.dayStart = true → 0 < s.settings.cap →
        t.accounts.take = 0 ∧ t.accounts.takeDay = b.beginning.day ∧ t.accounts.cut = false)) ∧
  (∀ (s : State), s.backlog = [] →
    (s.control.phase = .setup ∨ s.clock.boundaryOwed = none → exec .intervalBoundary s = .next s) ∧
    ∀ (b : Boundary) (i : HalfId), s.control.phase = .run → s.clock.boundaryOwed = some b →
      s.halfIn .filling = some i → (s.half i.other).state ≠ .empty →
      ∃ t, exec .intervalBoundary s = .next t ∧ t.clock = { s.clock with boundaryOwed := none } ∧
        (t.half i).state = .filling ∧ (t.half i).first = (s.half i).first ∧ (t.half i).last = b.beginning ∧
        (t.half i).span = (s.half i).span + 1 ∧ (t.half i).columns = (s.half i).columns ∧
        (t.half i).marks.overrun = true ∧
        (t.half i).marks.dayCrossed = ((s.half i).marks.dayCrossed || b.dayStart) ∧
        s.accounts.book <+: t.accounts.book ∧
        (b.dayStart = false → t.accounts.take = s.accounts.take ∧ t.accounts.takeDay = s.accounts.takeDay) ∧
        (b.dayStart = true → 0 < s.settings.cap →
          t.accounts.take = 0 ∧ t.accounts.takeDay = b.beginning.day ∧ t.accounts.cut = false))

/-! ## Settings without further effect (R50, R57, R80, R150, R160) -/

/-- SET DWELL, SET VALVE, SET CHANNEL, SET METER and SET DISCREPANCY, in either phase: out of range BAD FIELD,
nothing changed; in range OK, the one setting replaced and nothing else. SET SUPPLY ENTRY (R37): BAD FIELD for an
entry, holder or class out of range; else OK with the entry's fields replaced together, in SETUP with nothing
decoded. -/
def Obligations.SettingsAreStored : Prop :=
  (∀ (tag : Byte) (body : List Byte) (s : State), s.free →
    (body.length = 2 →
      let n := field body 0 2
      exec (.setDwell tag body) s = .next (if 60 ≤ n ∧ n ≤ 3600
        then (s.putSettings { s.settings with dwell := n }).answered 17 tag Status.ok.body
        else s.answered 17 tag Status.badField.body)) ∧
    (body.length = 3 →
      let n := field body 1 2
      exec (.setValve tag body) s = .next (match numberOf 20 (field body 0 1) with
        | some v => if 10 ≤ n ∧ n ≤ 600
            then (s.putSettings { s.settings with travel := s.settings.travel.set v.val n }).answered 19 tag
              Status.ok.body
            else s.answered 19 tag Status.badField.body
        | none => s.answered 19 tag Status.badField.body)) ∧
    (body.length = 7 →
      let timeout := field body 1 2
      let threshold := field body 3 4
      exec (.setChannel tag body) s = .next (match channelOf (field body 0 1) with
        | some c => if 30 ≤ timeout ∧ timeout ≤ 3600 ∧ threshold ≤ 1000000
            then (s.putSettings { s.settings with
                channels := s.settings.channels.put c { pathTimeout := timeout, holdThreshold := threshold } }).answered
              32 tag Status.ok.body
            else s.answered 32 tag Status.badField.body
        | none => s.answered 32 tag Status.badField.body)) ∧
    (body.length = 3 →
      let n := field body 1 2
      exec (.setMeter tag body) s = .next (match numberOf 11 (field body 0 1) with
        | some m => if 1 ≤ n ∧ n ≤ 10000
            then (s.putSettings { s.settings with weights := s.settings.weights.set m.val n }).answered 41 tag
              Status.ok.body
            else s.answered 41 tag Status.badField.body
        | none => s.answered 41 tag Status.badField.body)) ∧
    (body.length = 4 →
      let n := field body 0 4
      exec (.setDiscrepancy tag body) s = .next (if n ≤ 100000000
        then (s.putSettings { s.settings with discrepancy := n }).answered 43 tag Status.ok.body
        else s.answered 43 tag Status.badField.body))) ∧
  (∀ (tag : Byte) (body : List Byte) (s : State), s.free → body.length = 7 →
    let refusal := exec (.setSupplyEntry tag body) s = .next (s.answered 16 tag Status.badField.body)
    (numberOf 8 (field body 0 1) = none → refusal) ∧ (numberOf 4 (field body 1 1) = none → refusal) ∧
    (classOf (field body 6 1) = none → refusal) ∧
    ∀ e h k, numberOf 8 (field body 0 1) = some e → numberOf 4 (field body 1 1) = some h →
      classOf (field body 6 1) = some k →
      let stored := s.putSettings { s.settings with
        supply := s.settings.supply.set e.val { holder := h, low := field body 2 2, high := field body 4 2, cls := k } }
      (s.control.phase = .setup →
        exec (.setSupplyEntry tag body) s = .next (stored.answered 16 tag Status.ok.body)) ∧
      (s.control.phase = .run →
        ∃ t, exec (.setSupplyEntry tag body) s = .next t ∧ Kept (stored.answered 16 tag Status.ok.body) t))

/-! ## Holders and yard stock (R3, R15 to R36) -/

/-- SET HOLDER (R15): BAD FIELD for a number, flag or limit out of range; in RUN a change of configured WRONG PHASE; after
FREEZE a change of limits FROZEN; in RUN a content above the new capacity BAD FIELD; else OK with the settings replaced.
In SETUP a change of configured gives the holder its reset record; in RUN the guards are judged afresh against the
content. -/
def Obligations.SetHolderStoresOrRefuses : Prop :=
  ∀ (tag : Byte) (body : List Byte) (s : State), s.free → body.length = 20 →
    let refusal (k : Status) := exec (.setHolder tag body) s = .next (s.answered 8 tag k.body)
    ((numberOf 4 (field body 0 1) = none ∨ flagOf (field body 1 1) = none) → refusal .badField) ∧
    ∀ (h : HolderId) (new : HolderSettings), numberOf 4 (field body 0 1) = some h →
      holderSettingsOf body = some new →
      let old := s.settings.holders[h]
      let inRange := if new.configured then holderSettingsOk new = true else marginOk new = true
      let phase := s.control.phase = .run ∧ new.configured ≠ old.configured
      let locked := s.control.frozen = true ∧
        (new.capacity ≠ old.capacity ∨ new.crownStop ≠ old.crownStop ∨ new.lowStop ≠ old.lowStop)
      let above := s.control.phase = .run ∧ new.configured = true ∧
        ∃ n, (s.holder h).content = some n ∧ new.capacity < n
      let stored := s.putSettings { s.settings with holders := s.settings.holders.set h.val new }
      (¬inRange → refusal .badField) ∧
      (inRange → phase → refusal .wrongPhase) ∧
      (inRange → ¬phase → locked → refusal .frozen) ∧
      (inRange → ¬phase → ¬locked → above → refusal .badField) ∧
      (inRange → ¬locked → s.control.phase = .setup → new.configured = old.configured →
        exec (.setHolder tag body) s = .next (stored.answered 8 tag Status.ok.body)) ∧
      (inRange → ¬locked → s.control.phase = .setup → new.configured ≠ old.configured →
        (s.valve (inletValve h)).claim ≠ .isolation h →
        exec (.setHolder tag body) s = .next ((stored.putHolder h Holder.atReset).answered 8 tag Status.ok.body)) ∧
      (inRange → ¬locked → s.control.phase = .setup → new.configured ≠ old.configured →
        (s.valve (inletValve h)).claim = .isolation h →
        exec (.setHolder tag body) s = .next
          (((stored.putClaim (inletValve h) .unclaimed).putHolder h Holder.atReset).answered 8 tag Status.ok.body)) ∧
      (inRange → ¬phase → ¬locked → ¬above → s.control.phase = .run →
        ((new.configured = false ∨ (s.holder h).content = none) →
          exec (.setHolder tag body) s = .next (stored.answered 8 tag Status.ok.body)) ∧
        (∀ n, new.configured = true → (s.holder h).content = some n →
          ∃ t, exec (.setHolder tag body) s = .next t ∧
            Kept ((stored.putHolder h { s.holder h with
              atCrown := crownAfter new (s.holder h).atCrown n,
              atLow := lowAfter new (s.holder h).atLow n }).answered 8 tag Status.ok.body) t))

/-- The two guards (R18, R19): a content at or above the crown stop raises AT CROWN and one below it by more than the
margin lowers it; a content at or below the low stop raises AT LOW and one above it by more than the margin lowers it;
a content in between leaves either as it was. LIFT READING (R3, R16, R17): discarded in SETUP, for a holder that is
not configured and for one in FAULT; at or below the capacity it becomes the content and the guards are judged against
it; the silence timer of a holder in SERVICE restarts, that of an ISOLATED one does not; where no holder is ISOLATING,
the stock condition is then the one the records give. What a guard raised in SERVICE hands on, with the selector in NONE,
the condition UNKNOWN and the main idle (R18, R19, R93): the inlet, or for AT LOW the outlet, standing OPEN is driven
closed by a protective close, the RECEIVE with CLOSE that flows into the holder goes to CLOSING, GUARD-END with CROWN
GUARD, and joins that close, and the HOLDER GUARD notice is placed. -/
def Obligations.LiftReadingsAreJudged : Prop :=
  (∀ (x : HolderSettings) (raised : Bool) (n : Nat),
    (x.crownStop ≤ n → crownAfter x raised n = true) ∧
    (n + x.margin < x.crownStop → crownAfter x raised n = false) ∧
    (n < x.crownStop → x.crownStop ≤ n + x.margin → crownAfter x raised n = raised) ∧
    (n ≤ x.lowStop → lowAfter x raised n = true) ∧
    (x.lowStop + x.margin < n → lowAfter x raised n = false) ∧
    (x.lowStop < n → n ≤ x.lowStop + x.margin → lowAfter x raised n = raised)) ∧
  (∀ (h : HolderId) (w : BitVec 32) (s : State), s.backlog = [] →
    let x := s.settings.holders[h]
    let old := s.holder h
    let n := w.toNat
    ((s.control.phase = .setup ∨ x.configured = false ∨ old.state = .fault) →
      exec (.liftReading h w) s = .next s) ∧
    (s.control.phase = .run → x.configured = true → old.state ≠ .fault → n ≤ x.capacity →
      let taken := s.putHolder h { old with
        content := some n, sinceReading := some 0,
        silence := if old.state = .isolated then old.silence else some x.silence,
        atCrown := crownAfter x old.atCrown n, atLow := lowAfter x old.atLow n }
      ∃ t, exec (.liftReading h w) s = .next t ∧ Kept0 taken t ∧
        (old.state ≠ .isolating → t.holder h = taken.holder h) ∧
        ((∀ k, (s.holder k).state ≠ .isolating) → t.stock.condition = taken.conditionNow))) ∧
  (∀ (h : HolderId) (w : BitVec 32) (s : State), s.atRest → s.control.phase = .run →
    s.settings.holders[h].configured = true → (s.holder h).state = .service →
    w.toNat ≤ s.settings.holders[h].capacity → s.selector.state = .noHolder → s.selector.change = none →
    s.stock.condition = .unknown → s.valves.main = .idle → s.valves.protect = [] → s.valves.queue = [] →
    s.link.queue.length < 32 →
    let x := s.settings.holders[h]
    let old := s.holder h
    let n := w.toNat
    let taken := s.putHolder h { old with
      content := some n, sinceReading := some 0, silence := some x.silence,
      atCrown := crownAfter x old.atCrown n, atLow := lowAfter x old.atLow n }
    let driven (v : ValveId) (rs : List Requester) : ValveUnit :=
      { (s.putValve v { s.valve v with position := .movingClosed }).valves with
        main := .driving { valve := v, target := .closed, requesters := rs, protective := true } s.settings.travel[v] }
    let open_ (v : ValveId) := (s.valve v).position = .opened ∧ (s.valve v).shown ≠ some .closed
    let told (g : Guard) := s.link.notices ++ [Notice.holderGuard h g true n]
    taken.conditionNow = .unknown →
    (old.atCrown = false → x.crownStop ≤ n → lowAfter x old.atLow n = old.atLow → open_ (inletValve h) →
      ((s.valve (inletValve h)).claim = .unclaimed → (∀ c, (s.channel c).current = none) →
        ∃ t, exec (.liftReading h w) s = .next t ∧ t.stock = taken.stock ∧ t.valves = driven (inletValve h) [] ∧
          t.channels = s.channels ∧ t.link.notices = told .crown) ∧
      (∀ c k, (s.valve (inletValve h)).claim = .channel c → (s.valve (inletValve h)).fault = .noFault →
        (s.channel c).current = some k → (s.channel c.other).current = none → (s.channel c).state = .running →
        s.holdsPin c = false → (s.order k).status = .flowing → (s.order k).order.kind = some .receive →
        (s.order k).order.dest = some h → (s.order k).order.disposition = some .close →
        ∃ t, exec (.liftReading h w) s = .next t ∧ t.stock = taken.stock ∧
          t.valves = driven (inletValve h) [.channel c] ∧ t.order k = { s.order k with status := .closing } ∧
          t.channel c = { s.channel c with
            ending := some (.guardEnd, .crownGuard), pathTimer := none, limitTimer := none, waitTimer := none,
            pathWait := .nothing, work := [{ valve := inletValve h, kind := .close, wait := .answer }] } ∧
          t.link.notices = told .crown)) ∧
    (old.atLow = false → n ≤ x.lowStop → crownAfter x old.atCrown n = old.atCrown → open_ (outletValve h) →
      (s.valve (outletValve h)).claim = .selector → (∀ c, (s.channel c).current = none) →
      ∃ t, exec (.liftReading h w) s = .next t ∧ t.stock = taken.stock ∧ t.valves = driven (outletValve h) [] ∧
        t.channels = s.channels ∧ t.link.notices = told .low))

/-- A reading above the capacity puts the holder in FAULT with cause LIFT RANGE, and a due silence timer one in SERVICE or
ISOLATING in FAULT with cause LIFT SILENT: its content becomes UNKNOWN and its timer stops (R16, R21, R22). A silence
timer that is not due, or a holder in another state, changes nothing (log 1). That a reading above the capacity leaves the
age of the last reading as it stood is the model's choice (log 9). -/
def Obligations.HolderFaultsAreEntered : Prop :=
  ∀ (h : HolderId) (w : BitVec 32) (s : State), s.backlog = [] →
    let old := s.holder h
    let faulted (cause : HolderFault) := s.putHolder h { old with
      state := .fault, cause := some cause, content := none, silence := none, closeWait := .nothing }
    (s.control.phase = .run → s.settings.holders[h].configured = true → old.state ≠ .fault →
      s.settings.holders[h].capacity < w.toNat →
      ∃ t, exec (.liftReading h w) s = .next t ∧ Kept (faulted .liftRange) t) ∧
    (s.control.phase = .run → old.silence = some 0 → (old.state = .service ∨ old.state = .isolating) →
      ∃ t, exec (.liftSilenceExpiry h) s = .next t ∧ Kept (faulted .liftSilent) t) ∧
    ((s.control.phase = .setup ∨ old.silence ≠ some 0 ∨ old.state = .isolated ∨ old.state = .fault) →
      exec (.liftSilenceExpiry h) s = .next s)

/-- ISOLATE HOLDER's replies that change nothing, in their order (R24). An ISOLATE HOLDER that passes its checks (R25,
R26): OK where both valves stand CLOSED, and then, with no request in the move queue, the holder is ISOLATED; else
ACCEPTED. With the selector in NONE, the condition UNKNOWN, the main idle, the outlet CLOSED, the inlet OPEN and unclaimed
(R25: the checks have found it so), the holder is ISOLATING, its inlet claimed by the isolation and driven closed for it. -/
def Obligations.IsolateHolderRefusesOrIsTaken : Prop :=
  (∀ (tag n : Byte) (s : State), s.free →
    let reply (k : Status) := exec (.isolateHolder tag [n]) s = .next (s.answered 10 tag k.body)
    (numberOf 4 n.toNat = none → reply .badField) ∧
    ∀ h, numberOf 4 n.toNat = some h →
      let named := s.namedBy .a h = true ∨ s.namedBy .b h = true
      let valveFault := (s.valve (inletValve h)).fault ≠ .noFault ∨ (s.valve (outletValve h)).fault ≠ .noFault
      let claimed := (s.valve (inletValve h)).claim ≠ .unclaimed ∧ (s.valve (inletValve h)).claim ≠ .selector
      let changing := ∃ ch, s.selector.change = some ch ∧ (ch.old = some h ∨ ch.new = some h)
      let alone := s.selector.current = some h ∧ (s.stock.condition = .unknown ∨ s.decode (some h) = none)
      (s.settings.holders[h].configured = false → reply .noSuch) ∧
      (s.settings.holders[h].configured = true → s.control.phase = .setup → reply .wrongPhase) ∧
      (s.settings.holders[h].configured = true → s.control.phase = .run →
        ((s.holder h).state = .fault → reply .faulted) ∧
        ((s.holder h).state = .isolated ∨ (s.holder h).state = .isolating → reply .ok) ∧
        ((s.holder h).state = .service →
          (named → reply .inUse) ∧
          (¬named → valveFault → reply .faulted) ∧
          (¬named → ¬valveFault → claimed → reply .inUse) ∧
          (¬named → ¬valveFault → ¬claimed → changing → reply .inUse) ∧
          (¬named → ¬valveFault → ¬claimed → ¬changing → alone → reply .noAlternative)))) ∧
  (∀ (tag n : Byte) (s : State) (h : HolderId), s.free → numberOf 4 n.toNat = some h →
    s.settings.holders[h].configured = true → s.control.phase = .run → (s.holder h).state = .service →
    isolateCheck h s = .ok →
    (s.bothClosed h = true → ∃ t, exec (.isolateHolder tag [n]) s = .next t ∧
      t.link.reply = some { kind := 0x4A#8, tag := tag, body := [0x00#8] } ∧ t.settings = s.settings ∧
      (s.valves.queue = [] →
        t.holder h = { s.holder h with state := .isolated, silence := none, closeWait := .nothing })) ∧
    (s.bothClosed h = false → ∃ t, exec (.isolateHolder tag [n]) s = .next t ∧
      t.link.reply = some { kind := 0x4A#8, tag := tag, body := [0x01#8] } ∧ t.settings = s.settings ∧
      ∀ k, (t.holder k).content = (s.holder k).content) ∧
    (s.atRest → s.selector.state = .noHolder → s.stock.condition = .unknown → s.valves.main = .idle →
      s.valves.protect = [] → s.valves.queue = [] → s.valves.refused = [] →
      (s.valve (outletValve h)).position = .closed → (s.valve (inletValve h)).position = .opened →
      (s.valve (inletValve h)).shown ≠ some .closed → (s.valve (inletValve h)).claim = .unclaimed →
      let v := inletValve h
      let isolating := (s.putHolder h { s.holder h with state := .isolating, closeWait := .answer }).putValve v
        { s.valve v with claim := .isolation h, position := .movingClosed }
      exec (.isolateHolder tag [n]) s = .next ((isolating.putValves { isolating.valves with
        main := .driving { valve := v, target := .closed, requesters := [.isolation h], protective := false }
          s.settings.travel[v] }).answered 10 tag Status.accepted.body)))

/-- RETURN HOLDER and CLEAR HOLDER FAULT (R23, R27): the refusals; and the holder back in SERVICE, its silence timer
started, with the content it had in ISOLATED, or with an UNKNOWN content after FAULT. -/
def Obligations.HoldersReturnToService : Prop :=
  ∀ (tag n : Byte) (s : State), s.free →
    let back (k : Status) := exec (.returnHolder tag [n]) s = .next (s.answered 11 tag k.body)
    let clear (k : Status) := exec (.clearHolderFault tag [n]) s = .next (s.answered 12 tag k.body)
    (numberOf 4 n.toNat = none → back .badField ∧ clear .badField) ∧
    ∀ h, numberOf 4 n.toNat = some h →
      (s.settings.holders[h].configured = false → back .noSuch ∧ clear .noSuch) ∧
      (s.settings.holders[h].configured = true → s.control.phase = .setup → back .wrongPhase ∧ clear .wrongPhase) ∧
      (s.settings.holders[h].configured = true → s.control.phase = .run →
        ((s.holder h).state = .fault → back .faulted) ∧ ((s.holder h).state ≠ .fault → clear .ok) ∧
        ((s.holder h).state = .isolating → back .inUse) ∧ ((s.holder h).state = .service → back .ok) ∧
        ((s.holder h).state = .isolated → ∃ t, exec (.returnHolder tag [n]) s = .next t ∧
          Kept ((s.putHolder h { s.holder h with
            state := .service, silence := some s.settings.holders[h].silence }).answered 11 tag Status.ok.body) t) ∧
        ((s.holder h).state = .fault → ∃ t, exec (.clearHolderFault tag [n]) s = .next t ∧
          Kept ((s.putHolder h { s.holder h with
            state := .service, cause := none, content := none, sinceReading := none,
            silence := some s.settings.holders[h].silence }).answered 12 tag Status.ok.body) t))

/-- SET LADDER (R30, R31): BAD FIELD unless the lines ascend, FROZEN for a change after FREEZE; else the lines are
replaced, and where the condition stays as it is nothing else changes. The reserve release (R32, R33): RELEASE
RESERVE is refused out of 15 to 240 minutes and in SETUP, and else sets the timer to the duration, a release that is
active being told to nobody; WITHDRAW RELEASE and the expiry of a due timer end it, the expiry with its notice; on
an inactive release WITHDRAW RELEASE gives OK and changes nothing. That the minutes take two bytes is the model's choice
(log 8). That an expiry which is not due, or comes in SETUP,
changes nothing is the model's choice (log 1). -/
def Obligations.LadderAndRelease : Prop :=
  (∀ (tag : Byte) (body : List Byte) (s : State), s.free → body.length = 6 →
    let new : Ladder := { critical := field body 0 2, reserve := field body 2 2, crown := field body 4 2 }
    let ascends := new.critical ≤ new.reserve ∧ new.reserve ≤ new.crown
    let locked := s.control.frozen = true ∧ new ≠ s.settings.ladder
    let stored := s.putSettings { s.settings with ladder := new }
    let refusal (k : Status) := exec (.setLadder tag body) s = .next (s.answered 13 tag k.body)
    (¬ascends → refusal .badField) ∧ (ascends → locked → refusal .frozen) ∧
    (ascends → ¬locked →
      (∃ t, exec (.setLadder tag body) s = .next t ∧ Kept0 (stored.answered 13 tag Status.ok.body) t) ∧
      ((s.control.phase = .setup ∨ stored.conditionNow = s.stock.condition) →
        exec (.setLadder tag body) s = .next (stored.answered 13 tag Status.ok.body)))) ∧
  (∀ (tag : Byte) (body : List Byte) (s : State), s.free →
    (body.length = 2 →
      let m := field body 0 2
      let inRange := 15 ≤ m ∧ m ≤ 240
      let released := (s.putStock { s.stock with release := some (m * 60) }).answered 14 tag Status.ok.body
      (¬inRange → exec (.releaseReserve tag body) s = .next (s.answered 14 tag Status.badField.body)) ∧
      (inRange → s.control.phase = .setup →
        exec (.releaseReserve tag body) s = .next (s.answered 14 tag Status.wrongPhase.body)) ∧
      (inRange → s.control.phase = .run → s.stock.release ≠ none →
        exec (.releaseReserve tag body) s = .next released) ∧
      (inRange → s.control.phase = .run → s.stock.release = none →
        ∃ t, exec (.releaseReserve tag body) s = .next t ∧ Kept released t)) ∧
    let ended := s.putStock { s.stock with release := none }
    (s.control.phase = .setup →
      exec (.withdrawRelease tag []) s = .next (s.answered 15 tag Status.wrongPhase.body)) ∧
    (s.control.phase = .run → s.stock.release = none →
      exec (.withdrawRelease tag []) s = .next (s.answered 15 tag Status.ok.body)) ∧
    (s.control.phase = .run → s.stock.release ≠ none →
      ∃ t, exec (.withdrawRelease tag []) s = .next t ∧ Kept (ended.answered 15 tag Status.ok.body) t) ∧
    (s.control.phase = .run → s.stock.release = some 0 →
      ∃ t, exec .releaseExpired s = .next t ∧ Kept (ended.notify .releaseExpired) t) ∧
    ((s.control.phase = .setup ∨ s.stock.release ≠ some 0) → exec .releaseExpired s = .next s))

/-! ## Send-out selection (R37 to R56) -/

/-- The decode gives the holder of the first entry, in table order, that is enabled, of a class that is eligible, with the
stock inside its window and its holder usable and not excluded; NONE where no entry gives one (R39). A holder is usable
where it is configured, in SERVICE, not AT LOW, with no fault on its outlet, and not the destination of a TRANSFER reported
as current (R38). -/
def Obligations.DecodeTakesTheFirstEntry : Prop :=
  (∀ (s : State) (h : HolderId), s.usable h = true ↔
    s.settings.holders[h].configured = true ∧ (s.holder h).state = .service ∧ (s.holder h).atLow = false ∧
      (s.valve (outletValve h)).fault = .noFault ∧ ∀ c, (s.channel c).reported ≠ some h) ∧
  ∀ (s : State) (except : Option HolderId),
    let gives (e : EntryId) : Prop :=
      let x := s.settings.supply[e]
      x.low ≤ x.high ∧ (x.cls = .ordinary ∨ s.stock.release ≠ none ∨ s.stock.condition = .critical) ∧
        x.low * 1000 ≤ s.yardStock ∧ s.yardStock ≤ x.high * 1000 + 999 ∧ s.usable x.holder = true ∧
        except ≠ some x.holder
    (∀ h, s.decode except = some h ↔
      ∃ e, gives e ∧ s.settings.supply[e].holder = h ∧ ∀ f : EntryId, f.val < e.val → ¬gives f) ∧
    (s.decode except = none ↔ ∀ e, ¬gives e)

/-- A due dwell timer expires into a re-decode trigger (R50): where the decode gives the current holder, nothing is
left pending and nothing else changes; where it gives another in STEADY, with no pin, the notice of a DECODED
changeover is placed. A timer that is not due changes nothing (log 1). -/
def Obligations.DwellExpiryDecodes : Prop :=
  ∀ s : State, s.atRest →
    let stopped := s.putSelector { s.selector with dwell := none }
    ((s.control.phase = .setup ∨ s.selector.dwell ≠ some 0) → exec .dwellExpiry s = .next s) ∧
    (s.control.phase = .run → s.selector.dwell = some 0 →
      (∃ t, exec .dwellExpiry s = .next t ∧ Kept stopped t) ∧
      ∀ c, s.selector.state = .steady → s.selector.current = some c → s.stock.condition ≠ .unknown →
        (s.decode none = some c → exec .dwellExpiry s = .next
          (s.putSelector { s.selector with dwell := none, waiting := none, lastDecode := some (some c) })) ∧
        (∀ n, s.decode none = some n → n ≠ c → s.selector.pin = none →
          ∃ t, exec .dwellExpiry s = .next t ∧
            Kept (stopped.notify (.changeoverBegun .decoded (some c) (some n))) t))

/-- A changeover from its beginning to its end, the main driving nothing else (R42, R44, R45, R52). At a due dwell a decode
of another holder begins one: the new outlet, CLOSED, is driven open. When it reports OPEN, the one outlet of the closing
set, standing OPEN, is driven closed. When that reports CLOSED, with the condition UNKNOWN and the new holder usable, the
changeover ends COMPLETE: the new holder is current and the dwell starts. A DIRECTED one then grants its pin to the channel
it serves, whose TRANSFER goes from WAIT-PATH to OPENING and has HkIN, CLOSED, driven open (R84, R86). -/
def Obligations.ChangeoversBeginAndEnd : Prop :=
  ∀ (old new : HolderId) (s : State), s.atRest → s.control.phase = .run → s.selector.current = some old → old ≠ new →
    s.valves.protect = [] → s.valves.queue = [] → s.valves.refused = [] → s.link.queue.length < 32 →
    let drive (v : ValveId) (t : Limit) (r : Requester) : Drive :=
      { valve := v, target := t, requesters := [r], protective := false }
    let held (v : ValveId) := (s.valve v).claim = .selector ∧ (s.valve v).fault = .noFault
    let out := outletValve new
    (s.selector.state = .steady → s.selector.pin = none → s.selector.dwell = some 0 → s.stock.condition ≠ .unknown →
      s.decode none = some new → held out → (s.valve out).position = .closed → (s.valve out).shown ≠ some .opened →
      s.valves.main = .idle →
      ∃ t : State, exec .dwellExpiry s = .next t ∧
        t.selector = { s.selector with
          state := .changeover, waiting := none, dwell := none, lastDecode := some (some new)
          change := some { kind := .decoded, old := some old, new := some new, closing := [toClose old],
                           step := .openingNew, serves := none, openWait := .answer } } ∧
        t.valves = { (s.putValve out { s.valve out with position := .movingOpen }).valves with
          main := .driving (drive out .opened .selector) s.settings.travel[out] } ∧
        t.link.notices = s.link.notices ++ [.changeoverBegun .decoded (some old) (some new)] ∧
        t.stock = s.stock ∧ t.channels = s.channels) ∧
    (∀ ch left, s.selector.change = some ch → ch.new = some new → ch.step = .openingNew → ch.closing = [toClose old] →
      s.usable new = true → held out → held (outletValve old) → (s.valve (outletValve old)).position = .opened →
      (s.valve (outletValve old)).shown ≠ some .closed → s.valves.main = .driving (drive out .opened .selector) left →
      let v := outletValve old
      let s1 := (s.putValve out { s.valve out with openMade := true, position := .opened }).putValve v
        { s.valve v with position := .movingClosed }
      exec (.limitSwitch out .opened) s = .next ((s1.putValves { s1.valves with
        main := .driving (drive v .closed .selector) s.settings.travel[v] }).putChange { ch with
          step := .closingOld, openWait := .unasked, closing := [{ holder := old, st := .waiting .answer }] })) ∧
    (∀ ch left, s.selector.change = some ch → ch.new = some new → ch.old = some old → ch.step = .closingOld →
      ch.closing = [{ holder := old, st := .waiting .answer }] → s.usable new = true → s.stock.condition = .unknown →
      (s.holder old).state ≠ .isolating → held (outletValve old) →
      s.valves.main = .driving (drive (outletValve old) .closed .selector) left →
      let v := outletValve old
      let closed := s.putValve v { s.valve v with closedMade := true, position := .closed }
      let after : Selector := { s.selector with
        state := .steady, current := some new, change := none, dwell := some s.settings.dwell }
      (ch.kind = .decoded → (∀ c, s.pathWaits .pin c = false) →
        exec (.limitSwitch v .closed) s = .next (((closed.putValves { closed.valves with main := .idle }).putSelector
          after).notify (.changeoverDone .decoded (some old) (some new) .complete))) ∧
      (∀ c n h, ch.kind = .directed → ch.serves = some c → s.pathWaits .pin c = true →
        s.pathWaits .pin c.other = false → (s.channel c).current = some n → (s.channel c).work = [] →
        (s.order n).order.kind = some .transfer → (s.order n).order.dest = some h →
        (s.valve (inletValve h)).claim = .channel c → (s.valve (inletValve h)).fault = .noFault →
        (s.valve (inletValve h)).position = .closed → (s.valve (inletValve h)).shown ≠ some .opened →
        let w := inletValve h
        let s1 := (closed.putValve w { s.valve w with position := .movingOpen }).putSelector { after with
          pin := some { channel := c, holder := new } }
        let s2 := (s1.putOrder n { s.order n with status := .opening }).putChannel c { s.channel c with
          pathTimer := none, pathWait := .nothing, work := [{ valve := w, kind := .move, wait := .answer }] }
        exec (.limitSwitch v .closed) s = .next ((s2.putValves { s2.valves with
          main := .driving (drive w .opened (.channel c)) s.settings.travel[w] }).notify
            (.changeoverDone .directed (some old) (some new) .complete))))

/-! ## Valves and the actuator main (R5, R57 to R76) -/

/-- MOVE VALVE's replies that change nothing, in their order (R73, R61): BAD FIELD, WRONG PHASE, YARD STOPPED, IN
USE, CONTRACT SPENT (R170), FAULTED, PROTECTED, and OK for an unqueued, undriven valve that stands at the target. A MOVE
VALVE that makes a new entry (R61, R63, R67, R68): with the main driving another valve it joins the tail of the
queue; with the part at rest and the main idle it is driven at once, its travel timer started. -/
def Obligations.MoveValveIsAnswered : Prop :=
  (∀ (tag a b : Byte) (s : State), s.free →
    let reply (k : Status) := exec (.moveValve tag [a, b]) s = .next (s.answered 20 tag k.body)
    ((numberOf 20 a.toNat = none ∨ limitOf b.toNat = none) → reply .badField) ∧
    ∀ v t, numberOf 20 a.toNat = some v → limitOf b.toNat = some t →
      let stopped := t = .opened ∧ s.control.stopAsserted = true
      let spent := t = .opened ∧ s.accounts.cut = true ∧ ∃ x, s.settings.source = some x ∧ sourceValve x = v
      (s.control.phase = .setup → reply .wrongPhase) ∧
      (s.control.phase = .run →
        (stopped → reply .yardStopped) ∧
        (¬stopped → (s.valve v).claim ≠ .unclaimed → reply .inUse) ∧
        (¬stopped → (s.valve v).claim = .unclaimed → spent → reply .contractSpent) ∧
        (¬stopped → (s.valve v).claim = .unclaimed → ¬spent →
          ((s.valve v).fault ≠ .noFault → reply .faulted) ∧
          ((s.valve v).fault = .noFault →
            (t = .opened → s.shielded v = true → reply .isProtected) ∧
            (s.shielded v = false → s.driven v = false → s.queueEntry v = none →
              (s.valve v).position = limitPosition t → reply .ok))))) ∧
  (∀ (tag a b : Byte) (s : State) (v : ValveId) (t : Limit), s.free → s.atRest →
    numberOf 20 a.toNat = some v → limitOf b.toNat = some t → s.control.phase = .run →
    s.control.stopAsserted = false → s.accounts.cut = false → (s.valve v).claim = .unclaimed →
    (s.valve v).fault = .noFault → s.valves.protect = [] → (s.valve v).position ≠ limitPosition t →
    (∀ d left, s.valves.main = .driving d left → d.valve ≠ v → s.queueEntry v = none →
      placesFull s.valves.queue .manual = false →
      exec (.moveValve tag [a, b]) s = .next ((s.putValves { s.valves with
        queue := s.valves.queue ++ [{ valve := v, target := t, requesters := [.host] }] }).answered 20 tag
          Status.accepted.body)) ∧
    (s.valves.main = .idle → s.valves.queue = [] → s.valves.refused = [] → (s.valve v).shown ≠ some t →
      let moving : Position := if t = .opened then .movingOpen else .movingClosed
      exec (.moveValve tag [a, b]) s = .next (((s.putValve v { s.valve v with position := moving }).putValves
        { (s.putValve v { s.valve v with position := moving }).valves with
          main := .driving { valve := v, target := t, requesters := [.host], protective := false }
            s.settings.travel[v] }).answered 20 tag Status.accepted.body)))

/-- CLEAR VALVE FAULT (R74): BAD FIELD out of range; a valve with no fault changes nothing; else the fault becomes
NONE, and in SETUP nobody is told and nothing else changes. The breaking of a switch changes the switch record and
nothing else, and in SETUP the making of one too (R5). In RUN, a switch of the valve being driven that does not
match the target is recorded and no more (R69); for a valve not being driven it gives an UNKNOWN position, is
recorded where it agrees, and gives the fault DISAGREE where it disagrees (R71). -/
def Obligations.SwitchesAndFaultsAreRecorded : Prop :=
  (∀ (tag n : Byte) (s : State), s.free →
    (numberOf 20 n.toNat = none →
      exec (.clearValveFault tag [n]) s = .next (s.answered 22 tag Status.badField.body)) ∧
    ∀ v, numberOf 20 n.toNat = some v →
      let cleared := s.putValve v { s.valve v with fault := .noFault }
      ((s.valve v).fault = .noFault →
        exec (.clearValveFault tag [n]) s = .next (s.answered 22 tag Status.ok.body)) ∧
      (s.control.phase = .setup → (s.valve v).fault ≠ .noFault →
        exec (.clearValveFault tag [n]) s = .next (cleared.answered 22 tag Status.ok.body)) ∧
      (s.control.phase = .run → (s.valve v).fault ≠ .noFault →
        ∃ t, exec (.clearValveFault tag [n]) s = .next t ∧ Kept (cleared.answered 22 tag Status.ok.body) t)) ∧
  (∀ (v : ValveId) (w : Limit) (s : State), s.backlog = [] →
    let record (made : Bool) (x : Valve) : Valve :=
      if w = .opened then { x with openMade := made } else { x with closedMade := made }
    let made := s.putValve v (record true (s.valve v))
    exec (.limitSwitchBreak v w) s = .next (s.putValve v (record false (s.valve v))) ∧
    (s.control.phase = .setup → exec (.limitSwitch v w) s = .next made) ∧
    (s.control.phase = .run →
      (∀ d left, s.valves.main = .driving d left → d.valve = v →
        (d.target ≠ w → exec (.limitSwitch v w) s = .next made) ∧
        (d.target = w → ∃ t, exec (.limitSwitch v w) s = .next t ∧ Kept made t)) ∧
      (s.driven v = false →
        ((s.valve v).position = .unknown → exec (.limitSwitch v w) s
          = .next (s.putValve v { record true (s.valve v) with position := limitPosition w })) ∧
        ((s.valve v).position = limitPosition w → exec (.limitSwitch v w) s = .next made) ∧
        ((s.valve v).position ≠ .unknown → (s.valve v).position ≠ limitPosition w →
          ∃ t, exec (.limitSwitch v w) s = .next t ∧
            Kept (s.putValve v { record true (s.valve v) with
              fault := .disagree, position := limitPosition w }) t))))

/-- A drive of a valve numbered 9 or more that nobody claims, asked by the host, with nothing waiting (R69, R70): the
matching switch completes it, the position being the target; a due travel timer ends it STUCK at UNKNOWN with its
notice; the main is idle after either. A timer that is not due changes nothing (log 1). A due travel timer ends any
drive STUCK, whatever follows from it; with the main not driving its expiry changes nothing (R70; log 1). The end of the
drive that opens TDEL for a TRANSFER in OPENING, its pin held and its other path valves OPEN: the order is FLOWING with the
booster run signal on (R86, R87). -/
def Obligations.DrivesEnd : Prop :=
  (∀ (d : Drive) (left : Nat) (s : State), s.atRest → s.control.phase = .run → s.valves.main = .driving d left →
    (left ≠ 0 → exec .travelTimerExpiry s = .next s) ∧
    (d.requesters = [.host] → (s.valve d.valve).claim = .unclaimed → 8 ≤ d.valve.val → s.valves.protect = [] →
      s.valves.queue = [] →
      (∀ record : Valve,
        record = (if d.target = .opened then { s.valve d.valve with openMade := true, position := .opened }
          else { s.valve d.valve with closedMade := true, position := .closed }) →
        exec (.limitSwitch d.valve d.target) s = .next ((s.putValve d.valve record).putValves
          { (s.putValve d.valve record).valves with main := .idle })) ∧
      (left = 0 →
        let stuck := s.putValve d.valve { s.valve d.valve with position := .unknown, fault := .stuck }
        exec .travelTimerExpiry s = .next ((stuck.putValves { stuck.valves with main := .idle }).notify
          (.valveFault d.valve .stuck .unknown (some d.target)))))) ∧
  (∀ s : State, s.backlog = [] →
    (∀ d, s.valves.main = .driving d 0 →
      ∃ t, exec .travelTimerExpiry s = .next t ∧
        Kept (s.putValve d.valve { s.valve d.valve with position := .unknown, fault := .stuck }) t) ∧
    (s.valves.main = .idle → exec .travelTimerExpiry s = .next s)) ∧
  (∀ (c : ChannelId) (n : OrderId) (h : HolderId) (left : Nat) (s : State), s.atRest → s.control.phase = .run →
    (s.channel c).current = some n → (s.order n).status = .opening → (s.order n).order.kind = some .transfer →
    (s.order n).order.dest = some h → s.holdsPin c = true →
    (s.channel c).work = [{ valve := deliveryValve, kind := .move, wait := .answer }] →
    (∀ v ∈ [inletValve h, deliveryValve, suctionValve], (s.valve v).claim = .channel c ∧ (s.valve v).fault = .noFault) →
    (s.valve (inletValve h)).position = .opened → (s.valve suctionValve).position = .opened →
    s.valves.main = .driving { valve := deliveryValve, target := .opened, requesters := [.channel c],
                               protective := false } left →
    s.valves.protect = [] → s.valves.queue = [] →
    let opened := s.putValve deliveryValve { s.valve deliveryValve with openMade := true, position := .opened }
    exec (.limitSwitch deliveryValve .opened) s = .next ((((opened.putValves { opened.valves with main := .idle }
      ).putOrder n { s.order n with status := .flowing }).putChannel c { s.channel c with
        pathTimer := none, pathWait := .nothing, work := [] }).setBooster true))

/-! ## Order slots (R77 to R79, R183) -/

/-- LOAD ORDER (R78, R183): each kind is stored LOADED with the fields it uses, the others absent, and a current
slot is refused with IN USE. What LOAD ORDER refuses with BAD FIELD, changing nothing (R78). -/
def Obligations.LoadOrderStoresOrRefuses : Prop :=
  (∀ (tag : Byte) (body : List Byte) (n : OrderId) (s : State), s.free → body.length = 15 →
    slotOf (field body 0 1) = some n →
    let kind := field body 1 1
    let target := field body 6 4
    let force := bitOf (field body 13 1) 0
    let base (k : OrderKind) (next : Option OrderId) : Order :=
      { kind := some k, dest := none, src := none, source := none, form := none, target := 0,
        timeLimit := field body 10 2, disposition := none, forceSource := force,
        continueOnError := bitOf (field body 13 1) 1, notify := bitOf (field body 13 1) 2, next := next }
    let loads (o : Order) := exec (.loadOrder tag body) s = .next ((s.putOrder n
      { order := o, status := .loaded, endCause := none, counted := 0, endContent := none }).answered 23 tag
        Status.ok.body)
    (s.isCurrent n = true → 1 ≤ kind → kind ≤ 5 → field body 12 1 ≤ 2 → field body 5 1 ≤ 2 →
      exec (.loadOrder tag body) s = .next (s.answered 23 tag Status.inUse.body)) ∧
    (s.isCurrent n = false → ∀ next, nextOf (field body 14 1) = some next →
      (∀ h k, kind = 1 → force = false → numberOf 4 (field body 2 1) = some h →
        s.settings.holders[h].configured = true → dispositionOf (field body 12 1) = some k →
        target ≤ s.settings.holders[h].crownStop →
        loads { base .receive next with dest := some h, target := target, disposition := some k }) ∧
      (∀ h m k, kind = 2 → numberOf 4 (field body 2 1) = some h → numberOf 4 (field body 3 1) = some m →
        s.settings.holders[h].configured = true → s.settings.holders[m].configured = true → h ≠ m →
        dispositionOf (field body 12 1) = some k → target ≠ 0 →
        loads { base .transfer next with dest := some h, src := some m, target := target, disposition := some k }) ∧
      (∀ x, kind = 3 → force = false → numberOf 4 (field body 4 1) = some x →
        loads { base .admitSource next with source := some x }) ∧
      (∀ x, kind = 4 → force = false → numberOf 4 (field body 4 1) = some x →
        loads { base .cut next with source := some x }) ∧
      (kind = 5 → force = false → field body 5 1 = 1 → target ≤ 1439 →
        loads { base .wait next with form := some .minute, target := target }) ∧
      (kind = 5 → force = false → field body 5 1 = 2 → 1 ≤ target → target ≤ 65535 →
        loads { base .wait next with form := some .duration, target := target }))) ∧
  (∀ (tag : Byte) (body : List Byte) (s : State), s.free → body.length = 15 →
    let kind := field body 1 1
    let target := field body 6 4
    let force := bitOf (field body 13 1) 0
    let refused := exec (.loadOrder tag body) s = .next (s.answered 23 tag Status.badField.body)
    (slotOf (field body 0 1) = none → refused) ∧
    ∀ n, slotOf (field body 0 1) = some n → s.isCurrent n = false →
      (kind = 0 ∨ 5 < kind → refused) ∧ (nextOf (field body 14 1) = none → refused) ∧
      (force = true → kind ≠ 2 → refused) ∧
      (kind = 1 ∨ kind = 2 → numberOf 4 (field body 2 1) = none → refused) ∧
      (∀ h, kind = 1 ∨ kind = 2 → numberOf 4 (field body 2 1) = some h →
        s.settings.holders[h].configured = false → refused) ∧
      (kind = 2 → numberOf 4 (field body 3 1) = none → refused) ∧
      (∀ m, kind = 2 → numberOf 4 (field body 3 1) = some m → s.settings.holders[m].configured = false → refused) ∧
      (kind = 2 → field body 2 1 = field body 3 1 → refused) ∧
      (∀ h, kind = 1 → numberOf 4 (field body 2 1) = some h → s.settings.holders[h].crownStop < target → refused) ∧
      (kind = 2 → target = 0 → refused) ∧
      (kind = 3 ∨ kind = 4 → numberOf 4 (field body 4 1) = none → refused) ∧
      (kind = 5 → field body 5 1 = 1 → 1439 < target → refused) ∧
      (kind = 5 → field body 5 1 = 2 → target = 0 → refused))

/-- LINK ORDER replaces the next field and nothing else; CLEAR ORDER makes a slot that is not current EMPTY (R79). -/
def Obligations.LinkAndClearOrders : Prop :=
  ∀ (tag a b : Byte) (s : State), s.free →
    (exec (.linkOrder tag [a, b]) s = .next (match slotOf a.toNat, nextOf b.toNat with
      | some n, some next =>
        if (s.order n).status = .empty then s.answered 24 tag Status.noSuch.body
        else (s.putOrder n { s.order n with order := { (s.order n).order with next := next } }).answered 24 tag
          Status.ok.body
      | _, _ => s.answered 24 tag Status.badField.body)) ∧
    (exec (.clearOrder tag [a]) s = .next (match slotOf a.toNat with
      | some n =>
        if (s.channel .a).current = some n ∨ (s.channel .b).current = some n then s.answered 25 tag Status.inUse.body
        else (s.putOrder n OrderSlot.empty).answered 25 tag Status.ok.body
      | none => s.answered 25 tag Status.badField.body))

/-! ## Channels (R80 to R116) -/

/-- START CHAIN's checks in their order (R81); a request that passes is taken with OK. A chain started at a WAIT by
duration: the order is FLOWING at once, its duration running (R81, R82, R87). -/
def Obligations.StartChainChecksAndBegins : Prop :=
  (∀ (tag a b : Byte) (s : State), s.free →
    let reply (k : Status) := exec (.startChain tag [a, b]) s = .next (s.answered 27 tag k.body)
    (channelOf a.toNat = none ∨ slotOf b.toNat = none → reply .badField) ∧
    ∀ c n, channelOf a.toNat = some c → slotOf b.toNat = some n →
      let stopped := s.control.stopAsserted = true
      let open_ := (s.channel c).state = .idle ∨ (s.channel c).state = .halted
      let other := (s.channel c.other).current = some n
      let spent := (s.order n).order.kind = some .admitSource ∧ (s.order n).order.source ≠ none ∧
        s.settings.source = (s.order n).order.source ∧ s.accounts.cut = true
      (s.control.phase = .setup → reply .wrongPhase) ∧
      (s.control.phase = .run →
        (stopped → reply .yardStopped) ∧ (¬stopped → ¬open_ → reply .inUse) ∧
        (¬stopped → open_ → other → reply .inUse) ∧
        (¬stopped → open_ → ¬other → (s.order n).status ≠ .loaded → reply .noSuch) ∧
        (¬stopped → open_ → ¬other → (s.order n).status = .loaded → spent → reply .contractSpent) ∧
        (¬stopped → open_ → ¬other → (s.order n).status = .loaded → ¬spent →
          ∃ t, exec (.startChain tag [a, b]) s = .next t ∧ Kept (s.answered 27 tag Status.ok.body) t))) ∧
  (∀ (tag a b : Byte) (c : ChannelId) (n : OrderId) (s : State), s.free → s.atRest → channelOf a.toNat = some c →
    slotOf b.toNat = some n → s.control.phase = .run → s.control.stopAsserted = false →
    ((s.channel c).state = .idle ∨ (s.channel c).state = .halted) → (s.channel c.other).current ≠ some n →
    (s.order n).status = .loaded → (s.order n).order.kind = some .wait → (s.order n).order.form = some .duration →
    let limit := (s.order n).order.timeLimit
    exec (.startChain tag [a, b]) s = .next
      (((s.putOrder n { s.order n with status := .flowing }).putChannel c { Channel.idle with
        state := .running, current := some n, limitTimer := if limit = 0 then none else some limit,
        waitTimer := some (s.order n).order.target }).answered 27 tag Status.ok.body))

/-- A chain started at a RECEIVE into a holder that is ready, below its target, with its inlet free and CLOSED and the main
idle: the path is claimed, the order is OPENING, and the inlet is driven open for the channel (R81 to R86, R67, R68). -/
def Obligations.StartChainOpensAReceive : Prop :=
  ∀ (tag a b : Byte) (c : ChannelId) (n : OrderId) (h : HolderId) (s : State), s.free → s.atRest →
    channelOf a.toNat = some c → slotOf b.toNat = some n → s.control.phase = .run → s.control.stopAsserted = false →
    ((s.channel c).state = .idle ∨ (s.channel c).state = .halted) → (s.channel c.other).current ≠ some n →
    (s.order n).status = .loaded → (s.order n).order.kind = some .receive → (s.order n).order.dest = some h →
    (s.order n).order.src = none →
    s.settings.holders[h].configured = true → (s.holder h).state = .service → (s.holder h).atCrown = false →
    (∀ m, (s.holder h).content = some m → m < (s.order n).order.target) → s.stock.condition ≠ .crown →
    (s.valve (inletValve h)).claim = .unclaimed → (s.valve (inletValve h)).fault = .noFault →
    (s.valve (inletValve h)).position = .closed → (s.valve (inletValve h)).shown ≠ some .opened →
    s.valves.main = .idle → s.valves.protect = [] → s.valves.queue = [] → s.valves.refused = [] →
    let v := inletValve h
    let limit := (s.order n).order.timeLimit
    let s1 := (s.putOrder n { s.order n with status := .opening }).putChannel c { Channel.idle with
      state := .running, current := some n, limitTimer := if limit = 0 then none else some limit,
      work := [{ valve := v, kind := .move, wait := .answer }] }
    let s2 := s1.putValve v { s.valve v with claim := .channel c, position := .movingOpen }
    exec (.startChain tag [a, b]) s = .next ((s2.putValves { s2.valves with
      main := .driving { valve := v, target := .opened, requesters := [.channel c], protective := false }
        s.settings.travel[v] }).answered 27 tag Status.ok.body)

/-- STOP CHANNEL, mode AFTER (R101): the refusals; OK on a HALTED channel, which becomes IDLE, on a STOPPING one,
which stays as it is, and on a RUNNING or SUSPENDED one, whose stop-after is set. STOP CHANNEL, mode AT ONCE (R101,
R102): the same refusals; on a RUNNING or SUSPENDED channel OK where its order holds no claim and ACCEPTED in every
other case. A WAIT is posted ABORTED with cause STOPPED at once, and the channel is IDLE with its notice, whose reason
STOPPED is the model's inference (log 30). That each command answers BAD FIELD to a body of the other's mode is the
model's choice (log 15). -/
def Obligations.StopChannelStopsTheChain : Prop :=
  (∀ (tag a b : Byte) (s : State), s.free →
    let reply (k : Status) := exec (.stopChannelAfter tag [a, b]) s = .next (s.answered 28 tag k.body)
    (channelOf a.toNat = none ∨ b.toNat ≠ 1 → reply .badField) ∧
    ∀ c, channelOf a.toNat = some c → b.toNat = 1 →
      (s.control.phase = .setup → reply .wrongPhase) ∧
      (s.control.phase = .run →
        ((s.channel c).state = .idle → reply .notRunning) ∧
        ((s.channel c).state = .halted → exec (.stopChannelAfter tag [a, b]) s
          = .next ((s.putChannel c Channel.idle).answered 28 tag Status.ok.body)) ∧
        (∀ y, (s.channel c).state = .stopping y → reply .ok) ∧
        ((s.channel c).state = .running ∨ (s.channel c).state = .suspended →
          exec (.stopChannelAfter tag [a, b]) s
            = .next ((s.putChannel c { s.channel c with stopAfter := true }).answered 28 tag Status.ok.body)))) ∧
  (∀ (tag a b : Byte) (s : State), s.free → s.atRest →
    let reply (k : Status) := exec (.stopChannelAtOnce tag [a, b]) s = .next (s.answered 28 tag k.body)
    (channelOf a.toNat = none ∨ b.toNat ≠ 2 → reply .badField) ∧
    ∀ c, channelOf a.toNat = some c → b.toNat = 2 →
      (s.control.phase = .setup → reply .wrongPhase) ∧
      (s.control.phase = .run →
        ((s.channel c).state = .idle → reply .notRunning) ∧
        ((s.channel c).state = .halted → exec (.stopChannelAtOnce tag [a, b]) s
          = .next ((s.putChannel c Channel.idle).answered 28 tag Status.ok.body)) ∧
        (∀ y, (s.channel c).state = .stopping y → reply .ok) ∧
        ((s.channel c).state = .running ∨ (s.channel c).state = .suspended →
          ∃ t, exec (.stopChannelAtOnce tag [a, b]) s = .next t ∧
            Kept (s.answered 28 tag
              (if (s.claimed (.channel c)).isEmpty then Status.ok else Status.accepted).body) t) ∧
        (∀ n, (s.channel c).state = .running → (s.channel c).current = some n → (s.order n).status = .flowing →
          (s.order n).order.kind = some .wait → (s.order n).order.notify = false → (s.channel c).reported = none →
          s.holdsPin c = false → s.selector.change = none → s.claimed (.channel c) = [] →
          let x := s.order n
          let ended := (s.putOrder n { x with status := .aborted, endCause := some .stopped, endContent := none })
          ∃ t : State, exec (.stopChannelAtOnce tag [a, b]) s = .next (t.answered 28 tag Status.ok.body) ∧
            t.channels = (ended.putChannel c Channel.idle).channels ∧ t.link.notices =
              (if s.link.queue.length < 32 then s.link.notices ++ [.chainEnded c n .stopped] else s.link.notices) ∧
            t.settings = s.settings ∧ t.valves = s.valves ∧ t.stock = s.stock ∧ t.accounts = s.accounts)))

/-- The expiries of an order's timers that are not due, or come to no order they belong to, change nothing (log 1);
those that are due change nothing that `Kept` names (R83, R90, R92). An order that holds no claim and no pin is
posted in the event that ends it, and its channel goes on (R98 to R100): a due path timeout posts a RECEIVE in
WAIT-PATH TIMED-OUT, a due time limit a WAIT TIMED-OUT, each halting its channel with cause ORDER ERROR where
CONTINUE ON ERROR is clear; a due duration posts a WAIT DONE, ending its chain where next is END. -/
def Obligations.OrderTimersEndOrders : Prop :=
  (∀ (c : ChannelId) (s : State), s.backlog = [] →
    ((s.channel c).current = none →
      exec (.pathTimeout c) s = .next s ∧ exec (.timeLimit c) s = .next s
        ∧ exec (.waitDurationExpiry c) s = .next s) ∧
    ((s.channel c).pathTimer ≠ some 0 → exec (.pathTimeout c) s = .next s) ∧
    ((s.channel c).limitTimer ≠ some 0 → exec (.timeLimit c) s = .next s) ∧
    ((s.channel c).waitTimer ≠ some 0 → exec (.waitDurationExpiry c) s = .next s) ∧
    (∃ t, exec (.pathTimeout c) s = .next t ∧ Kept s t) ∧ (∃ t, exec (.timeLimit c) s = .next t ∧ Kept s t) ∧
    (∃ t, exec (.waitDurationExpiry c) s = .next t ∧ Kept s t)) ∧
  (∀ (c : ChannelId) (n : OrderId) (s : State), s.atRest → (s.channel c).current = some n →
    (s.channel c).state = .running → (s.channel c).reported = none → s.holdsPin c = false →
    s.selector.change = none → s.claimed (.channel c) = [] →
    let x := s.order n
    let posted (k : OrderStatus) (cause : EndCause) (ch : Channel) : State :=
      (s.putOrder n { x with
        status := k, endCause := some cause,
        endContent := if x.order.kind = some .receive
          then some (x.order.dest.bind fun h => (s.holder h).content) else none }).putChannel c ch
    let halted : Channel := { Channel.idle with state := .halted, halt := some .orderError, haltSlot := some n }
    let told (k : OrderStatus) (cause : EndCause) : Notice := .orderEnded c n x.order.kind k cause x.counted
      (if x.order.kind = some .receive then some (x.order.dest.bind fun h => (s.holder h).content) else none)
    (x.order.kind = some .receive → x.status = .waitPath → (s.channel c).pathTimer = some 0 →
      x.order.continueOnError = false →
      exec (.pathTimeout c) s = .next (((posted .timedOut .pathTimeout halted).notify
        (told .timedOut .pathTimeout)).notify (.channelHalted c .orderError (some n)))) ∧
    (x.order.kind = some .wait → x.status = .flowing → (s.channel c).limitTimer = some 0 →
      x.order.continueOnError = false →
      exec (.timeLimit c) s = .next (((posted .timedOut .timeLimit halted).notify
        (told .timedOut .timeLimit)).notify (.channelHalted c .orderError (some n)))) ∧
    (x.order.kind = some .wait → x.status = .flowing → (s.channel c).waitTimer = some 0 →
      x.order.notify = false → x.order.next = none → (s.channel c).stopAfter = false →
      exec (.waitDurationExpiry c) s = .next ((posted .done .target Channel.idle).notify
        (.chainEnded c n .reachedEnd))))

/-- HOLD's replies that change nothing, in their order (R105, R106). A HOLD of a FLOWING RECEIVE, its content UNKNOWN or
at least the hold threshold short of its target, whose inlet stands OPEN with the main idle (R107, R108): the order and the
channel are SUSPENDED, and the inlet is driven closed for the channel, with ACCEPTED. A HOLD of a FLOWING TRANSFER, the
selector STEADY on its source with the condition UNKNOWN: the same of TDEL, with the booster off and the pin released. -/
def Obligations.HoldIsRefusedOrTaken : Prop :=
  (∀ (tag a : Byte) (s : State), s.free →
    let reply (k : Status) := exec (.hold tag [a]) s = .next (s.answered 29 tag k.body)
    (channelOf a.toNat = none → reply .badField) ∧
    ∀ c, channelOf a.toNat = some c →
      (s.control.phase = .setup → reply .wrongPhase) ∧
      (s.control.phase = .run →
        ((s.channel c).current = none → reply .notRunning) ∧
        ∀ n, (s.channel c).current = some n → (s.channel c).state ≠ .idle → (s.channel c).state ≠ .halted →
          let x := s.order n
          let moves := x.order.kind = some .receive ∨ x.order.kind = some .transfer
          let left := match x.order.kind with
            | some .receive => (x.order.dest.bind fun h => (s.holder h).content).map fun m => x.order.target - m
            | some .transfer => some (x.order.target - x.counted)
            | _ => none
          (x.status = .suspended → reply .alreadyHeld) ∧
          (x.status ≠ .suspended → ¬(moves ∧ (x.status = .opening ∨ x.status = .flowing)) → reply .notHoldable) ∧
          (moves → (x.status = .opening ∨ x.status = .flowing) →
            (∀ m, left = some m → m < (s.settings.channels.get c).holdThreshold → reply .holdIgnored) ∧
            ((∀ m, left = some m → (s.settings.channels.get c).holdThreshold ≤ m) →
              ∃ t, exec (.hold tag [a]) s = .next t ∧
                Kept (s.answered 29 tag (if t.holdOutstanding c then Status.accepted else Status.ok).body) t)))) ∧
  (∀ (tag a : Byte) (c : ChannelId) (n : OrderId) (h : HolderId) (s : State), s.free → s.atRest →
    channelOf a.toNat = some c → s.control.phase = .run → (s.channel c).state = .running →
    (s.channel c).current = some n → (s.order n).status = .flowing → (s.order n).order.kind = some .receive →
    (s.order n).order.dest = some h →
    (∀ m, (s.holder h).content = some m →
      (s.settings.channels.get c).holdThreshold ≤ (s.order n).order.target - m) → (s.channel c).work = [] →
    (s.valve (inletValve h)).claim = .channel c → (s.valve (inletValve h)).fault = .noFault →
    (s.valve (inletValve h)).position = .opened → (s.valve (inletValve h)).shown ≠ some .closed →
    s.valves.main = .idle → s.valves.protect = [] → s.valves.queue = [] → s.valves.refused = [] →
    let v := inletValve h
    let s1 := (s.putOrder n { s.order n with status := .suspended }).putChannel c { s.channel c with
      state := .suspended, work := [{ valve := v, kind := .holdClose, wait := .answer }] }
    let s2 := s1.putValve v { s.valve v with position := .movingClosed }
    exec (.hold tag [a]) s = .next ((s2.putValves { s2.valves with
      main := .driving { valve := v, target := .closed, requesters := [.channel c], protective := false }
        s.settings.travel[v] }).answered 29 tag Status.accepted.body)) ∧
  (∀ (tag a : Byte) (c : ChannelId) (n : OrderId) (h m : HolderId) (s : State), s.free → s.atRest →
    channelOf a.toNat = some c → s.control.phase = .run → (s.channel c).state = .running →
    (s.channel c).current = some n → (s.channel c.other).current = none → (s.order n).status = .flowing →
    (s.order n).order.kind = some .transfer → (s.order n).order.dest = some h →
    (s.settings.channels.get c).holdThreshold ≤ (s.order n).order.target - (s.order n).counted →
    (s.channel c).work = [] → s.selector.state = .steady → s.selector.current = some m → s.usable m = true →
    s.selector.pin = some { channel := c, holder := m } → s.stock.condition = .unknown →
    (s.valve deliveryValve).claim = .channel c → (s.valve deliveryValve).fault = .noFault →
    (s.valve deliveryValve).position = .opened → (s.valve deliveryValve).shown ≠ some .closed →
    s.valves.main = .idle → s.valves.protect = [] → s.valves.queue = [] → s.valves.refused = [] →
    let v := deliveryValve
    let s1 := ((s.putOrder n { s.order n with status := .suspended }).putChannel c { s.channel c with
      state := .suspended, work := [{ valve := v, kind := .holdClose, wait := .answer }] }).setBooster false
    let s2 := (s1.putValve v { s.valve v with position := .movingClosed }).putSelector { s.selector with pin := none }
    exec (.hold tag [a]) s = .next ((s2.putValves { s2.valves with
      main := .driving { valve := v, target := .closed, requesters := [.channel c], protective := false }
        s.settings.travel[v] }).answered 29 tag Status.accepted.body))

/-- RESUME (R113): the refusals; else OK, and a RECEIVE whose inlet stands OPEN, undriven and claimed, with no request
outstanding, is FLOWING within the event. A TRANSFER asks for its pin again (R114): with the selector STEADY on its source,
usable and unpinned, the pin is granted and the order is OPENING in the event; with HkIN and TSUC OPEN and the main idle,
TDEL is driven open for it. With the source usable but not current and FORCE SOURCE clear, it waits for its pin in
WAIT-PATH, the path timeout started. -/
def Obligations.ResumeTakesUpTheOrder : Prop :=
  (∀ (tag a : Byte) (s : State), s.free →
    let reply (k : Status) := exec (.resume tag [a]) s = .next (s.answered 30 tag k.body)
    (channelOf a.toNat = none → reply .badField) ∧
    ∀ c, channelOf a.toNat = some c →
      (s.control.phase = .setup → reply .wrongPhase) ∧
      (s.control.phase = .run →
        (s.control.stopAsserted = true → reply .yardStopped) ∧
        (s.control.stopAsserted = false →
          ((s.channel c).state ≠ .suspended → reply .notRunning) ∧
          ((s.channel c).state = .suspended →
            (∃ t, exec (.resume tag [a]) s = .next t ∧ Kept (s.answered 30 tag Status.ok.body) t) ∧
            ∀ n h, s.atRest → (s.channel c).current = some n → (s.order n).order.kind = some .receive →
              (s.order n).order.dest = some h → (s.channel c).work = [] →
              (s.valve (inletValve h)).claim = .channel c → (s.valve (inletValve h)).fault = .noFault →
              (s.valve (inletValve h)).position = .opened → s.valves.main = .idle → s.valves.protect = [] →
              s.valves.queue = [] →
              exec (.resume tag [a]) s = .next
                (((s.putOrder n { s.order n with status := .flowing }).putChannel c { s.channel c with
                  state := .running, pathTimer := none, pathWait := .nothing, work := [] }).answered 30 tag
                  Status.ok.body))))) ∧
  (∀ (tag a : Byte) (c : ChannelId) (n : OrderId) (h m : HolderId) (s : State), s.free → s.atRest →
    channelOf a.toNat = some c → s.control.phase = .run → s.control.stopAsserted = false →
    (s.channel c).state = .suspended → (s.channel c).current = some n → (s.order n).order.kind = some .transfer →
    (s.order n).order.dest = some h → (s.order n).order.src = some m → (s.channel c).reported = some h →
    (s.channel c).work = [] → s.selector.state = .steady → s.selector.pin = none → s.usable m = true →
    (s.selector.current = some m →
      (∀ v ∈ [inletValve h, deliveryValve, suctionValve],
        (s.valve v).claim = .channel c ∧ (s.valve v).fault = .noFault) →
      (s.valve (inletValve h)).position = .opened → (s.valve suctionValve).position = .opened →
      (s.valve deliveryValve).position = .closed → (s.valve deliveryValve).shown ≠ some .opened →
      s.valves.main = .idle → s.valves.protect = [] → s.valves.queue = [] → s.valves.refused = [] →
      let v := deliveryValve
      let s1 := (s.putOrder n { s.order n with status := .opening }).putChannel c { s.channel c with
        state := .running, pathTimer := none, pathWait := .nothing,
        work := [{ valve := v, kind := .move, wait := .answer }] }
      let s2 := (s1.putValve v { s.valve v with position := .movingOpen }).putSelector { s.selector with
        pin := some { channel := c, holder := m } }
      exec (.resume tag [a]) s = .next ((s2.putValves { s2.valves with
        main := .driving { valve := v, target := .opened, requesters := [.channel c], protective := false }
          s.settings.travel[v] }).answered 30 tag Status.ok.body)) ∧
    (s.selector.current ≠ some m → (s.order n).order.forceSource = false → (s.channel c).pathTimer = none →
      exec (.resume tag [a]) s = .next (((s.putOrder n { s.order n with status := .waitPath }).putChannel c
        { s.channel c with
          state := .running, pathWait := .pin, pathTimer := some (s.settings.channels.get c).pathTimeout }).answered
            30 tag Status.ok.body)))

/-! ## Districts (R117 to R149) -/

/-- SET OUTLET MAP's replies that change nothing, in their order (R118), and a map taken in SETUP, which does
nothing further. A map taken in RUN (R118): a district that gains an outlet has its setpoint in force found, one
that loses it has it removed, every other record of a district stands, and the FILLING half is marked MAP CHANGED
(R155). -/
def Obligations.OutletMapIsCheckedAndApplied : Prop :=
  (∀ (tag : Byte) (body : List Byte) (s : State), s.free → body.length = 8 →
    let refusal (k : Status) := exec (.setOutletMap tag body) s = .next (s.answered 33 tag k.body)
    (modeOf (field body 0 1) = none → refusal .badField) ∧ (tableOf body = none → refusal .badField) ∧
    (∀ t, tableOf body = some t → tableDistinct t = false → refusal .badField) ∧
    ∀ new, mapOf body = some new →
      let locked := s.control.frozen = true ∧ new ≠ s.settings.map
      let moving := s.control.phase = .run ∧ ∃ d, new.outletOf d ≠ s.settings.map.outletOf d ∧
        (s.district d).state ≠ .shut
      let stored := s.putSettings { s.settings with map := new }
      (locked → refusal .frozen) ∧ (¬locked → moving → refusal .inUse) ∧
      (¬locked → s.control.phase = .setup →
        exec (.setOutletMap tag body) s = .next (stored.answered 33 tag Status.ok.body))) ∧
  (∀ (tag : Byte) (body : List Byte) (new : OutletMap) (s : State), s.free → s.atRest → body.length = 8 →
    mapOf body = some new → s.control.phase = .run → (s.control.frozen = false ∨ new = s.settings.map) →
    (∀ d, new.outletOf d = s.settings.map.outletOf d ∨ (s.district d).state = .shut) →
    ∃ t : State, exec (.setOutletMap tag body) s = .next (t.answered 33 tag Status.ok.body) ∧
      t.settings = { s.settings with map := new } ∧ t.valves = s.valves ∧ t.channels = s.channels ∧
      t.stock = s.stock ∧ t.selector = s.selector ∧ t.accounts.book = s.accounts.book ∧
      (∀ d, s.settings.map.outletOf d = none → new.outletOf d ≠ none → (s.district d).state = .shut →
        t.district d = { s.district d with inForce := some (s.setpointNow d) }) ∧
      (∀ d, s.settings.map.outletOf d ≠ none → new.outletOf d = none →
        t.district d = { s.district d with inForce := none }) ∧
      (∀ d, ((s.settings.map.outletOf d).isSome = (new.outletOf d).isSome) → t.district d = s.district d) ∧
      (∀ i, s.halfIn .filling = some i →
        t.half i = { s.half i with marks := { (s.half i).marks with mapChanged := true } }))

/-- SET DISTRICT (R120): BAD FIELD out of range, else OK with the seven settings replaced, the schedule and every
other district standing; a change of the economy setpoint or of economy enabled has the setpoint in force found
afresh. HOLD SETPOINT and RELEASE SETPOINT, in either phase and every state of the district (R125): BAD FIELD out of
range, else OK with the held setpoint present or absent and the setpoint in force found afresh. -/
def Obligations.DistrictSettingsAndHeldSetpoints : Prop :=
  (∀ (tag : Byte) (body : List Byte) (s : State), s.free → body.length = 14 →
    let refusal := exec (.setDistrict tag body) s = .next (s.answered 34 tag Status.badField.body)
    (numberOf 6 (field body 0 1) = none → refusal) ∧
    ∀ d, numberOf 6 (field body 0 1) = some d →
      (flagOf (field body 3 1) = none → refusal) ∧
      ∀ on, flagOf (field body 3 1) = some on →
        let old := s.settings.districts[d]
        let new : DistrictSettings :=
          { schedule := old.schedule, economy := field body 1 2, economyOn := on, lowMargin := field body 4 2,
            highMargin := field body 6 2, lockout := field body 8 2, qualify := field body 10 2,
            repeatWindow := field body 12 2 }
        let inRange := 10 ≤ new.economy ∧ new.economy ≤ 600 ∧ 1 ≤ new.lowMargin ∧ new.lowMargin ≤ 200 ∧
          1 ≤ new.highMargin ∧ new.highMargin ≤ 200 ∧ new.lockout ≤ 600 ∧ new.qualify ≤ 60 ∧ new.repeatWindow ≤ 1800
        let stored := s.putSettings { s.settings with districts := s.settings.districts.set d.val new }
        (¬inRange → refusal) ∧
        (inRange → (new.economy ≠ old.economy ∨ new.economyOn ≠ old.economyOn) →
          exec (.setDistrict tag body) s = .next ((findSetpoint d stored).answered 34 tag Status.ok.body)) ∧
        (inRange → new.economy = old.economy → new.economyOn = old.economyOn →
          exec (.setDistrict tag body) s = .next (stored.answered 34 tag Status.ok.body))) ∧
  (∀ (tag : Byte) (body : List Byte) (s : State), s.free →
    (body.length = 3 →
      let n := field body 1 2
      exec (.holdSetpoint tag body) s = .next (match numberOf 6 (field body 0 1) with
        | some d => if 10 ≤ n ∧ n ≤ 600
            then (findSetpoint d (s.putDistrict d { s.district d with held := some n })).answered 38 tag Status.ok.body
            else s.answered 38 tag Status.badField.body
        | none => s.answered 38 tag Status.badField.body)) ∧
    (body.length = 1 →
      exec (.releaseSetpoint tag body) s = .next (match numberOf 6 (field body 0 1) with
        | some d =>
          (findSetpoint d (s.putDistrict d { s.district d with held := none })).answered 39 tag Status.ok.body
        | none => s.answered 39 tag Status.badField.body)))

/-- SET SCHEDULE (R121): BAD FIELD for a district out of range, for a list that is empty or too long, for a point out of range
and for minutes not strictly ascending; else OK with the whole schedule replaced and the setpoint in force found afresh. -/
def Obligations.SetScheduleReplacesTheList : Prop :=
  ∀ (tag : Byte) (body : List Byte) (s : State), s.free → body.length = 2 + 4 * field body 1 1 →
    let points := (List.range (field body 1 1)).map fun i =>
      ({ minute := field body (2 + 4 * i) 2, setpoint := field body (4 + 4 * i) 2 } : SchedulePoint)
    let good := 1 ≤ points.length ∧ points.length ≤ 8 ∧
      (∀ p ∈ points, p.minute ≤ 1439 ∧ 10 ≤ p.setpoint ∧ p.setpoint ≤ 600) ∧
      points.Pairwise fun p q => p.minute < q.minute
    (numberOf 6 (field body 0 1) = none ∨ ¬good →
      exec (.setSchedule tag body) s = .next (s.answered 35 tag Status.badField.body)) ∧
    ∀ d, numberOf 6 (field body 0 1) = some d → good →
      exec (.setSchedule tag body) s = .next ((findSetpoint d (s.putSettings { s.settings with
        districts := s.settings.districts.set d.val { s.settings.districts[d] with schedule := points } })).answered
          35 tag Status.ok.body)

/-- Finding the setpoint in force afresh, in RUN for a district with an outlet (R123, R124, R126, R139): the first row of the
table that applies; another value loads the governor and restarts the lockout in LIVE and WARN, and the same value changes
neither. Every other district stands. In SETUP and without an outlet nothing changes. That the row kept is the row that
gives the value now, also where the value stays, is the model's inference (log 31). -/
def Obligations.SetpointFollowsTheTable : Prop :=
  ∀ (d : DistrictId) (s : State),
    (s.control.phase = .setup ∨ s.outletOf d = none → findSetpoint d s = s) ∧
    ∀ p, s.control.phase = .run → s.outletOf d = some p →
      let y := s.settings.districts[d]
      let t := findSetpoint d s
      let found (n row : Nat) := (t.district d).inForce = some { value := n, row := row }
      let critical := s.stock.condition = .critical
      let saving := s.stock.condition = .reserve ∧ y.economyOn = true ∧ s.stock.release = none
      (critical → found y.economy 1) ∧
      (∀ n, ¬critical → (s.district d).held = some n → found n 2) ∧
      (¬critical → (s.district d).held = none → saving → found y.economy 3) ∧
      (¬critical → (s.district d).held = none → ¬saving → found (scheduledAt y.schedule s.clock.minute) 4) ∧
      (∀ old new, (s.district d).inForce = some old → (t.district d).inForce = some new → old.value ≠ new.value →
        ((s.district d).state = .live ∨ (s.district d).state = .warn) →
        t.districts.outputs[p] = new.value ∧ (t.district d).qualify = none ∧
        (t.district d).lockout = if y.lockout = 0 then none else some y.lockout) ∧
      (∀ old new, (s.district d).inForce = some old → (t.district d).inForce = some new → old.value = new.value →
        t.districts.outputs = s.districts.outputs ∧ (t.district d).qualify = (s.district d).qualify ∧
        (t.district d).lockout = (s.district d).lockout) ∧
      (∀ e, e ≠ d → t.district e = s.district e)

/-- The scheduled setpoint at a minute is the setpoint of the point with the greatest minute not after it, and that of the
last point of the list where every point is after it (R122); it does not turn on the gas-day start. -/
def Obligations.ScheduleGivesTheSetpoint : Prop :=
  (∀ (before after : List SchedulePoint) (p : SchedulePoint) (minute : Nat),
    (before ++ p :: after).Pairwise (fun a b => a.minute < b.minute) →
    p.minute ≤ minute → (∀ q ∈ after, minute < q.minute) →
    scheduledAt (before ++ p :: after) minute = p.setpoint) ∧
  (∀ (before : List SchedulePoint) (p : SchedulePoint) (minute : Nat),
    (∀ q ∈ before ++ [p], minute < q.minute) → scheduledAt (before ++ [p]) minute = p.setpoint) ∧
  (∀ (p : SchedulePoint) (minute : Nat), scheduledAt [p] minute = p.setpoint) ∧
  (∀ (s : State) (start : Nat) (d : DistrictId),
    (s.putClock { s.clock with dayStartMinute := start }).setpointNow d = s.setpointNow d) ∧
  (∀ minute, minute < 1440 →
    scheduledAt [⟨360, 45⟩, ⟨960, 60⟩, ⟨1260, 50⟩] minute =
      if minute < 360 then 50 else if minute < 960 then 45 else if minute < 1260 then 60 else 50)

/-- OPEN DISTRICT (R128, R129): the refusals in their order; a SHUT district whose outlet valve stands OPEN and unclaimed is
LIVE within the event, its lockout running and its output loaded; one whose valve stands CLOSED, with the main idle, is
OPENING, its valve driven open, with ACCEPTED. So is a TRIPPED district whose valve, still claimed for it, stands CLOSED
(R146). -/
def Obligations.OpenDistrictOpens : Prop :=
  ∀ (tag a : Byte) (s : State), s.free →
    let reply (k : Status) := exec (.openDistrict tag [a]) s = .next (s.answered 36 tag k.body)
    (numberOf 6 a.toNat = none → reply .badField) ∧
    ∀ d, numberOf 6 a.toNat = some d →
      let x := s.district d
      (s.control.phase = .setup → reply .wrongPhase) ∧
      (s.control.phase = .run → s.outletOf d = none → reply .noSuch) ∧
      ∀ p, s.control.phase = .run → s.outletOf d = some p →
        let v := districtValve p
        (x.state ≠ .shut → x.state ≠ .tripped → reply .inUse) ∧
        (x.state = .tripped → s.stands v .closed = false → reply .inUse) ∧
        (x.state = .shut → (s.valve v).fault ≠ .noFault → reply .faulted) ∧
        (x.state = .shut → (s.valve v).fault = .noFault → (s.valve v).claim = .unclaimed → s.atRest →
          s.valves.main = .idle → s.valves.protect = [] → s.valves.queue = [] → s.valves.refused = [] →
          let value := x.inForce.map fun i => i.value
          let lockout := s.settings.districts[d].lockout
          ((s.valve v).position = .opened →
            let live := ((s.putClaim v (.district d)).putDistrict d { x with
              state := .live, lockout := if lockout = 0 then none else some lockout, qualify := none,
              repeatLeft := none, moveWait := .unasked }).putOutput p (value.getD 0)
            ∃ t : State, exec (.openDistrict tag [a]) s = .next (t.answered 36 tag Status.ok.body) ∧
              t.districts = live.districts ∧ t.valves = live.valves ∧ t.settings = s.settings ∧
              t.channels = s.channels ∧ t.stock = s.stock ∧ t.accounts = s.accounts ∧
              (s.link.queue.length ≤ 30 → t.link.notices = s.link.notices
                ++ [.districtState d (some p) .shut .opening value none, .districtState d (some p) .opening .live value none])) ∧
          ((s.valve v).position = .closed → (s.valve v).shown ≠ some .opened →
            let opening := ((s.putValve v { s.valve v with claim := .district d, position := .movingOpen }).putDistrict d
              { x with state := .opening, lockout := none, qualify := none, repeatLeft := none, moveWait := .answer }
              ).putOutput p 0
            ∃ t : State, exec (.openDistrict tag [a]) s = .next (t.answered 36 tag Status.accepted.body) ∧
              t.districts = opening.districts ∧ t.valves = { opening.valves with
                main := .driving { valve := v, target := .opened, requesters := [.district d], protective := false }
                  s.settings.travel[v] } ∧
              t.settings = s.settings ∧ t.channels = s.channels ∧ t.stock = s.stock ∧ t.accounts = s.accounts)) ∧
        (x.state = .tripped → (s.valve v).fault = .noFault → (s.valve v).claim = .district d → s.atRest →
          s.valves.main = .idle → s.valves.protect = [] → s.valves.queue = [] → s.valves.refused = [] →
          (s.valve v).position = .closed → (s.valve v).shown ≠ some .opened →
          let opening := ((s.putValve v { s.valve v with position := .movingOpen }).putDistrict d
            { x with state := .opening, lockout := none, qualify := none, repeatLeft := none, moveWait := .answer }
            ).putOutput p 0
          ∃ t : State, exec (.openDistrict tag [a]) s = .next (t.answered 36 tag Status.accepted.body) ∧
            t.districts = opening.districts ∧ t.valves = { opening.valves with
              main := .driving { valve := v, target := .opened, requesters := [.district d], protective := false }
                s.settings.travel[v] } ∧
            t.settings = s.settings ∧ t.channels = s.channels ∧ t.stock = s.stock ∧ t.accounts = s.accounts)

/-- SHUT DISTRICT (R130): the refusals; OK and no change for a district with no outlet, SHUT or CLOSING; a LIVE or WARN
district whose valve stands OPEN with the main idle is CLOSING with output 0, its valve driven closed. One in OPENING is
CLOSING: an open being driven for it runs on, its end awaited, and an open queued for it alone is replaced by the close.
A TRIPPED one whose valve is under its protective drive is CLOSING and joins the drive, and one whose valve stands CLOSED
is SHUT within the event, with OK. One in FAULT is SHUT with OK. A SHUT one's claim is released, the valve left as it
stands. -/
def Obligations.ShutDistrictCloses : Prop :=
  ∀ (tag a : Byte) (s : State), s.free →
    let reply (k : Status) := exec (.shutDistrict tag [a]) s = .next (s.answered 37 tag k.body)
    (numberOf 6 a.toNat = none → reply .badField) ∧
    ∀ d, numberOf 6 a.toNat = some d →
      let x := s.district d
      (s.control.phase = .setup → reply .wrongPhase) ∧
      (s.control.phase = .run →
        (s.outletOf d = none → reply .ok) ∧ (x.state = .shut ∨ x.state = .closing → reply .ok) ∧
        (s.outletOf d ≠ none → x.state = .fault →
          ∃ t, exec (.shutDistrict tag [a]) s = .next t ∧ Kept (s.answered 37 tag Status.ok.body) t) ∧
        ∀ p, s.outletOf d = some p → s.atRest → (s.valve (districtValve p)).claim = .district d →
          let v := districtValve p
          let closing (w : MoveWait) := (s.putDistrict d
            { x with state := .closing, lockout := none, qualify := none, repeatLeft := none, moveWait := w }).putOutput p 0
          let nobodyWaits := ∀ c, s.pathWaits .claim c = false
          let shut := (s.putDistrict d
            { x with state := .shut, lockout := none, qualify := none, repeatLeft := none, moveWait := .unasked }
            ).putOutput p 0
          let drive (t : Limit) (r : Requester) (k : Bool) : Drive :=
            { valve := v, target := t, requesters := [r], protective := k }
          let becomes (k : Status) (districts : DistrictUnit) (valves : ValveUnit) :=
            ∃ t : State, exec (.shutDistrict tag [a]) s = .next (t.answered 37 tag k.body) ∧
              t.districts = districts ∧ t.valves = valves ∧ t.settings = s.settings ∧ t.channels = s.channels ∧
              t.stock = s.stock ∧ t.accounts = s.accounts
          (x.state = .fault → nobodyWaits → becomes .ok shut.districts (s.putClaim v .unclaimed).valves) ∧
          ((s.valve v).fault = .noFault →
            (x.state = .live ∨ x.state = .warn → s.valves.main = .idle → s.valves.protect = [] → s.valves.queue = [] →
              s.valves.refused = [] → (s.valve v).position = .opened → (s.valve v).shown ≠ some .closed →
              becomes .accepted (closing .answer).districts
                { (s.putValve v { s.valve v with position := .movingClosed }).valves with
                  main := .driving (drive .closed (.district d) false) s.settings.travel[v] }) ∧
            (∀ left, x.state = .opening → s.valves.main = .driving (drive .opened (.district d) false) left →
              becomes .accepted (closing .drive).districts s.valves) ∧
            (∀ e left, x.state = .opening → s.valves.main = .driving e left → e.valve ≠ v → s.valves.protect = [] →
              s.valves.queue = [{ valve := v, target := .opened, requesters := [.district d] }] →
              becomes .accepted (closing .answer).districts { s.valves with
                queue := [{ valve := v, target := .closed, requesters := [.district d] }] }) ∧
            (∀ left, x.state = .tripped →
              s.valves.main = .driving { valve := v, target := .closed, requesters := [], protective := true } left →
              becomes .accepted (closing .answer).districts { s.valves with
                main := .driving (drive .closed (.district d) true) left }) ∧
            (x.state = .tripped → s.valves.main = .idle → s.valves.protect = [] → s.valves.queue = [] →
              (s.valve v).position = .closed → nobodyWaits →
              becomes .ok shut.districts (s.putClaim v .unclaimed).valves)))

/-- PRESSURE SAMPLE (R4, R138, R140, R141): from an outlet that no district has, nothing; else the last sample; in
RUN, in LIVE or WARN and with no lockout, a sample inside the band stops the qualify timer, one outside starts it
where the qualify time is not 0, and one outside with the timer running leaves it; a sample that is not judged changes
nothing more. -/
def Obligations.PressureSampleIsJudged : Prop :=
  ∀ (p : OutletId) (n : Fin 1000) (s : State), s.backlog = [] →
    (s.settings.map.districtAt p = none → exec (.pressureSample p n) s = .next s) ∧
    ∀ d, s.settings.map.districtAt p = some d →
      let x := s.district d
      let y := s.settings.districts[d]
      let sampled : District := { x with sample := some { value := n.val, age := 0 } }
      let judged := s.control.phase = .run ∧ (x.state = .live ∨ x.state = .warn) ∧ x.lockout = none
      (¬judged → exec (.pressureSample p n) s = .next (s.putDistrict d sampled)) ∧
      ∀ i, judged → x.inForce = some i →
        let inside := i.value ≤ n.val + y.lowMargin ∧ n.val ≤ i.value + y.highMargin
        (inside → exec (.pressureSample p n) s = .next (s.putDistrict d { sampled with qualify := none })) ∧
        (¬inside → x.qualify ≠ none → exec (.pressureSample p n) s = .next (s.putDistrict d sampled)) ∧
        (¬inside → x.qualify = none → y.qualify ≠ 0 →
          exec (.pressureSample p n) s = .next (s.putDistrict d { sampled with qualify := some y.qualify })) ∧
        (¬inside → x.qualify = none → y.qualify = 0 →
          ∃ t, exec (.pressureSample p n) s = .next t ∧ Kept (s.putDistrict d sampled) t)

/-- Expiry of a due qualify timer (R141, R142, R144): with the last sample inside the band as it now stands, the
timer stops and no more; outside it, a LIVE district is in WARN with its window running and its notice, and a WARN
district whose valve stands OPEN and claimed, with the main idle, is TRIPPED, its valve driven closed by a
protective close, which it records as under way (R145). Expiry of a due settle lockout judges nothing (R139); expiry of
a due repeat window in WARN returns the district to LIVE with its notice, its qualify timer running on (R143). Timers
that are not due change nothing (log 1). -/
def Obligations.DistrictTimersExpire : Prop :=
  (∀ (d : DistrictId) (s : State), s.atRest →
    let x := s.district d
    let y := s.settings.districts[d]
    (s.control.phase = .setup ∨ x.qualify ≠ some 0 → exec (.qualifyExpiry d) s = .next s) ∧
    ∀ (a : Sample) (i : InForce) (p : OutletId), s.control.phase = .run → x.qualify = some 0 →
      x.sample = some a → x.inForce = some i → s.outletOf d = some p →
      let side : Side := if a.value + y.lowMargin < i.value then .low else .high
      let inside := i.value ≤ a.value + y.lowMargin ∧ a.value ≤ i.value + y.highMargin
      (inside → exec (.qualifyExpiry d) s = .next (s.putDistrict d { x with qualify := none })) ∧
      (¬inside → x.state = .live → y.repeatWindow ≠ 0 →
        exec (.qualifyExpiry d) s = .next ((s.putDistrict d { x with
          state := .warn, qualify := none, repeatLeft := some y.repeatWindow }).notify
            (.districtWarn d p side a.value i.value ((i.value : Int) - y.lowMargin) (i.value + y.highMargin)))) ∧
      (¬inside → x.state = .warn → (s.valve (districtValve p)).claim = .district d →
        (s.valve (districtValve p)).position = .opened → (s.valve (districtValve p)).shown ≠ some .closed →
        s.valves.main = .idle → s.valves.protect = [] → s.valves.queue = [] →
        let v := districtValve p
        let tripped := ((s.putValve v { s.valve v with position := .movingClosed }).putDistrict d
          { x with state := .tripped, lockout := none, qualify := none, repeatLeft := none, moveWait := .shielded }
          ).putOutput p 0
        exec (.qualifyExpiry d) s = .next ((tripped.putValves { tripped.valves with
          main := .driving { valve := v, target := .closed, requesters := [], protective := true }
            s.settings.travel[v] }).notify (.districtTripped d p side a.value i.value .opened)))) ∧
  (∀ (d : DistrictId) (s : State), s.atRest →
    let x := s.district d
    (s.control.phase = .run → x.lockout = some 0 →
      exec (.settleLockoutExpiry d) s = .next (s.putDistrict d { x with lockout := none })) ∧
    (s.control.phase = .setup ∨ x.lockout ≠ some 0 → exec (.settleLockoutExpiry d) s = .next s) ∧
    (s.control.phase = .run → x.repeatLeft = some 0 → x.state = .warn →
      exec (.repeatWindowExpiry d) s = .next ((s.putDistrict d { x with state := .live, repeatLeft := none }).notify
        (.districtState d (s.outletOf d) .warn .live (x.inForce.map fun i => i.value) none))) ∧
    (s.control.phase = .setup ∨ x.repeatLeft ≠ some 0 ∨ x.state ≠ .warn →
      exec (.repeatWindowExpiry d) s = .next s))

/-! ## Accounts (R150 to R174) -/

/-- METER PULSE (R2, R151, R168, R88): in SETUP nothing; in RUN the weight joins the meter's column of the FILLING
half, held at 4,294,967,295; the contract source's meter adds it to the take as well, and M11's to the counted
volume of a FLOWING TRANSFER that it does not complete. A pulse of the contract source's meter that brings the take
to the cap makes the contract CUT (R169): the source valve, standing CLOSED and undriven, needs no close, and the
notice tells what was found. An M11 pulse that brings a FLOWING TRANSFER with CLOSE to its target (R88, R98), the
selector STEADY on its source with the condition UNKNOWN and the main idle: the order is CLOSING, DONE with TARGET, the
booster off, the pin released, and its closes asked, TDEL, TSUC, then HkIN, the first driven. -/
def Obligations.PulsesAreCountedAndCut : Prop :=
  (∀ (m : MeterId) (s : State), s.backlog = [] →
    (s.control.phase = .setup → exec (.meterPulse m) s = .next s) ∧
    ∀ i, s.control.phase = .run → s.halfIn .filling = some i →
      let weight := s.settings.weights[m]
      let held (n : Nat) := if n < 4294967295 then n else 4294967295
      let col := meterColumn s.settings.map m
      let counted := s.putHalf i { s.half i with
        columns := (s.half i).columns.set col.val (held ((s.half i).columns[col] + weight)) }
      let isContract := ∃ x, s.settings.source = some x ∧ x.val = m.val
      let take := held (s.accounts.take + weight)
      let withTake := counted.putAccounts { counted.accounts with take := take }
      (∃ t, exec (.meterPulse m) s = .next t ∧ Kept (if decide (s.settings.source.any fun x => x.val = m.val)
        then withTake else counted) t) ∧
      (¬isContract → m.val ≠ 10 → exec (.meterPulse m) s = .next counted) ∧
      (isContract → (take < s.settings.cap ∨ s.accounts.cut = true) →
        exec (.meterPulse m) s = .next withTake) ∧
      (∀ c n, m.val = 10 → s.atRest → s.flowingTransfer = some c → (s.channel c).current = some n →
        (s.order n).counted + weight < (s.order n).order.target →
        exec (.meterPulse m) s = .next (counted.putOrder n { s.order n with
          counted := (s.order n).counted + weight }))) ∧
  (∀ (x : SourceId) (i : HalfId) (s : State), s.atRest → s.control.phase = .run → s.halfIn .filling = some i →
    s.settings.source = some x → s.accounts.cut = false →
    s.settings.cap ≤ (if s.accounts.take + s.settings.weights[x] < 4294967295
      then s.accounts.take + s.settings.weights[x] else 4294967295) →
    s.valves.main = .idle → s.valves.protect = [] → s.valves.queue = [] →
    (s.valve (sourceValve x)).position = .closed → (s.valve (sourceValve x)).claim = .unclaimed →
    ∃ t : State, exec (.meterPulse ⟨x.val, by omega⟩) s = .next t ∧ t.accounts.cut = true ∧
      t.accounts.take = (if s.accounts.take + s.settings.weights[x] < 4294967295
        then s.accounts.take + s.settings.weights[x] else 4294967295) ∧
      t.valves = s.valves ∧ t.settings = s.settings ∧ t.channels = s.channels ∧
      (s.link.queue.length < 32 → t.link.notices = s.link.notices
        ++ [.contractCut x s.settings.cap t.accounts.take .closed])) ∧
  (∀ (c : ChannelId) (n : OrderId) (h m : HolderId) (i : HalfId) (s : State), s.atRest → s.control.phase = .run →
    s.halfIn .filling = some i → s.flowingTransfer = some c → (s.channel c).current = some n →
    (s.channel c.other).current = none → (s.channel c).state = .running →
    (s.order n).order.target ≤ (s.order n).counted + s.settings.weights[(10 : MeterId)] →
    (s.order n).order.dest = some h → (s.order n).order.disposition = some .close →
    s.selector.state = .steady → s.selector.current = some m → s.usable m = true → s.selector.change = none →
    s.selector.pin = some { channel := c, holder := m } → s.stock.condition = .unknown →
    (∀ v ∈ [inletValve h, deliveryValve, suctionValve], (s.valve v).claim = .channel c ∧ (s.valve v).fault = .noFault
      ∧ (s.valve v).position = .opened ∧ (s.valve v).shown ≠ some .closed) →
    s.valves.main = .idle → s.valves.protect = [] → s.valves.queue = [] → s.valves.refused = [] →
    let close (v : ValveId) : Work := { valve := v, kind := .close, wait := .answer }
    let entry (v : ValveId) : QueueEntry := { valve := v, target := .closed, requesters := [.channel c] }
    let v := deliveryValve
    ∃ t : State, exec (.meterPulse 10) s = .next t ∧
      t.order n = { s.order n with
        status := .closing, counted := (s.order n).counted + s.settings.weights[(10 : MeterId)] } ∧
      t.channel c = { s.channel c with
        ending := some (.done, .target), pathTimer := none, limitTimer := none, waitTimer := none,
        pathWait := .nothing, work := [close v, close suctionValve, close (inletValve h)] } ∧
      t.channels.booster = false ∧ t.selector = { s.selector with pin := none } ∧
      t.valves = { (s.putValve v { s.valve v with position := .movingClosed }).valves with
        queue := [entry suctionValve, entry (inletValve h)]
        main := .driving { valve := v, target := .closed, requesters := [.channel c], protective := false }
          s.settings.travel[v] } ∧
      t.stock = s.stock ∧ t.settings = s.settings ∧ t.link = s.link)

/-- SET CONTRACT (R167, R168, R171): the refusals in their order; in SETUP the settings are stored, a new source has
the take recomputed, and the contract is CUT exactly where there is a source and the take has reached the cap; judging it
after a change of source in SETUP is the model's inference (log 35). In RUN the source stands, the cap is stored, and a
changed cap is judged at once: OPEN with no source or a take below it, CUT where the take has reached it, and where it was
OPEN the valve of the source, standing CLOSED and undriven, needs no close, and the notice tells what was found. -/
def Obligations.SetContractStoresAndJudges : Prop :=
  ∀ (tag : Byte) (body : List Byte) (s : State), s.free → body.length = 5 →
    let cap := field body 1 4
    let refusal (k : Status) := exec (.setContract tag body) s = .next (s.answered 42 tag k.body)
    (contractSourceOf (field body 0 1) = none ∨ cap = 0 → refusal .badField) ∧
    ∀ source, contractSourceOf (field body 0 1) = some source → cap ≠ 0 →
      let locked := s.control.frozen = true ∧ cap ≠ s.settings.cap
      let stored := s.putSettings { s.settings with source := source, cap := cap }
      (locked → refusal .frozen) ∧
      (¬locked → s.control.phase = .run → source ≠ s.settings.source → refusal .wrongPhase) ∧
      (¬locked → source = s.settings.source → cap = s.settings.cap → refusal .ok) ∧
      (¬locked → s.control.phase = .run → source = s.settings.source →
        (∃ t, exec (.setContract tag body) s = .next t ∧ Kept (stored.answered 42 tag Status.ok.body) t) ∧
        (cap ≠ s.settings.cap → s.atRest →
          let judged (cut : Bool) := stored.putAccounts { s.accounts with cut := cut }
          (source = none ∨ s.accounts.take < cap →
            exec (.setContract tag body) s = .next ((judged false).answered 42 tag Status.ok.body)) ∧
          (source ≠ none → cap ≤ s.accounts.take → s.accounts.cut = true →
            exec (.setContract tag body) s = .next (stored.answered 42 tag Status.ok.body)) ∧
          (∀ x, source = some x → cap ≤ s.accounts.take → s.accounts.cut = false → s.valves.main = .idle →
            s.valves.protect = [] → s.valves.queue = [] → (s.valve (sourceValve x)).position = .closed →
            (s.valve (sourceValve x)).claim = .unclaimed →
            ∃ t : State, exec (.setContract tag body) s = .next (t.answered 42 tag Status.ok.body) ∧
              t.accounts = (judged true).accounts ∧ t.settings = stored.settings ∧ t.valves = s.valves ∧
              t.channels = s.channels ∧ t.stock = s.stock ∧
              (s.link.queue.length < 32 → t.link.notices = s.link.notices
                ++ [.contractCut x cap s.accounts.take .closed])))) ∧
      (¬locked → s.control.phase = .setup → (source ≠ s.settings.source ∨ cap ≠ s.settings.cap) → s.atRest →
        let take := if source = s.settings.source then s.accounts.take else stored.sumTake
        let takeDay := if source = s.settings.source then s.accounts.takeDay else s.clock.day
        exec (.setContract tag body) s = .next ((stored.putAccounts { s.accounts with
          take := take, takeDay := takeDay, cut := source.isSome && decide (cap ≤ take) }).answered 42 tag
            Status.ok.body))

/-- READ SLOT (R161): BAD FIELD for a body of neither form, NO SUCH where no slot is named; for an ORIGINAL slot the
check word is computed afresh, and one that fails makes the slot AMENDED with its check word void; the reply gives
the place, the check result and the slot. AMEND SLOT (R162): NO SUCH where no slot has that first interval; else OK,
the twelve columns replaced together, the posting state AMENDED with the check word void, the unaccounted figure and
DISCREPANT judged afresh, and the other fields kept; a slot of the day of the take changes the take by the source's
column, new less old (log 19 at its ends). -/
def Obligations.SlotsAreReadAndAmended : Prop :=
  (∀ (tag : Byte) (body : List Byte) (s : State), s.free →
    let reply (bs : List Byte) := exec (.readSlot tag body) s = .next (s.answered 45 tag bs)
    (namedSlot body s = none → reply Status.badField.body) ∧
    (namedSlot body s = some none → reply Status.noSuch.body) ∧
    ∀ place, namedSlot body s = some (some place) →
      (s.accounts.book[place]? = none → reply Status.noSuch.body) ∧
      ∀ x, s.accounts.book[place]? = some x →
        (x.original = false → reply (Status.ok.body ++ b1 place ++ b1 3 ++ slotRecord x)) ∧
        (x.original = true → checkWord x = x.check →
          reply (Status.ok.body ++ b1 place ++ b1 1 ++ slotRecord x)) ∧
        (x.original = true → checkWord x ≠ x.check →
          let amended : Slot := { x with original := false, check := 0 }
          exec (.readSlot tag body) s = .next ((s.putAccounts { s.accounts with
            book := s.accounts.book.set place amended }).answered 45 tag
              (Status.ok.body ++ b1 place ++ b1 2 ++ slotRecord amended)))) ∧
  (∀ (tag : Byte) (body : List Byte) (s : State), s.free → body.length = 51 →
    let first : Interval := { day := field body 0 2, index := field body 2 1 }
    (s.slotPlace first = none → exec (.amendSlot tag body) s = .next (s.answered 46 tag Status.noSuch.body)) ∧
    ∀ place x, s.slotPlace first = some place → s.accounts.book[place]? = some x →
      let columns : Vector Nat 12 := Vector.ofFn fun i => field body (3 + 4 * i.val) 4
      let figure := unaccountedOf columns x.atOpen x.atClose x.openedAtStart
      let y : Slot := { x with columns := columns, unaccounted := figure, original := false, check := 0,
                               discrepant := discrepantOf figure s.settings.discrepancy }
      let stored (take : Nat) := s.putAccounts { s.accounts with book := s.accounts.book.set place y, take := take }
      (s.settings.source = none ∨ first.day ≠ s.accounts.takeDay →
        ∃ t, exec (.amendSlot tag body) s = .next t ∧
          Kept ((stored s.accounts.take).answered 46 tag Status.ok.body) t) ∧
      (∀ k, s.settings.source = some k → first.day = s.accounts.takeDay →
        x.columns[k.val] ≤ s.accounts.take →
        s.accounts.take + columns[k.val] - x.columns[k.val] < 4294967295 →
        ∃ t, exec (.amendSlot tag body) s = .next t ∧
          Kept ((stored (s.accounts.take + columns[k.val] - x.columns[k.val])).answered 46 tag Status.ok.body) t))

/-- CLOSE DAY is refused with NOT OLDEST unless the oldest slot lies in the day, so on an empty book always, and with NOT
POSTED unless the day is ended and no half that began in it is FILLING or READY; a refused one changes nothing (R164). -/
def Obligations.CloseDayRefuses : Prop :=
  ∀ (tag : Byte) (body : List Byte) (s : State), s.free → body.length = 2 →
    let day := field body 0 2
    let refusal (k : Status) := exec (.closeDay tag body) s = .next (s.answered 47 tag k.body)
    let oldest := ∃ x, s.accounts.book.head? = some x ∧ x.first.day = day
    let waiting := ∃ i, (s.half i).state ≠ .empty ∧ (s.half i).first.day = day
    (s.accounts.book = [] → refusal .notOldest) ∧ (¬oldest → refusal .notOldest) ∧
    (oldest → dayLater s.clock.day day = false → refusal .notPosted) ∧
    (oldest → dayLater s.clock.day day = true → waiting → refusal .notPosted)

/-- A CLOSE DAY that passes (R165, R166): the statement is built from the day's slots and replaces any before it, the
book then begins with the other slots in their order, and the reply is OK; the settings, the clock and the take stand.
-/
def Obligations.CloseDayBuildsTheStatement : Prop :=
  ∀ (tag : Byte) (body : List Byte) (s : State), s.free → body.length = 2 →
    closeDayCheck (field body 0 2) s = .ok →
    ∃ t x, exec (.closeDay tag body) s = .next t ∧
      let slots := s.accounts.book.filter fun y => y.first.day = field body 0 2
      t.link.reply = some { kind := 0x6F#8, tag := tag, body := [0x00#8] } ∧ t.settings = s.settings ∧
      t.accounts.take = s.accounts.take ∧ t.clock = s.clock ∧
      (s.accounts.book.filter fun y => y.first.day ≠ field body 0 2) <+: t.accounts.book ∧
      t.accounts.statement = some x ∧ x.day = field body 0 2 ∧ x.slots = slots.length ∧
      x.intervals = (slots.map fun y => y.span).sum ∧
      (∀ i : Fin 12, x.totals[i] = (slots.map fun y => y.columns[i]).sum) ∧
      (∀ i : Fin 12, x.originalTotals[i]
        = ((slots.filter fun y => y.original && decide (checkWord y = y.check)).map fun y => y.columns[i]).sum) ∧
      x.originalCount + x.amendedCount = slots.length ∧
      x.originalCount = (slots.filter fun y => y.original && decide (checkWord y = y.check)).length ∧
      x.unaccountedTotal = (slots.map fun y => y.unaccounted.getD 0).sum ∧
      x.absentCount = (slots.filter fun y => y.unaccounted.isNone).length

/-! ## Invariants -/

/-- Reset meets every invariant stated below. -/
def Obligations.ResetMeetsTheInvariants : Prop :=
  State.reset.settingsInRange ∧ State.reset.bounded ∧ State.reset.clockSound ∧ State.reset.atRest ∧ State.reset.free

/-- Every step keeps every stored setting in its range, in the part and in both banks of the store. -/
def Obligations.StepKeepsSettingsInRange : Prop :=
  ∀ s t : State, s.settingsInRange → step s = .next t → t.settingsInRange

/-- Every step keeps the bounds of the move queue, the notice queue, the day book and the error count (R63, R158,
R178, R185). Every step keeps the clock at a time of day, under a gas-day start minute at a multiple of 30 (R8, R11,
R12), together with every time that a word left over from an event still carries to the clock (log 4). -/
def Obligations.StepKeepsBoundsAndClock : Prop :=
  (∀ s t : State, s.bounded → step s = .next t → t.bounded) ∧
  (∀ s t : State, s.clockSound → step s = .next t → t.clockSound)

/-- Each record has one owner (95): only the setting requests and power-on reset change the stored settings, only SET CLOCK,
STOP, a tick, the two hand-ons and power-on reset the clock, only CLOSE DAY and power-on reset the day statement, and only
the three order requests and power-on reset the fields that the host writes of an order. -/
def Obligations.RecordsHaveOneOwner : Prop :=
  ∀ (i : Instr) (s t : State), s.backlog = [] → (∀ p, i ≠ .powerOnReset p) → exec i s = .next t →
    (i.requestCode ∉ [some 8, some 13, some 16, some 17, some 19, some 32, some 33, some 34, some 35, some 41, some 42,
      some 43] → t.settings = s.settings) ∧
    (i.requestCode ≠ some 7 → i.requestCode ≠ some 4 → i ≠ .clockTick → i ≠ .changeOfMinute → i ≠ .intervalBoundary →
      t.clock = s.clock) ∧
    (i.requestCode ≠ some 47 → t.accounts.statement = s.accounts.statement) ∧
    (i.requestCode ∉ [some 23, some 24, some 25] → ∀ n, (t.order n).order = (s.order n).order)

end
end

