-- ==== Sys2Proof/Laws/State.lean ====
section
/-!
SUPPORT. Sys2Proof/Laws/State.lean: what each update of the state leaves as it is and what it gives back, one lemma for each
field and update, so that no later proof unfolds a record update.
-/

namespace Sys2Proof.Machine

/-! ## putHolder -/

@[simp] theorem State.pending_putHolder (s : State) (h : HolderId) (x : Holder) : (s.putHolder h x).pending = s.pending := rfl
@[simp] theorem State.backlog_putHolder (s : State) (h : HolderId) (x : Holder) : (s.putHolder h x).backlog = s.backlog := rfl
@[simp] theorem State.freeCount_putHolder (s : State) (h : HolderId) (x : Holder) : (s.putHolder h x).freeCount = s.freeCount := rfl
@[simp] theorem State.settings_putHolder (s : State) (h : HolderId) (x : Holder) : (s.putHolder h x).settings = s.settings := rfl
@[simp] theorem State.control_putHolder (s : State) (h : HolderId) (x : Holder) : (s.putHolder h x).control = s.control := rfl
@[simp] theorem State.clock_putHolder (s : State) (h : HolderId) (x : Holder) : (s.putHolder h x).clock = s.clock := rfl
@[simp] theorem State.selector_putHolder (s : State) (h : HolderId) (x : Holder) : (s.putHolder h x).selector = s.selector := rfl
@[simp] theorem State.valves_putHolder (s : State) (h : HolderId) (x : Holder) : (s.putHolder h x).valves = s.valves := rfl
@[simp] theorem State.channels_putHolder (s : State) (h : HolderId) (x : Holder) : (s.putHolder h x).channels = s.channels := rfl
@[simp] theorem State.districts_putHolder (s : State) (h : HolderId) (x : Holder) : (s.putHolder h x).districts = s.districts := rfl
@[simp] theorem State.accounts_putHolder (s : State) (h : HolderId) (x : Holder) : (s.putHolder h x).accounts = s.accounts := rfl
@[simp] theorem State.link_putHolder (s : State) (h : HolderId) (x : Holder) : (s.putHolder h x).link = s.link := rfl

/-! ## putValve -/

@[simp] theorem State.pending_putValve (s : State) (v : ValveId) (x : Valve) : (s.putValve v x).pending = s.pending := rfl
@[simp] theorem State.backlog_putValve (s : State) (v : ValveId) (x : Valve) : (s.putValve v x).backlog = s.backlog := rfl
@[simp] theorem State.freeCount_putValve (s : State) (v : ValveId) (x : Valve) : (s.putValve v x).freeCount = s.freeCount := rfl
@[simp] theorem State.settings_putValve (s : State) (v : ValveId) (x : Valve) : (s.putValve v x).settings = s.settings := rfl
@[simp] theorem State.control_putValve (s : State) (v : ValveId) (x : Valve) : (s.putValve v x).control = s.control := rfl
@[simp] theorem State.clock_putValve (s : State) (v : ValveId) (x : Valve) : (s.putValve v x).clock = s.clock := rfl
@[simp] theorem State.stock_putValve (s : State) (v : ValveId) (x : Valve) : (s.putValve v x).stock = s.stock := rfl
@[simp] theorem State.selector_putValve (s : State) (v : ValveId) (x : Valve) : (s.putValve v x).selector = s.selector := rfl
@[simp] theorem State.channels_putValve (s : State) (v : ValveId) (x : Valve) : (s.putValve v x).channels = s.channels := rfl
@[simp] theorem State.districts_putValve (s : State) (v : ValveId) (x : Valve) : (s.putValve v x).districts = s.districts := rfl
@[simp] theorem State.accounts_putValve (s : State) (v : ValveId) (x : Valve) : (s.putValve v x).accounts = s.accounts := rfl
@[simp] theorem State.link_putValve (s : State) (v : ValveId) (x : Valve) : (s.putValve v x).link = s.link := rfl

/-! ## putClaim -/

@[simp] theorem State.pending_putClaim (s : State) (v : ValveId) (k : Claim) : (s.putClaim v k).pending = s.pending := rfl
@[simp] theorem State.backlog_putClaim (s : State) (v : ValveId) (k : Claim) : (s.putClaim v k).backlog = s.backlog := rfl
@[simp] theorem State.freeCount_putClaim (s : State) (v : ValveId) (k : Claim) : (s.putClaim v k).freeCount = s.freeCount := rfl
@[simp] theorem State.settings_putClaim (s : State) (v : ValveId) (k : Claim) : (s.putClaim v k).settings = s.settings := rfl
@[simp] theorem State.control_putClaim (s : State) (v : ValveId) (k : Claim) : (s.putClaim v k).control = s.control := rfl
@[simp] theorem State.clock_putClaim (s : State) (v : ValveId) (k : Claim) : (s.putClaim v k).clock = s.clock := rfl
@[simp] theorem State.stock_putClaim (s : State) (v : ValveId) (k : Claim) : (s.putClaim v k).stock = s.stock := rfl
@[simp] theorem State.selector_putClaim (s : State) (v : ValveId) (k : Claim) : (s.putClaim v k).selector = s.selector := rfl
@[simp] theorem State.channels_putClaim (s : State) (v : ValveId) (k : Claim) : (s.putClaim v k).channels = s.channels := rfl
@[simp] theorem State.districts_putClaim (s : State) (v : ValveId) (k : Claim) : (s.putClaim v k).districts = s.districts := rfl
@[simp] theorem State.accounts_putClaim (s : State) (v : ValveId) (k : Claim) : (s.putClaim v k).accounts = s.accounts := rfl
@[simp] theorem State.link_putClaim (s : State) (v : ValveId) (k : Claim) : (s.putClaim v k).link = s.link := rfl

/-! ## putOrder -/

@[simp] theorem State.pending_putOrder (s : State) (n : OrderId) (x : OrderSlot) : (s.putOrder n x).pending = s.pending := rfl
@[simp] theorem State.backlog_putOrder (s : State) (n : OrderId) (x : OrderSlot) : (s.putOrder n x).backlog = s.backlog := rfl
@[simp] theorem State.freeCount_putOrder (s : State) (n : OrderId) (x : OrderSlot) : (s.putOrder n x).freeCount = s.freeCount := rfl
@[simp] theorem State.settings_putOrder (s : State) (n : OrderId) (x : OrderSlot) : (s.putOrder n x).settings = s.settings := rfl
@[simp] theorem State.control_putOrder (s : State) (n : OrderId) (x : OrderSlot) : (s.putOrder n x).control = s.control := rfl
@[simp] theorem State.clock_putOrder (s : State) (n : OrderId) (x : OrderSlot) : (s.putOrder n x).clock = s.clock := rfl
@[simp] theorem State.stock_putOrder (s : State) (n : OrderId) (x : OrderSlot) : (s.putOrder n x).stock = s.stock := rfl
@[simp] theorem State.selector_putOrder (s : State) (n : OrderId) (x : OrderSlot) : (s.putOrder n x).selector = s.selector := rfl
@[simp] theorem State.valves_putOrder (s : State) (n : OrderId) (x : OrderSlot) : (s.putOrder n x).valves = s.valves := rfl
@[simp] theorem State.districts_putOrder (s : State) (n : OrderId) (x : OrderSlot) : (s.putOrder n x).districts = s.districts := rfl
@[simp] theorem State.accounts_putOrder (s : State) (n : OrderId) (x : OrderSlot) : (s.putOrder n x).accounts = s.accounts := rfl
@[simp] theorem State.link_putOrder (s : State) (n : OrderId) (x : OrderSlot) : (s.putOrder n x).link = s.link := rfl

/-! ## putStatus -/

@[simp] theorem State.pending_putStatus (s : State) (n : OrderId) (k : OrderStatus) : (s.putStatus n k).pending = s.pending := rfl
@[simp] theorem State.backlog_putStatus (s : State) (n : OrderId) (k : OrderStatus) : (s.putStatus n k).backlog = s.backlog := rfl
@[simp] theorem State.freeCount_putStatus (s : State) (n : OrderId) (k : OrderStatus) : (s.putStatus n k).freeCount = s.freeCount := rfl
@[simp] theorem State.settings_putStatus (s : State) (n : OrderId) (k : OrderStatus) : (s.putStatus n k).settings = s.settings := rfl
@[simp] theorem State.control_putStatus (s : State) (n : OrderId) (k : OrderStatus) : (s.putStatus n k).control = s.control := rfl
@[simp] theorem State.clock_putStatus (s : State) (n : OrderId) (k : OrderStatus) : (s.putStatus n k).clock = s.clock := rfl
@[simp] theorem State.stock_putStatus (s : State) (n : OrderId) (k : OrderStatus) : (s.putStatus n k).stock = s.stock := rfl
@[simp] theorem State.selector_putStatus (s : State) (n : OrderId) (k : OrderStatus) : (s.putStatus n k).selector = s.selector := rfl
@[simp] theorem State.valves_putStatus (s : State) (n : OrderId) (k : OrderStatus) : (s.putStatus n k).valves = s.valves := rfl
@[simp] theorem State.districts_putStatus (s : State) (n : OrderId) (k : OrderStatus) : (s.putStatus n k).districts = s.districts := rfl
@[simp] theorem State.accounts_putStatus (s : State) (n : OrderId) (k : OrderStatus) : (s.putStatus n k).accounts = s.accounts := rfl
@[simp] theorem State.link_putStatus (s : State) (n : OrderId) (k : OrderStatus) : (s.putStatus n k).link = s.link := rfl

/-! ## putChannel -/

@[simp] theorem State.pending_putChannel (s : State) (c : ChannelId) (x : Channel) : (s.putChannel c x).pending = s.pending := rfl
@[simp] theorem State.backlog_putChannel (s : State) (c : ChannelId) (x : Channel) : (s.putChannel c x).backlog = s.backlog := rfl
@[simp] theorem State.freeCount_putChannel (s : State) (c : ChannelId) (x : Channel) : (s.putChannel c x).freeCount = s.freeCount := rfl
@[simp] theorem State.settings_putChannel (s : State) (c : ChannelId) (x : Channel) : (s.putChannel c x).settings = s.settings := rfl
@[simp] theorem State.control_putChannel (s : State) (c : ChannelId) (x : Channel) : (s.putChannel c x).control = s.control := rfl
@[simp] theorem State.clock_putChannel (s : State) (c : ChannelId) (x : Channel) : (s.putChannel c x).clock = s.clock := rfl
@[simp] theorem State.stock_putChannel (s : State) (c : ChannelId) (x : Channel) : (s.putChannel c x).stock = s.stock := rfl
@[simp] theorem State.selector_putChannel (s : State) (c : ChannelId) (x : Channel) : (s.putChannel c x).selector = s.selector := rfl
@[simp] theorem State.valves_putChannel (s : State) (c : ChannelId) (x : Channel) : (s.putChannel c x).valves = s.valves := rfl
@[simp] theorem State.districts_putChannel (s : State) (c : ChannelId) (x : Channel) : (s.putChannel c x).districts = s.districts := rfl
@[simp] theorem State.accounts_putChannel (s : State) (c : ChannelId) (x : Channel) : (s.putChannel c x).accounts = s.accounts := rfl
@[simp] theorem State.link_putChannel (s : State) (c : ChannelId) (x : Channel) : (s.putChannel c x).link = s.link := rfl

/-! ## putWork -/

@[simp] theorem State.pending_putWork (s : State) (c : ChannelId) (w : List Work) : (s.putWork c w).pending = s.pending := rfl
@[simp] theorem State.backlog_putWork (s : State) (c : ChannelId) (w : List Work) : (s.putWork c w).backlog = s.backlog := rfl
@[simp] theorem State.freeCount_putWork (s : State) (c : ChannelId) (w : List Work) : (s.putWork c w).freeCount = s.freeCount := rfl
@[simp] theorem State.settings_putWork (s : State) (c : ChannelId) (w : List Work) : (s.putWork c w).settings = s.settings := rfl
@[simp] theorem State.control_putWork (s : State) (c : ChannelId) (w : List Work) : (s.putWork c w).control = s.control := rfl
@[simp] theorem State.clock_putWork (s : State) (c : ChannelId) (w : List Work) : (s.putWork c w).clock = s.clock := rfl
@[simp] theorem State.stock_putWork (s : State) (c : ChannelId) (w : List Work) : (s.putWork c w).stock = s.stock := rfl
@[simp] theorem State.selector_putWork (s : State) (c : ChannelId) (w : List Work) : (s.putWork c w).selector = s.selector := rfl
@[simp] theorem State.valves_putWork (s : State) (c : ChannelId) (w : List Work) : (s.putWork c w).valves = s.valves := rfl
@[simp] theorem State.districts_putWork (s : State) (c : ChannelId) (w : List Work) : (s.putWork c w).districts = s.districts := rfl
@[simp] theorem State.accounts_putWork (s : State) (c : ChannelId) (w : List Work) : (s.putWork c w).accounts = s.accounts := rfl
@[simp] theorem State.link_putWork (s : State) (c : ChannelId) (w : List Work) : (s.putWork c w).link = s.link := rfl

/-! ## setBooster -/

@[simp] theorem State.pending_setBooster (s : State) (on : Bool) : (s.setBooster on).pending = s.pending := rfl
@[simp] theorem State.backlog_setBooster (s : State) (on : Bool) : (s.setBooster on).backlog = s.backlog := rfl
@[simp] theorem State.freeCount_setBooster (s : State) (on : Bool) : (s.setBooster on).freeCount = s.freeCount := rfl
@[simp] theorem State.settings_setBooster (s : State) (on : Bool) : (s.setBooster on).settings = s.settings := rfl
@[simp] theorem State.control_setBooster (s : State) (on : Bool) : (s.setBooster on).control = s.control := rfl
@[simp] theorem State.clock_setBooster (s : State) (on : Bool) : (s.setBooster on).clock = s.clock := rfl
@[simp] theorem State.stock_setBooster (s : State) (on : Bool) : (s.setBooster on).stock = s.stock := rfl
@[simp] theorem State.selector_setBooster (s : State) (on : Bool) : (s.setBooster on).selector = s.selector := rfl
@[simp] theorem State.valves_setBooster (s : State) (on : Bool) : (s.setBooster on).valves = s.valves := rfl
@[simp] theorem State.districts_setBooster (s : State) (on : Bool) : (s.setBooster on).districts = s.districts := rfl
@[simp] theorem State.accounts_setBooster (s : State) (on : Bool) : (s.setBooster on).accounts = s.accounts := rfl
@[simp] theorem State.link_setBooster (s : State) (on : Bool) : (s.setBooster on).link = s.link := rfl

/-! ## putDistrict -/

@[simp] theorem State.pending_putDistrict (s : State) (d : DistrictId) (x : District) : (s.putDistrict d x).pending = s.pending := rfl
@[simp] theorem State.backlog_putDistrict (s : State) (d : DistrictId) (x : District) : (s.putDistrict d x).backlog = s.backlog := rfl
@[simp] theorem State.freeCount_putDistrict (s : State) (d : DistrictId) (x : District) : (s.putDistrict d x).freeCount = s.freeCount := rfl
@[simp] theorem State.settings_putDistrict (s : State) (d : DistrictId) (x : District) : (s.putDistrict d x).settings = s.settings := rfl
@[simp] theorem State.control_putDistrict (s : State) (d : DistrictId) (x : District) : (s.putDistrict d x).control = s.control := rfl
@[simp] theorem State.clock_putDistrict (s : State) (d : DistrictId) (x : District) : (s.putDistrict d x).clock = s.clock := rfl
@[simp] theorem State.stock_putDistrict (s : State) (d : DistrictId) (x : District) : (s.putDistrict d x).stock = s.stock := rfl
@[simp] theorem State.selector_putDistrict (s : State) (d : DistrictId) (x : District) : (s.putDistrict d x).selector = s.selector := rfl
@[simp] theorem State.valves_putDistrict (s : State) (d : DistrictId) (x : District) : (s.putDistrict d x).valves = s.valves := rfl
@[simp] theorem State.channels_putDistrict (s : State) (d : DistrictId) (x : District) : (s.putDistrict d x).channels = s.channels := rfl
@[simp] theorem State.accounts_putDistrict (s : State) (d : DistrictId) (x : District) : (s.putDistrict d x).accounts = s.accounts := rfl
@[simp] theorem State.link_putDistrict (s : State) (d : DistrictId) (x : District) : (s.putDistrict d x).link = s.link := rfl

/-! ## putOutput -/

@[simp] theorem State.pending_putOutput (s : State) (p : OutletId) (n : Nat) : (s.putOutput p n).pending = s.pending := rfl
@[simp] theorem State.backlog_putOutput (s : State) (p : OutletId) (n : Nat) : (s.putOutput p n).backlog = s.backlog := rfl
@[simp] theorem State.freeCount_putOutput (s : State) (p : OutletId) (n : Nat) : (s.putOutput p n).freeCount = s.freeCount := rfl
@[simp] theorem State.settings_putOutput (s : State) (p : OutletId) (n : Nat) : (s.putOutput p n).settings = s.settings := rfl
@[simp] theorem State.control_putOutput (s : State) (p : OutletId) (n : Nat) : (s.putOutput p n).control = s.control := rfl
@[simp] theorem State.clock_putOutput (s : State) (p : OutletId) (n : Nat) : (s.putOutput p n).clock = s.clock := rfl
@[simp] theorem State.stock_putOutput (s : State) (p : OutletId) (n : Nat) : (s.putOutput p n).stock = s.stock := rfl
@[simp] theorem State.selector_putOutput (s : State) (p : OutletId) (n : Nat) : (s.putOutput p n).selector = s.selector := rfl
@[simp] theorem State.valves_putOutput (s : State) (p : OutletId) (n : Nat) : (s.putOutput p n).valves = s.valves := rfl
@[simp] theorem State.channels_putOutput (s : State) (p : OutletId) (n : Nat) : (s.putOutput p n).channels = s.channels := rfl
@[simp] theorem State.accounts_putOutput (s : State) (p : OutletId) (n : Nat) : (s.putOutput p n).accounts = s.accounts := rfl
@[simp] theorem State.link_putOutput (s : State) (p : OutletId) (n : Nat) : (s.putOutput p n).link = s.link := rfl

/-! ## putHalf -/

@[simp] theorem State.pending_putHalf (s : State) (i : HalfId) (x : Half) : (s.putHalf i x).pending = s.pending := rfl
@[simp] theorem State.backlog_putHalf (s : State) (i : HalfId) (x : Half) : (s.putHalf i x).backlog = s.backlog := rfl
@[simp] theorem State.freeCount_putHalf (s : State) (i : HalfId) (x : Half) : (s.putHalf i x).freeCount = s.freeCount := rfl
@[simp] theorem State.settings_putHalf (s : State) (i : HalfId) (x : Half) : (s.putHalf i x).settings = s.settings := rfl
@[simp] theorem State.control_putHalf (s : State) (i : HalfId) (x : Half) : (s.putHalf i x).control = s.control := rfl
@[simp] theorem State.clock_putHalf (s : State) (i : HalfId) (x : Half) : (s.putHalf i x).clock = s.clock := rfl
@[simp] theorem State.stock_putHalf (s : State) (i : HalfId) (x : Half) : (s.putHalf i x).stock = s.stock := rfl
@[simp] theorem State.selector_putHalf (s : State) (i : HalfId) (x : Half) : (s.putHalf i x).selector = s.selector := rfl
@[simp] theorem State.valves_putHalf (s : State) (i : HalfId) (x : Half) : (s.putHalf i x).valves = s.valves := rfl
@[simp] theorem State.channels_putHalf (s : State) (i : HalfId) (x : Half) : (s.putHalf i x).channels = s.channels := rfl
@[simp] theorem State.districts_putHalf (s : State) (i : HalfId) (x : Half) : (s.putHalf i x).districts = s.districts := rfl
@[simp] theorem State.link_putHalf (s : State) (i : HalfId) (x : Half) : (s.putHalf i x).link = s.link := rfl

/-! ## putSettings -/

@[simp] theorem State.pending_putSettings (s : State) (x : Settings) : (s.putSettings x).pending = s.pending := rfl
@[simp] theorem State.backlog_putSettings (s : State) (x : Settings) : (s.putSettings x).backlog = s.backlog := rfl
@[simp] theorem State.freeCount_putSettings (s : State) (x : Settings) : (s.putSettings x).freeCount = s.freeCount := rfl
@[simp] theorem State.settings_putSettings (s : State) (x : Settings) : (s.putSettings x).settings = x := rfl
@[simp] theorem State.control_putSettings (s : State) (x : Settings) : (s.putSettings x).control = s.control := rfl
@[simp] theorem State.clock_putSettings (s : State) (x : Settings) : (s.putSettings x).clock = s.clock := rfl
@[simp] theorem State.stock_putSettings (s : State) (x : Settings) : (s.putSettings x).stock = s.stock := rfl
@[simp] theorem State.selector_putSettings (s : State) (x : Settings) : (s.putSettings x).selector = s.selector := rfl
@[simp] theorem State.valves_putSettings (s : State) (x : Settings) : (s.putSettings x).valves = s.valves := rfl
@[simp] theorem State.channels_putSettings (s : State) (x : Settings) : (s.putSettings x).channels = s.channels := rfl
@[simp] theorem State.districts_putSettings (s : State) (x : Settings) : (s.putSettings x).districts = s.districts := rfl
@[simp] theorem State.accounts_putSettings (s : State) (x : Settings) : (s.putSettings x).accounts = s.accounts := rfl
@[simp] theorem State.link_putSettings (s : State) (x : Settings) : (s.putSettings x).link = s.link := rfl

/-! ## putControl -/

@[simp] theorem State.pending_putControl (s : State) (x : PhaseUnit) : (s.putControl x).pending = s.pending := rfl
@[simp] theorem State.backlog_putControl (s : State) (x : PhaseUnit) : (s.putControl x).backlog = s.backlog := rfl
@[simp] theorem State.freeCount_putControl (s : State) (x : PhaseUnit) : (s.putControl x).freeCount = s.freeCount := rfl
@[simp] theorem State.settings_putControl (s : State) (x : PhaseUnit) : (s.putControl x).settings = s.settings := rfl
@[simp] theorem State.control_putControl (s : State) (x : PhaseUnit) : (s.putControl x).control = x := rfl
@[simp] theorem State.clock_putControl (s : State) (x : PhaseUnit) : (s.putControl x).clock = s.clock := rfl
@[simp] theorem State.stock_putControl (s : State) (x : PhaseUnit) : (s.putControl x).stock = s.stock := rfl
@[simp] theorem State.selector_putControl (s : State) (x : PhaseUnit) : (s.putControl x).selector = s.selector := rfl
@[simp] theorem State.valves_putControl (s : State) (x : PhaseUnit) : (s.putControl x).valves = s.valves := rfl
@[simp] theorem State.channels_putControl (s : State) (x : PhaseUnit) : (s.putControl x).channels = s.channels := rfl
@[simp] theorem State.districts_putControl (s : State) (x : PhaseUnit) : (s.putControl x).districts = s.districts := rfl
@[simp] theorem State.accounts_putControl (s : State) (x : PhaseUnit) : (s.putControl x).accounts = s.accounts := rfl
@[simp] theorem State.link_putControl (s : State) (x : PhaseUnit) : (s.putControl x).link = s.link := rfl

/-! ## putClock -/

@[simp] theorem State.pending_putClock (s : State) (x : ClockUnit) : (s.putClock x).pending = s.pending := rfl
@[simp] theorem State.backlog_putClock (s : State) (x : ClockUnit) : (s.putClock x).backlog = s.backlog := rfl
@[simp] theorem State.freeCount_putClock (s : State) (x : ClockUnit) : (s.putClock x).freeCount = s.freeCount := rfl
@[simp] theorem State.settings_putClock (s : State) (x : ClockUnit) : (s.putClock x).settings = s.settings := rfl
@[simp] theorem State.control_putClock (s : State) (x : ClockUnit) : (s.putClock x).control = s.control := rfl
@[simp] theorem State.clock_putClock (s : State) (x : ClockUnit) : (s.putClock x).clock = x := rfl
@[simp] theorem State.stock_putClock (s : State) (x : ClockUnit) : (s.putClock x).stock = s.stock := rfl
@[simp] theorem State.selector_putClock (s : State) (x : ClockUnit) : (s.putClock x).selector = s.selector := rfl
@[simp] theorem State.valves_putClock (s : State) (x : ClockUnit) : (s.putClock x).valves = s.valves := rfl
@[simp] theorem State.channels_putClock (s : State) (x : ClockUnit) : (s.putClock x).channels = s.channels := rfl
@[simp] theorem State.districts_putClock (s : State) (x : ClockUnit) : (s.putClock x).districts = s.districts := rfl
@[simp] theorem State.accounts_putClock (s : State) (x : ClockUnit) : (s.putClock x).accounts = s.accounts := rfl
@[simp] theorem State.link_putClock (s : State) (x : ClockUnit) : (s.putClock x).link = s.link := rfl

/-! ## putStock -/

@[simp] theorem State.pending_putStock (s : State) (x : StockUnit) : (s.putStock x).pending = s.pending := rfl
@[simp] theorem State.backlog_putStock (s : State) (x : StockUnit) : (s.putStock x).backlog = s.backlog := rfl
@[simp] theorem State.freeCount_putStock (s : State) (x : StockUnit) : (s.putStock x).freeCount = s.freeCount := rfl
@[simp] theorem State.settings_putStock (s : State) (x : StockUnit) : (s.putStock x).settings = s.settings := rfl
@[simp] theorem State.control_putStock (s : State) (x : StockUnit) : (s.putStock x).control = s.control := rfl
@[simp] theorem State.clock_putStock (s : State) (x : StockUnit) : (s.putStock x).clock = s.clock := rfl
@[simp] theorem State.stock_putStock (s : State) (x : StockUnit) : (s.putStock x).stock = x := rfl
@[simp] theorem State.selector_putStock (s : State) (x : StockUnit) : (s.putStock x).selector = s.selector := rfl
@[simp] theorem State.valves_putStock (s : State) (x : StockUnit) : (s.putStock x).valves = s.valves := rfl
@[simp] theorem State.channels_putStock (s : State) (x : StockUnit) : (s.putStock x).channels = s.channels := rfl
@[simp] theorem State.districts_putStock (s : State) (x : StockUnit) : (s.putStock x).districts = s.districts := rfl
@[simp] theorem State.accounts_putStock (s : State) (x : StockUnit) : (s.putStock x).accounts = s.accounts := rfl
@[simp] theorem State.link_putStock (s : State) (x : StockUnit) : (s.putStock x).link = s.link := rfl

/-! ## putSelector -/

@[simp] theorem State.pending_putSelector (s : State) (x : Selector) : (s.putSelector x).pending = s.pending := rfl
@[simp] theorem State.backlog_putSelector (s : State) (x : Selector) : (s.putSelector x).backlog = s.backlog := rfl
@[simp] theorem State.freeCount_putSelector (s : State) (x : Selector) : (s.putSelector x).freeCount = s.freeCount := rfl
@[simp] theorem State.settings_putSelector (s : State) (x : Selector) : (s.putSelector x).settings = s.settings := rfl
@[simp] theorem State.control_putSelector (s : State) (x : Selector) : (s.putSelector x).control = s.control := rfl
@[simp] theorem State.clock_putSelector (s : State) (x : Selector) : (s.putSelector x).clock = s.clock := rfl
@[simp] theorem State.stock_putSelector (s : State) (x : Selector) : (s.putSelector x).stock = s.stock := rfl
@[simp] theorem State.selector_putSelector (s : State) (x : Selector) : (s.putSelector x).selector = x := rfl
@[simp] theorem State.valves_putSelector (s : State) (x : Selector) : (s.putSelector x).valves = s.valves := rfl
@[simp] theorem State.channels_putSelector (s : State) (x : Selector) : (s.putSelector x).channels = s.channels := rfl
@[simp] theorem State.districts_putSelector (s : State) (x : Selector) : (s.putSelector x).districts = s.districts := rfl
@[simp] theorem State.accounts_putSelector (s : State) (x : Selector) : (s.putSelector x).accounts = s.accounts := rfl
@[simp] theorem State.link_putSelector (s : State) (x : Selector) : (s.putSelector x).link = s.link := rfl

/-! ## putValves -/

@[simp] theorem State.pending_putValves (s : State) (x : ValveUnit) : (s.putValves x).pending = s.pending := rfl
@[simp] theorem State.backlog_putValves (s : State) (x : ValveUnit) : (s.putValves x).backlog = s.backlog := rfl
@[simp] theorem State.freeCount_putValves (s : State) (x : ValveUnit) : (s.putValves x).freeCount = s.freeCount := rfl
@[simp] theorem State.settings_putValves (s : State) (x : ValveUnit) : (s.putValves x).settings = s.settings := rfl
@[simp] theorem State.control_putValves (s : State) (x : ValveUnit) : (s.putValves x).control = s.control := rfl
@[simp] theorem State.clock_putValves (s : State) (x : ValveUnit) : (s.putValves x).clock = s.clock := rfl
@[simp] theorem State.stock_putValves (s : State) (x : ValveUnit) : (s.putValves x).stock = s.stock := rfl
@[simp] theorem State.selector_putValves (s : State) (x : ValveUnit) : (s.putValves x).selector = s.selector := rfl
@[simp] theorem State.valves_putValves (s : State) (x : ValveUnit) : (s.putValves x).valves = x := rfl
@[simp] theorem State.channels_putValves (s : State) (x : ValveUnit) : (s.putValves x).channels = s.channels := rfl
@[simp] theorem State.districts_putValves (s : State) (x : ValveUnit) : (s.putValves x).districts = s.districts := rfl
@[simp] theorem State.accounts_putValves (s : State) (x : ValveUnit) : (s.putValves x).accounts = s.accounts := rfl
@[simp] theorem State.link_putValves (s : State) (x : ValveUnit) : (s.putValves x).link = s.link := rfl

/-! ## putAccounts -/

@[simp] theorem State.pending_putAccounts (s : State) (x : AccountUnit) : (s.putAccounts x).pending = s.pending := rfl
@[simp] theorem State.backlog_putAccounts (s : State) (x : AccountUnit) : (s.putAccounts x).backlog = s.backlog := rfl
@[simp] theorem State.freeCount_putAccounts (s : State) (x : AccountUnit) : (s.putAccounts x).freeCount = s.freeCount := rfl
@[simp] theorem State.settings_putAccounts (s : State) (x : AccountUnit) : (s.putAccounts x).settings = s.settings := rfl
@[simp] theorem State.control_putAccounts (s : State) (x : AccountUnit) : (s.putAccounts x).control = s.control := rfl
@[simp] theorem State.clock_putAccounts (s : State) (x : AccountUnit) : (s.putAccounts x).clock = s.clock := rfl
@[simp] theorem State.stock_putAccounts (s : State) (x : AccountUnit) : (s.putAccounts x).stock = s.stock := rfl
@[simp] theorem State.selector_putAccounts (s : State) (x : AccountUnit) : (s.putAccounts x).selector = s.selector := rfl
@[simp] theorem State.valves_putAccounts (s : State) (x : AccountUnit) : (s.putAccounts x).valves = s.valves := rfl
@[simp] theorem State.channels_putAccounts (s : State) (x : AccountUnit) : (s.putAccounts x).channels = s.channels := rfl
@[simp] theorem State.districts_putAccounts (s : State) (x : AccountUnit) : (s.putAccounts x).districts = s.districts := rfl
@[simp] theorem State.accounts_putAccounts (s : State) (x : AccountUnit) : (s.putAccounts x).accounts = x := rfl
@[simp] theorem State.link_putAccounts (s : State) (x : AccountUnit) : (s.putAccounts x).link = s.link := rfl

/-! ## putLink -/

@[simp] theorem State.pending_putLink (s : State) (x : LinkPort) : (s.putLink x).pending = s.pending := rfl
@[simp] theorem State.backlog_putLink (s : State) (x : LinkPort) : (s.putLink x).backlog = s.backlog := rfl
@[simp] theorem State.freeCount_putLink (s : State) (x : LinkPort) : (s.putLink x).freeCount = s.freeCount := rfl
@[simp] theorem State.settings_putLink (s : State) (x : LinkPort) : (s.putLink x).settings = s.settings := rfl
@[simp] theorem State.control_putLink (s : State) (x : LinkPort) : (s.putLink x).control = s.control := rfl
@[simp] theorem State.clock_putLink (s : State) (x : LinkPort) : (s.putLink x).clock = s.clock := rfl
@[simp] theorem State.stock_putLink (s : State) (x : LinkPort) : (s.putLink x).stock = s.stock := rfl
@[simp] theorem State.selector_putLink (s : State) (x : LinkPort) : (s.putLink x).selector = s.selector := rfl
@[simp] theorem State.valves_putLink (s : State) (x : LinkPort) : (s.putLink x).valves = s.valves := rfl
@[simp] theorem State.channels_putLink (s : State) (x : LinkPort) : (s.putLink x).channels = s.channels := rfl
@[simp] theorem State.districts_putLink (s : State) (x : LinkPort) : (s.putLink x).districts = s.districts := rfl
@[simp] theorem State.accounts_putLink (s : State) (x : LinkPort) : (s.putLink x).accounts = s.accounts := rfl
@[simp] theorem State.link_putLink (s : State) (x : LinkPort) : (s.putLink x).link = x := rfl

/-! ## notify -/

@[simp] theorem State.pending_notify (s : State) (n : Notice) : (s.notify n).pending = s.pending := rfl
@[simp] theorem State.backlog_notify (s : State) (n : Notice) : (s.notify n).backlog = s.backlog := rfl
@[simp] theorem State.freeCount_notify (s : State) (n : Notice) : (s.notify n).freeCount = s.freeCount := rfl
@[simp] theorem State.settings_notify (s : State) (n : Notice) : (s.notify n).settings = s.settings := rfl
@[simp] theorem State.control_notify (s : State) (n : Notice) : (s.notify n).control = s.control := rfl
@[simp] theorem State.clock_notify (s : State) (n : Notice) : (s.notify n).clock = s.clock := rfl
@[simp] theorem State.stock_notify (s : State) (n : Notice) : (s.notify n).stock = s.stock := rfl
@[simp] theorem State.selector_notify (s : State) (n : Notice) : (s.notify n).selector = s.selector := rfl
@[simp] theorem State.valves_notify (s : State) (n : Notice) : (s.notify n).valves = s.valves := rfl
@[simp] theorem State.channels_notify (s : State) (n : Notice) : (s.notify n).channels = s.channels := rfl
@[simp] theorem State.districts_notify (s : State) (n : Notice) : (s.notify n).districts = s.districts := rfl
@[simp] theorem State.accounts_notify (s : State) (n : Notice) : (s.notify n).accounts = s.accounts := rfl

/-! ## Inside one record -/

@[simp] theorem State.stock_condition_putHolder (s : State) (h : HolderId) (x : Holder) : (s.putHolder h x).stock.condition = s.stock.condition := rfl
@[simp] theorem State.stock_release_putHolder (s : State) (h : HolderId) (x : Holder) : (s.putHolder h x).stock.release = s.stock.release := rfl
@[simp] theorem State.valves_protect_putValve (s : State) (v : ValveId) (x : Valve) : (s.putValve v x).valves.protect = s.valves.protect := rfl
@[simp] theorem State.valves_queue_putValve (s : State) (v : ValveId) (x : Valve) : (s.putValve v x).valves.queue = s.valves.queue := rfl
@[simp] theorem State.valves_main_putValve (s : State) (v : ValveId) (x : Valve) : (s.putValve v x).valves.main = s.valves.main := rfl
@[simp] theorem State.valves_refused_putValve (s : State) (v : ValveId) (x : Valve) : (s.putValve v x).valves.refused = s.valves.refused := rfl
@[simp] theorem State.valves_protect_putClaim (s : State) (v : ValveId) (k : Claim) : (s.putClaim v k).valves.protect = s.valves.protect := rfl
@[simp] theorem State.valves_queue_putClaim (s : State) (v : ValveId) (k : Claim) : (s.putClaim v k).valves.queue = s.valves.queue := rfl
@[simp] theorem State.valves_main_putClaim (s : State) (v : ValveId) (k : Claim) : (s.putClaim v k).valves.main = s.valves.main := rfl
@[simp] theorem State.valves_refused_putClaim (s : State) (v : ValveId) (k : Claim) : (s.putClaim v k).valves.refused = s.valves.refused := rfl
@[simp] theorem State.channels_channels_putOrder (s : State) (n : OrderId) (x : OrderSlot) : (s.putOrder n x).channels.channels = s.channels.channels := rfl
@[simp] theorem State.channels_booster_putOrder (s : State) (n : OrderId) (x : OrderSlot) : (s.putOrder n x).channels.booster = s.channels.booster := rfl
@[simp] theorem State.channels_channels_putStatus (s : State) (n : OrderId) (k : OrderStatus) : (s.putStatus n k).channels.channels = s.channels.channels := rfl
@[simp] theorem State.channels_booster_putStatus (s : State) (n : OrderId) (k : OrderStatus) : (s.putStatus n k).channels.booster = s.channels.booster := rfl
@[simp] theorem State.channels_orders_putChannel (s : State) (c : ChannelId) (x : Channel) : (s.putChannel c x).channels.orders = s.channels.orders := rfl
@[simp] theorem State.channels_booster_putChannel (s : State) (c : ChannelId) (x : Channel) : (s.putChannel c x).channels.booster = s.channels.booster := rfl
@[simp] theorem State.channels_orders_putWork (s : State) (c : ChannelId) (w : List Work) : (s.putWork c w).channels.orders = s.channels.orders := rfl
@[simp] theorem State.channels_booster_putWork (s : State) (c : ChannelId) (w : List Work) : (s.putWork c w).channels.booster = s.channels.booster := rfl
@[simp] theorem State.channels_orders_setBooster (s : State) (on : Bool) : (s.setBooster on).channels.orders = s.channels.orders := rfl
@[simp] theorem State.channels_channels_setBooster (s : State) (on : Bool) : (s.setBooster on).channels.channels = s.channels.channels := rfl
@[simp] theorem State.districts_outputs_putDistrict (s : State) (d : DistrictId) (x : District) : (s.putDistrict d x).districts.outputs = s.districts.outputs := rfl
@[simp] theorem State.districts_table_putOutput (s : State) (p : OutletId) (n : Nat) : (s.putOutput p n).districts.table = s.districts.table := rfl
@[simp] theorem State.accounts_book_putHalf (s : State) (i : HalfId) (x : Half) : (s.putHalf i x).accounts.book = s.accounts.book := rfl
@[simp] theorem State.accounts_lastPosted_putHalf (s : State) (i : HalfId) (x : Half) : (s.putHalf i x).accounts.lastPosted = s.accounts.lastPosted := rfl
@[simp] theorem State.accounts_statement_putHalf (s : State) (i : HalfId) (x : Half) : (s.putHalf i x).accounts.statement = s.accounts.statement := rfl
@[simp] theorem State.accounts_gapPending_putHalf (s : State) (i : HalfId) (x : Half) : (s.putHalf i x).accounts.gapPending = s.accounts.gapPending := rfl
@[simp] theorem State.accounts_memoryLost_putHalf (s : State) (i : HalfId) (x : Half) : (s.putHalf i x).accounts.memoryLost = s.accounts.memoryLost := rfl
@[simp] theorem State.accounts_take_putHalf (s : State) (i : HalfId) (x : Half) : (s.putHalf i x).accounts.take = s.accounts.take := rfl
@[simp] theorem State.accounts_takeDay_putHalf (s : State) (i : HalfId) (x : Half) : (s.putHalf i x).accounts.takeDay = s.accounts.takeDay := rfl
@[simp] theorem State.accounts_cut_putHalf (s : State) (i : HalfId) (x : Half) : (s.putHalf i x).accounts.cut = s.accounts.cut := rfl

/-! ## Reading what was put -/

@[simp] theorem State.holder_putHolder (s : State) (h k : HolderId) (x : Holder) :
    (s.putHolder h x).holder k = if h = k then x else s.holder k := by
  simp only [State.holder, State.putHolder, Fin.getElem_fin, Vector.getElem_set, Fin.ext_iff]

@[simp] theorem State.valve_putValve (s : State) (v w : ValveId) (x : Valve) :
    (s.putValve v x).valve w = if v = w then x else s.valve w := by
  simp only [State.valve, State.putValve, Fin.getElem_fin, Vector.getElem_set, Fin.ext_iff]

@[simp] theorem State.valve_putClaim (s : State) (v w : ValveId) (k : Claim) :
    (s.putClaim v k).valve w = if v = w then { s.valve v with claim := k } else s.valve w :=
  State.valve_putValve s v w _

@[simp] theorem State.order_putOrder (s : State) (n m : OrderId) (x : OrderSlot) :
    (s.putOrder n x).order m = if n = m then x else s.order m := by
  simp only [State.order, State.putOrder, Fin.getElem_fin, Vector.getElem_set, Fin.ext_iff]

@[simp] theorem State.order_putStatus (s : State) (n m : OrderId) (k : OrderStatus) :
    (s.putStatus n k).order m = if n = m then { s.order n with status := k } else s.order m :=
  State.order_putOrder s n m _

@[simp] theorem State.channel_putChannel (s : State) (c e : ChannelId) (x : Channel) :
    (s.putChannel c x).channel e = if c = e then x else s.channel e := by
  cases c <;> cases e <;> rfl

@[simp] theorem State.channel_putWork (s : State) (c e : ChannelId) (w : List Work) :
    (s.putWork c w).channel e = if c = e then { s.channel c with work := w } else s.channel e :=
  State.channel_putChannel s c e _

@[simp] theorem State.district_putDistrict (s : State) (d e : DistrictId) (x : District) :
    (s.putDistrict d x).district e = if d = e then x else s.district e := by
  simp only [State.district, State.putDistrict, Fin.getElem_fin, Vector.getElem_set, Fin.ext_iff]

@[simp] theorem State.half_putHalf (s : State) (i j : HalfId) (x : Half) :
    (s.putHalf i x).half j = if i = j then x else s.half j := by
  cases i <;> cases j <;> rfl

@[simp] theorem State.outputs_putOutput (s : State) (p q : OutletId) (n : Nat) :
    (s.putOutput p n).districts.outputs[q] = if p = q then n else s.districts.outputs[q] := by
  simp only [State.putOutput, Fin.getElem_fin, Vector.getElem_set, Fin.ext_iff]

/-! ## Records that another record's update does not reach -/

@[simp] theorem State.holder_putValve_other (s : State) (v : ValveId) (x : Valve) (r : HolderId) :
    (s.putValve v x).holder r = s.holder r := rfl
@[simp] theorem State.holder_putClaim_other (s : State) (v : ValveId) (k : Claim) (r : HolderId) :
    (s.putClaim v k).holder r = s.holder r := rfl
@[simp] theorem State.holder_putOrder_other (s : State) (n : OrderId) (x : OrderSlot) (r : HolderId) :
    (s.putOrder n x).holder r = s.holder r := rfl
@[simp] theorem State.holder_putStatus_other (s : State) (n : OrderId) (k : OrderStatus) (r : HolderId) :
    (s.putStatus n k).holder r = s.holder r := rfl
@[simp] theorem State.holder_putChannel_other (s : State) (c : ChannelId) (x : Channel) (r : HolderId) :
    (s.putChannel c x).holder r = s.holder r := rfl
@[simp] theorem State.holder_putWork_other (s : State) (c : ChannelId) (w : List Work) (r : HolderId) :
    (s.putWork c w).holder r = s.holder r := rfl
@[simp] theorem State.holder_setBooster_other (s : State) (on : Bool) (r : HolderId) :
    (s.setBooster on).holder r = s.holder r := rfl
@[simp] theorem State.holder_putDistrict_other (s : State) (d : DistrictId) (x : District) (r : HolderId) :
    (s.putDistrict d x).holder r = s.holder r := rfl
@[simp] theorem State.holder_putOutput_other (s : State) (p : OutletId) (n : Nat) (r : HolderId) :
    (s.putOutput p n).holder r = s.holder r := rfl
@[simp] theorem State.holder_putHalf_other (s : State) (i : HalfId) (x : Half) (r : HolderId) :
    (s.putHalf i x).holder r = s.holder r := rfl
@[simp] theorem State.holder_putSettings_other (s : State) (x : Settings) (r : HolderId) :
    (s.putSettings x).holder r = s.holder r := rfl
@[simp] theorem State.holder_putControl_other (s : State) (x : PhaseUnit) (r : HolderId) :
    (s.putControl x).holder r = s.holder r := rfl
@[simp] theorem State.holder_putClock_other (s : State) (x : ClockUnit) (r : HolderId) :
    (s.putClock x).holder r = s.holder r := rfl
@[simp] theorem State.holder_putSelector_other (s : State) (x : Selector) (r : HolderId) :
    (s.putSelector x).holder r = s.holder r := rfl
@[simp] theorem State.holder_putValves_other (s : State) (x : ValveUnit) (r : HolderId) :
    (s.putValves x).holder r = s.holder r := rfl
@[simp] theorem State.holder_putAccounts_other (s : State) (x : AccountUnit) (r : HolderId) :
    (s.putAccounts x).holder r = s.holder r := rfl
@[simp] theorem State.holder_putLink_other (s : State) (x : LinkPort) (r : HolderId) :
    (s.putLink x).holder r = s.holder r := rfl
@[simp] theorem State.holder_notify_other (s : State) (n : Notice) (r : HolderId) :
    (s.notify n).holder r = s.holder r := rfl

@[simp] theorem State.valve_putHolder_other (s : State) (h : HolderId) (x : Holder) (r : ValveId) :
    (s.putHolder h x).valve r = s.valve r := rfl
@[simp] theorem State.valve_putOrder_other (s : State) (n : OrderId) (x : OrderSlot) (r : ValveId) :
    (s.putOrder n x).valve r = s.valve r := rfl
@[simp] theorem State.valve_putStatus_other (s : State) (n : OrderId) (k : OrderStatus) (r : ValveId) :
    (s.putStatus n k).valve r = s.valve r := rfl
@[simp] theorem State.valve_putChannel_other (s : State) (c : ChannelId) (x : Channel) (r : ValveId) :
    (s.putChannel c x).valve r = s.valve r := rfl
@[simp] theorem State.valve_putWork_other (s : State) (c : ChannelId) (w : List Work) (r : ValveId) :
    (s.putWork c w).valve r = s.valve r := rfl
@[simp] theorem State.valve_setBooster_other (s : State) (on : Bool) (r : ValveId) :
    (s.setBooster on).valve r = s.valve r := rfl
@[simp] theorem State.valve_putDistrict_other (s : State) (d : DistrictId) (x : District) (r : ValveId) :
    (s.putDistrict d x).valve r = s.valve r := rfl
@[simp] theorem State.valve_putOutput_other (s : State) (p : OutletId) (n : Nat) (r : ValveId) :
    (s.putOutput p n).valve r = s.valve r := rfl
@[simp] theorem State.valve_putHalf_other (s : State) (i : HalfId) (x : Half) (r : ValveId) :
    (s.putHalf i x).valve r = s.valve r := rfl
@[simp] theorem State.valve_putSettings_other (s : State) (x : Settings) (r : ValveId) :
    (s.putSettings x).valve r = s.valve r := rfl
@[simp] theorem State.valve_putControl_other (s : State) (x : PhaseUnit) (r : ValveId) :
    (s.putControl x).valve r = s.valve r := rfl
@[simp] theorem State.valve_putClock_other (s : State) (x : ClockUnit) (r : ValveId) :
    (s.putClock x).valve r = s.valve r := rfl
@[simp] theorem State.valve_putStock_other (s : State) (x : StockUnit) (r : ValveId) :
    (s.putStock x).valve r = s.valve r := rfl
@[simp] theorem State.valve_putSelector_other (s : State) (x : Selector) (r : ValveId) :
    (s.putSelector x).valve r = s.valve r := rfl
@[simp] theorem State.valve_putAccounts_other (s : State) (x : AccountUnit) (r : ValveId) :
    (s.putAccounts x).valve r = s.valve r := rfl
@[simp] theorem State.valve_putLink_other (s : State) (x : LinkPort) (r : ValveId) :
    (s.putLink x).valve r = s.valve r := rfl
@[simp] theorem State.valve_notify_other (s : State) (n : Notice) (r : ValveId) :
    (s.notify n).valve r = s.valve r := rfl

@[simp] theorem State.order_putHolder_other (s : State) (h : HolderId) (x : Holder) (r : OrderId) :
    (s.putHolder h x).order r = s.order r := rfl
@[simp] theorem State.order_putValve_other (s : State) (v : ValveId) (x : Valve) (r : OrderId) :
    (s.putValve v x).order r = s.order r := rfl
@[simp] theorem State.order_putClaim_other (s : State) (v : ValveId) (k : Claim) (r : OrderId) :
    (s.putClaim v k).order r = s.order r := rfl
@[simp] theorem State.order_putChannel_other (s : State) (c : ChannelId) (x : Channel) (r : OrderId) :
    (s.putChannel c x).order r = s.order r := rfl
@[simp] theorem State.order_putWork_other (s : State) (c : ChannelId) (w : List Work) (r : OrderId) :
    (s.putWork c w).order r = s.order r := rfl
@[simp] theorem State.order_setBooster_other (s : State) (on : Bool) (r : OrderId) :
    (s.setBooster on).order r = s.order r := rfl
@[simp] theorem State.order_putDistrict_other (s : State) (d : DistrictId) (x : District) (r : OrderId) :
    (s.putDistrict d x).order r = s.order r := rfl
@[simp] theorem State.order_putOutput_other (s : State) (p : OutletId) (n : Nat) (r : OrderId) :
    (s.putOutput p n).order r = s.order r := rfl
@[simp] theorem State.order_putHalf_other (s : State) (i : HalfId) (x : Half) (r : OrderId) :
    (s.putHalf i x).order r = s.order r := rfl
@[simp] theorem State.order_putSettings_other (s : State) (x : Settings) (r : OrderId) :
    (s.putSettings x).order r = s.order r := rfl
@[simp] theorem State.order_putControl_other (s : State) (x : PhaseUnit) (r : OrderId) :
    (s.putControl x).order r = s.order r := rfl
@[simp] theorem State.order_putClock_other (s : State) (x : ClockUnit) (r : OrderId) :
    (s.putClock x).order r = s.order r := rfl
@[simp] theorem State.order_putStock_other (s : State) (x : StockUnit) (r : OrderId) :
    (s.putStock x).order r = s.order r := rfl
@[simp] theorem State.order_putSelector_other (s : State) (x : Selector) (r : OrderId) :
    (s.putSelector x).order r = s.order r := rfl
@[simp] theorem State.order_putValves_other (s : State) (x : ValveUnit) (r : OrderId) :
    (s.putValves x).order r = s.order r := rfl
@[simp] theorem State.order_putAccounts_other (s : State) (x : AccountUnit) (r : OrderId) :
    (s.putAccounts x).order r = s.order r := rfl
@[simp] theorem State.order_putLink_other (s : State) (x : LinkPort) (r : OrderId) :
    (s.putLink x).order r = s.order r := rfl
@[simp] theorem State.order_notify_other (s : State) (n : Notice) (r : OrderId) :
    (s.notify n).order r = s.order r := rfl

@[simp] theorem State.channel_putHolder_other (s : State) (h : HolderId) (x : Holder) (r : ChannelId) :
    (s.putHolder h x).channel r = s.channel r := rfl
@[simp] theorem State.channel_putValve_other (s : State) (v : ValveId) (x : Valve) (r : ChannelId) :
    (s.putValve v x).channel r = s.channel r := rfl
@[simp] theorem State.channel_putClaim_other (s : State) (v : ValveId) (k : Claim) (r : ChannelId) :
    (s.putClaim v k).channel r = s.channel r := rfl
@[simp] theorem State.channel_putOrder_other (s : State) (n : OrderId) (x : OrderSlot) (r : ChannelId) :
    (s.putOrder n x).channel r = s.channel r := rfl
@[simp] theorem State.channel_putStatus_other (s : State) (n : OrderId) (k : OrderStatus) (r : ChannelId) :
    (s.putStatus n k).channel r = s.channel r := rfl
@[simp] theorem State.channel_setBooster_other (s : State) (on : Bool) (r : ChannelId) :
    (s.setBooster on).channel r = s.channel r := rfl
@[simp] theorem State.channel_putDistrict_other (s : State) (d : DistrictId) (x : District) (r : ChannelId) :
    (s.putDistrict d x).channel r = s.channel r := rfl
@[simp] theorem State.channel_putOutput_other (s : State) (p : OutletId) (n : Nat) (r : ChannelId) :
    (s.putOutput p n).channel r = s.channel r := rfl
@[simp] theorem State.channel_putHalf_other (s : State) (i : HalfId) (x : Half) (r : ChannelId) :
    (s.putHalf i x).channel r = s.channel r := rfl
@[simp] theorem State.channel_putSettings_other (s : State) (x : Settings) (r : ChannelId) :
    (s.putSettings x).channel r = s.channel r := rfl
@[simp] theorem State.channel_putControl_other (s : State) (x : PhaseUnit) (r : ChannelId) :
    (s.putControl x).channel r = s.channel r := rfl
@[simp] theorem State.channel_putClock_other (s : State) (x : ClockUnit) (r : ChannelId) :
    (s.putClock x).channel r = s.channel r := rfl
@[simp] theorem State.channel_putStock_other (s : State) (x : StockUnit) (r : ChannelId) :
    (s.putStock x).channel r = s.channel r := rfl
@[simp] theorem State.channel_putSelector_other (s : State) (x : Selector) (r : ChannelId) :
    (s.putSelector x).channel r = s.channel r := rfl
@[simp] theorem State.channel_putValves_other (s : State) (x : ValveUnit) (r : ChannelId) :
    (s.putValves x).channel r = s.channel r := rfl
@[simp] theorem State.channel_putAccounts_other (s : State) (x : AccountUnit) (r : ChannelId) :
    (s.putAccounts x).channel r = s.channel r := rfl
@[simp] theorem State.channel_putLink_other (s : State) (x : LinkPort) (r : ChannelId) :
    (s.putLink x).channel r = s.channel r := rfl
@[simp] theorem State.channel_notify_other (s : State) (n : Notice) (r : ChannelId) :
    (s.notify n).channel r = s.channel r := rfl

@[simp] theorem State.district_putHolder_other (s : State) (h : HolderId) (x : Holder) (r : DistrictId) :
    (s.putHolder h x).district r = s.district r := rfl
@[simp] theorem State.district_putValve_other (s : State) (v : ValveId) (x : Valve) (r : DistrictId) :
    (s.putValve v x).district r = s.district r := rfl
@[simp] theorem State.district_putClaim_other (s : State) (v : ValveId) (k : Claim) (r : DistrictId) :
    (s.putClaim v k).district r = s.district r := rfl
@[simp] theorem State.district_putOrder_other (s : State) (n : OrderId) (x : OrderSlot) (r : DistrictId) :
    (s.putOrder n x).district r = s.district r := rfl
@[simp] theorem State.district_putStatus_other (s : State) (n : OrderId) (k : OrderStatus) (r : DistrictId) :
    (s.putStatus n k).district r = s.district r := rfl
@[simp] theorem State.district_putChannel_other (s : State) (c : ChannelId) (x : Channel) (r : DistrictId) :
    (s.putChannel c x).district r = s.district r := rfl
@[simp] theorem State.district_putWork_other (s : State) (c : ChannelId) (w : List Work) (r : DistrictId) :
    (s.putWork c w).district r = s.district r := rfl
@[simp] theorem State.district_setBooster_other (s : State) (on : Bool) (r : DistrictId) :
    (s.setBooster on).district r = s.district r := rfl
@[simp] theorem State.district_putOutput_other (s : State) (p : OutletId) (n : Nat) (r : DistrictId) :
    (s.putOutput p n).district r = s.district r := rfl
@[simp] theorem State.district_putHalf_other (s : State) (i : HalfId) (x : Half) (r : DistrictId) :
    (s.putHalf i x).district r = s.district r := rfl
@[simp] theorem State.district_putSettings_other (s : State) (x : Settings) (r : DistrictId) :
    (s.putSettings x).district r = s.district r := rfl
@[simp] theorem State.district_putControl_other (s : State) (x : PhaseUnit) (r : DistrictId) :
    (s.putControl x).district r = s.district r := rfl
@[simp] theorem State.district_putClock_other (s : State) (x : ClockUnit) (r : DistrictId) :
    (s.putClock x).district r = s.district r := rfl
@[simp] theorem State.district_putStock_other (s : State) (x : StockUnit) (r : DistrictId) :
    (s.putStock x).district r = s.district r := rfl
@[simp] theorem State.district_putSelector_other (s : State) (x : Selector) (r : DistrictId) :
    (s.putSelector x).district r = s.district r := rfl
@[simp] theorem State.district_putValves_other (s : State) (x : ValveUnit) (r : DistrictId) :
    (s.putValves x).district r = s.district r := rfl
@[simp] theorem State.district_putAccounts_other (s : State) (x : AccountUnit) (r : DistrictId) :
    (s.putAccounts x).district r = s.district r := rfl
@[simp] theorem State.district_putLink_other (s : State) (x : LinkPort) (r : DistrictId) :
    (s.putLink x).district r = s.district r := rfl
@[simp] theorem State.district_notify_other (s : State) (n : Notice) (r : DistrictId) :
    (s.notify n).district r = s.district r := rfl

@[simp] theorem State.half_putHolder_other (s : State) (h : HolderId) (x : Holder) (r : HalfId) :
    (s.putHolder h x).half r = s.half r := rfl
@[simp] theorem State.half_putValve_other (s : State) (v : ValveId) (x : Valve) (r : HalfId) :
    (s.putValve v x).half r = s.half r := rfl
@[simp] theorem State.half_putClaim_other (s : State) (v : ValveId) (k : Claim) (r : HalfId) :
    (s.putClaim v k).half r = s.half r := rfl
@[simp] theorem State.half_putOrder_other (s : State) (n : OrderId) (x : OrderSlot) (r : HalfId) :
    (s.putOrder n x).half r = s.half r := rfl
@[simp] theorem State.half_putStatus_other (s : State) (n : OrderId) (k : OrderStatus) (r : HalfId) :
    (s.putStatus n k).half r = s.half r := rfl
@[simp] theorem State.half_putChannel_other (s : State) (c : ChannelId) (x : Channel) (r : HalfId) :
    (s.putChannel c x).half r = s.half r := rfl
@[simp] theorem State.half_putWork_other (s : State) (c : ChannelId) (w : List Work) (r : HalfId) :
    (s.putWork c w).half r = s.half r := rfl
@[simp] theorem State.half_setBooster_other (s : State) (on : Bool) (r : HalfId) :
    (s.setBooster on).half r = s.half r := rfl
@[simp] theorem State.half_putDistrict_other (s : State) (d : DistrictId) (x : District) (r : HalfId) :
    (s.putDistrict d x).half r = s.half r := rfl
@[simp] theorem State.half_putOutput_other (s : State) (p : OutletId) (n : Nat) (r : HalfId) :
    (s.putOutput p n).half r = s.half r := rfl
@[simp] theorem State.half_putSettings_other (s : State) (x : Settings) (r : HalfId) :
    (s.putSettings x).half r = s.half r := rfl
@[simp] theorem State.half_putControl_other (s : State) (x : PhaseUnit) (r : HalfId) :
    (s.putControl x).half r = s.half r := rfl
@[simp] theorem State.half_putClock_other (s : State) (x : ClockUnit) (r : HalfId) :
    (s.putClock x).half r = s.half r := rfl
@[simp] theorem State.half_putStock_other (s : State) (x : StockUnit) (r : HalfId) :
    (s.putStock x).half r = s.half r := rfl
@[simp] theorem State.half_putSelector_other (s : State) (x : Selector) (r : HalfId) :
    (s.putSelector x).half r = s.half r := rfl
@[simp] theorem State.half_putValves_other (s : State) (x : ValveUnit) (r : HalfId) :
    (s.putValves x).half r = s.half r := rfl
@[simp] theorem State.half_putLink_other (s : State) (x : LinkPort) (r : HalfId) :
    (s.putLink x).half r = s.half r := rfl
@[simp] theorem State.half_notify_other (s : State) (n : Notice) (r : HalfId) :
    (s.notify n).half r = s.half r := rfl

@[simp] theorem State.running_putHolder (s : State) (h : HolderId) (x : Holder) : (s.putHolder h x).running = s.running := rfl
@[simp] theorem State.running_putValve (s : State) (v : ValveId) (x : Valve) : (s.putValve v x).running = s.running := rfl
@[simp] theorem State.running_putClaim (s : State) (v : ValveId) (k : Claim) : (s.putClaim v k).running = s.running := rfl
@[simp] theorem State.running_putOrder (s : State) (n : OrderId) (x : OrderSlot) : (s.putOrder n x).running = s.running := rfl
@[simp] theorem State.running_putStatus (s : State) (n : OrderId) (k : OrderStatus) : (s.putStatus n k).running = s.running := rfl
@[simp] theorem State.running_putChannel (s : State) (c : ChannelId) (x : Channel) : (s.putChannel c x).running = s.running := rfl
@[simp] theorem State.running_putWork (s : State) (c : ChannelId) (w : List Work) : (s.putWork c w).running = s.running := rfl
@[simp] theorem State.running_setBooster (s : State) (on : Bool) : (s.setBooster on).running = s.running := rfl
@[simp] theorem State.running_putDistrict (s : State) (d : DistrictId) (x : District) : (s.putDistrict d x).running = s.running := rfl
@[simp] theorem State.running_putOutput (s : State) (p : OutletId) (n : Nat) : (s.putOutput p n).running = s.running := rfl
@[simp] theorem State.running_putHalf (s : State) (i : HalfId) (x : Half) : (s.putHalf i x).running = s.running := rfl
@[simp] theorem State.running_putSettings (s : State) (x : Settings) : (s.putSettings x).running = s.running := rfl
@[simp] theorem State.running_putClock (s : State) (x : ClockUnit) : (s.putClock x).running = s.running := rfl
@[simp] theorem State.running_putStock (s : State) (x : StockUnit) : (s.putStock x).running = s.running := rfl
@[simp] theorem State.running_putSelector (s : State) (x : Selector) : (s.putSelector x).running = s.running := rfl
@[simp] theorem State.running_putValves (s : State) (x : ValveUnit) : (s.putValves x).running = s.running := rfl
@[simp] theorem State.running_putAccounts (s : State) (x : AccountUnit) : (s.putAccounts x).running = s.running := rfl
@[simp] theorem State.running_putLink (s : State) (x : LinkPort) : (s.putLink x).running = s.running := rfl
@[simp] theorem State.running_notify (s : State) (n : Notice) : (s.notify n).running = s.running := rfl

end Sys2Proof.Machine
end

