-- ==== Sys2Proof/Laws/Kept.lean ====
section
/-!
SUPPORT. Sys2Proof/Laws/Kept.lean: what the words between blocks leave alone (95: a step is whole; each record has one
owner), as relations between the state before and the state after.
-/

namespace Sys2Proof.Machine

/-- A word that is neither one of the clock unit's own, nor a boundary or a clock set on its way to the account unit, nor
START's at the stock unit or the account unit. -/
def Act.inner : Act → Bool
  | .secondPasses | .handMinute | .handBoundary | .setClock _ _ _ _ => false
  | .boundary _ | .clockSet _ _ _ | .startStock | .startAccounts => false
  | _ => true

theorem Kept0.refl (s : State) : Kept0 s s := by constructor <;> simp

theorem Kept.refl (s : State) : Kept s s := ⟨Kept0.refl s, by simp, by simp, rfl, fun _ _ => rfl⟩

theorem Kept0.trans {s t u : State} (a : Kept0 s t) (b : Kept0 t u) : Kept0 s u where
  pending := b.pending.trans a.pending
  settings := b.settings.trans a.settings
  control := b.control.trans a.control
  clock := b.clock.trans a.clock
  baud := b.baud.trans a.baud
  errors := b.errors.trans a.errors
  taking := b.taking.trans a.taking
  reply := b.reply.trans a.reply
  busyReply := b.busyReply.trans a.busyReply
  release := b.release.trans a.release
  content h := (b.content h).trans (a.content h)
  atCrown h := (b.atCrown h).trans (a.atCrown h)
  atLow h := (b.atLow h).trans (a.atLow h)
  cause h := (b.cause h).trans (a.cause h)
  held d := (b.held d).trans (a.held d)
  sample d := (b.sample d).trans (a.sample d)
  fault v := (b.fault v).trans (a.fault v)
  openMade v := (b.openMade v).trans (a.openMade v)
  closedMade v := (b.closedMade v).trans (a.closedMade v)
  order n := (b.order n).trans (a.order n)
  statement := b.statement.trans a.statement
  moves h := b.moves (a.moves h)
  places h := b.places (a.places h)
  slots h := b.slots (a.slots h)
  notices := a.notices.trans b.notices
  book := a.book.trans b.book

/-- The condition that the records give depends on the settings and the holders alone (R29, R31). -/
theorem State.conditionNow_congr {s t : State} (hs : t.settings = s.settings) (hh : ∀ h, t.holder h = s.holder h) :
    t.conditionNow = s.conditionNow := by
  have i : ∀ h, t.inStock h = s.inStock h := fun h => by simp only [State.inStock, State.holderSettings, hs, hh]
  simp only [State.conditionNow, State.stockReading, State.yardStock, State.stockComplete, hs, hh, i]

theorem Kept.trans {s t u : State} (a : Kept s t) (b : Kept t u) : Kept s u where
  toKept0 := a.toKept0.trans b.toKept0
  holder h k := by
    have := a.holder h k
    rw [← this] at k ⊢
    exact b.holder h k
  filling i k := by
    have e := a.filling i k
    have f := b.filling i (by rw [e]; exact k)
    rw [f, e]
  take := b.take.trans a.take
  condition hn hc := by
    have hh : ∀ h, t.holder h = s.holder h := fun h => a.holder h (hn h)
    have e : t.stock.condition = s.stock.condition := a.condition hn hc
    refine (b.condition (fun h => by rw [hh]; exact hn h) ?_).trans e
    rw [e, hc]
    exact (State.conditionNow_congr a.settings hh).symm

/-- An effect that keeps what `Kept` names and hands on inner words alone. -/
structure Quiet (s : State) (e : Effect) : Prop where
  kept : Kept s e.1
  inner : e.2.all Act.inner = true

/-! ## The updates of one record -/

theorem Kept.putSelector (s : State) (x : Selector) : Kept s (s.putSelector x) :=
  ⟨by constructor <;> simp, by simp, by simp, rfl, fun _ _ => rfl⟩
theorem Kept.putChannel (s : State) (c : ChannelId) (x : Channel) : Kept s (s.putChannel c x) :=
  ⟨by constructor <;> simp, by simp, by simp, rfl, fun _ _ => rfl⟩
theorem Kept.putWork (s : State) (c : ChannelId) (w : List Work) : Kept s (s.putWork c w) :=
  ⟨by constructor <;> simp, by simp, by simp, rfl, fun _ _ => rfl⟩
theorem Kept.setBooster (s : State) (on : Bool) : Kept s (s.setBooster on) :=
  ⟨by constructor <;> simp, by simp, by simp, rfl, fun _ _ => rfl⟩
theorem Kept.putOutput (s : State) (p : OutletId) (n : Nat) : Kept s (s.putOutput p n) :=
  ⟨by constructor <;> simp, by simp, by simp, rfl, fun _ _ => rfl⟩

theorem Kept0.putHalf (s : State) (i : HalfId) (x : Half) : Kept0 s (s.putHalf i x) := by constructor <;> simp

/-- A half changed that is not FILLING, or in its marks alone. -/
theorem Kept.putHalf {s : State} {i : HalfId} {x : Half}
    (h : (s.half i).state = .filling → x = { s.half i with marks := x.marks }) : Kept s (s.putHalf i x) :=
  ⟨Kept0.putHalf s i x, by simp, by
    intro j k
    simp only [State.half_putHalf]
    split
    · rename_i e; subst e; exact h k
    · rfl, rfl, fun _ _ => rfl⟩

/-- Two states that differ in nothing `Kept` looks at. -/
theorem Kept.of_eq {s t : State} (hp : t.pending = s.pending) (hs : t.settings = s.settings) (hc : t.control = s.control)
    (hk : t.clock = s.clock) (hst : t.stock = s.stock) (hv : t.valves = s.valves) (hch : t.channels = s.channels)
    (hd : t.districts = s.districts) (ha : t.accounts = s.accounts) (hl : t.link = s.link) : Kept s t := by
  refine ⟨?_, ?_, ?_, by rw [ha], fun _ _ => by rw [hst]⟩
  · constructor <;> simp_all [State.holder, State.district, State.valve, State.order]
  · simp_all [State.holder]
  · intro i _
    have e : t.half i = s.half i := by simp [State.half, ha]
    rw [e]

theorem Kept.freeCount (s : State) (n : Nat) : Kept s { s with freeCount := n } :=
  Kept.of_eq rfl rfl rfl rfl rfl rfl rfl rfl rfl rfl
theorem Kept.backlog (s : State) (l : List Act) : Kept s { s with backlog := l } :=
  Kept.of_eq rfl rfl rfl rfl rfl rfl rfl rfl rfl rfl

/-- A valve changed in anything but its fault and its switch record. -/
theorem Kept.putValve {s : State} {v : ValveId} {x : Valve} (hf : x.fault = (s.valve v).fault)
    (ho : x.openMade = (s.valve v).openMade) (hc : x.closedMade = (s.valve v).closedMade) :
    Kept s (s.putValve v x) := by
  refine ⟨?_, by simp, by simp, rfl, fun _ _ => rfl⟩
  constructor <;> simp <;> intro w <;> split <;> simp_all

theorem Kept.putClaim (s : State) (v : ValveId) (k : Claim) : Kept s (s.putClaim v k) := Kept.putValve rfl rfl rfl

/-- The valve unit's lists changed. -/
theorem Kept.putValves {s : State} {x : ValveUnit} (ht : x.table = s.valves.table)
    (hq : s.valves.queue.length ≤ Config.queuePlaces → x.queue.length ≤ Config.queuePlaces) :
    Kept s (s.putValves x) := by
  have hv : ∀ v, (s.putValves x).valve v = s.valve v := fun v => by simp [State.valve, ht]
  refine ⟨?_, by simp, by simp, rfl, fun _ _ => rfl⟩
  constructor <;> first | exact hq | simp [hv]

/-- The valve unit's lists changed, the move queue grown no longer. -/
theorem Kept.valves {s : State} {x : ValveUnit} (ht : x.table = s.valves.table)
    (hq : x.queue.length ≤ s.valves.queue.length) : Kept s (s.putValves x) :=
  Kept.putValves ht fun h => Nat.le_trans hq h

/-- An order slot changed in anything but what the host wrote. -/
theorem Kept.putOrder {s : State} {n : OrderId} {x : OrderSlot} (h : x.order = (s.order n).order) :
    Kept s (s.putOrder n x) := by
  refine ⟨?_, by simp, by simp, rfl, fun _ _ => rfl⟩
  constructor <;> simp <;> intro w <;> split <;> simp_all

theorem Kept.putStatus (s : State) (n : OrderId) (k : OrderStatus) : Kept s (s.putStatus n k) := Kept.putOrder rfl

/-- A district changed in anything but its held setpoint and last sample. -/
theorem Kept.putDistrict {s : State} {d : DistrictId} {x : District} (hh : x.held = (s.district d).held)
    (hs : x.sample = (s.district d).sample) : Kept s (s.putDistrict d x) := by
  refine ⟨?_, by simp, by simp, rfl, fun _ _ => rfl⟩
  constructor <;> simp <;> intro w <;> split <;> simp_all

/-- A holder changed in anything but its content, its guards and its fault cause. -/
theorem Kept0.putHolder {s : State} {h : HolderId} {x : Holder} (hn : x.content = (s.holder h).content)
    (hc : x.atCrown = (s.holder h).atCrown) (hl : x.atLow = (s.holder h).atLow)
    (hf : x.cause = (s.holder h).cause) : Kept0 s (s.putHolder h x) := by
  constructor <;> simp <;> intro w <;> split <;> simp_all

/-- An ISOLATING holder changed so. -/
theorem Kept.putHolder {s : State} {h : HolderId} {x : Holder} (hs : (s.holder h).state = .isolating)
    (hn : x.content = (s.holder h).content) (hc : x.atCrown = (s.holder h).atCrown)
    (hl : x.atLow = (s.holder h).atLow) (hf : x.cause = (s.holder h).cause) : Kept s (s.putHolder h x) := by
  refine ⟨Kept0.putHolder hn hc hl hf, ?_, by simp, rfl, fun _ _ => rfl⟩
  intro k hk
  simp only [State.holder_putHolder]
  split
  · rename_i e; subst e; exact absurd hs hk
  · rfl

theorem Kept.putStock {s : State} {x : StockUnit} (h : x.holders = s.stock.holders)
    (hr : x.release = s.stock.release)
    (hc : (∀ k, (s.holder k).state ≠ .isolating) → s.stock.condition = s.conditionNow → x.condition = s.stock.condition) :
    Kept s (s.putStock x) := by
  have hv : ∀ k, (s.putStock x).holder k = s.holder k := fun k => by simp [State.holder, h]
  refine ⟨?_, by simp [hv], by simp, rfl, hc⟩
  constructor <;> simp [hv, hr]

/-- The account unit's record changed, its statement and halves the same and its book longer at the end alone. -/
theorem Kept.putAccounts {s : State} {x : AccountUnit} (h : x.statement = s.accounts.statement)
    (hh : x.halves = s.accounts.halves) (hb : s.accounts.book <+: x.book)
    (hl : s.accounts.book.length ≤ Config.bookPlaces → x.book.length ≤ Config.bookPlaces)
    (ht : x.take = s.accounts.take) : Kept s (s.putAccounts x) := by
  refine ⟨?_, by simp, by simp [State.half, hh], ht, fun _ _ => rfl⟩
  constructor <;> first | exact hl | exact hb | simp [h]

/-- The account unit's record changed in neither. -/
theorem Kept.accounts {s : State} {x : AccountUnit} (h : x.statement = s.accounts.statement)
    (hh : x.halves = s.accounts.halves) (hb : x.book = s.accounts.book) (ht : x.take = s.accounts.take) :
    Kept s (s.putAccounts x) :=
  Kept.putAccounts h hh ⟨[], by rw [List.append_nil, hb]⟩ (fun k => by rw [hb]; exact k) ht

/-! ## The link port -/

/-- The transmitter's choice moves no reply and no count of errors, and keeps the notices of the queue. -/
theorem LinkPort.choose_keeps (l : LinkPort) :
    l.choose.baud = l.baud ∧ l.choose.errors = l.errors ∧ l.choose.taking = l.taking ∧ l.choose.reply = l.reply
      ∧ l.choose.busyReply = l.busyReply ∧ l.choose.queue.length = l.queue.length
      ∧ l.choose.notices = l.notices := by
  unfold LinkPort.notices LinkPort.choose numberHead
  repeat' split
  all_goals simp_all

/-- A notice placed joins the tail of a queue with room, and no reply and no count of errors moves (R185). -/
theorem LinkPort.place_keeps (l : LinkPort) (n : Notice) :
    (l.place n).baud = l.baud ∧ (l.place n).errors = l.errors ∧ (l.place n).taking = l.taking
      ∧ (l.place n).reply = l.reply ∧ (l.place n).busyReply = l.busyReply
      ∧ (l.queue.length ≤ Config.noticePlaces → (l.place n).queue.length ≤ Config.noticePlaces)
      ∧ (l.place n).notices = if l.queue.length < Config.noticePlaces then l.notices ++ [n] else l.notices := by
  simp only [LinkPort.place]
  split
  · split
    · refine ⟨rfl, rfl, rfl, rfl, rfl, fun _ => ?_, by simp [LinkPort.notices]⟩
      simp; omega
    · obtain ⟨a, b, c, d, e, f, g⟩ :=
        LinkPort.choose_keeps { l with queue := l.queue ++ [{ notice := n, number := none }] }
      refine ⟨a, b, c, d, e, fun _ => ?_, by rw [g]; simp [LinkPort.notices]⟩
      rw [f]; simp; omega
  · split
    · exact ⟨rfl, rfl, rfl, rfl, rfl, id, rfl⟩
    · obtain ⟨a, b, c, d, e, f, g⟩ := LinkPort.choose_keeps { l with dropped := countUp l.dropped }
      exact ⟨a, b, c, d, e, fun h => by rw [f]; exact h, by rw [g]; rfl⟩

theorem Kept.notify (s : State) (n : Notice) : Kept s (s.notify n) := by
  obtain ⟨a, b, c, d, e, f, g⟩ := LinkPort.place_keeps s.link n
  refine ⟨?_, by simp, by simp, rfl, fun _ _ => rfl⟩
  constructor <;> first
    | exact f
    | simp [State.notify, a, b, c, d, e]
    | skip
  simp only [g]
  split
  · exact List.prefix_append _ _
  · exact List.prefix_rfl

/-! ## Effects put together -/

theorem Quiet.nil (s : State) : Quiet s (s, []) := ⟨Kept.refl s, rfl⟩

theorem Quiet.ofKept {s t : State} (k : Kept s t) : Quiet s (t, []) := ⟨k, rfl⟩

theorem Quiet.words {s : State} {l : List Act} (h : l.all Act.inner = true) : Quiet s (s, l) := ⟨Kept.refl s, h⟩

theorem Quiet.after {s t : State} {e : Effect} (k : Kept s t) (q : Quiet t e) : Quiet s e := ⟨k.trans q.kept, q.inner⟩

/-- An effect, a further change of the state, and further words. -/
theorem Quiet.more {s t u : State} {l m : List Act} (q : Quiet s (t, l)) (k : Kept t u) (h : m.all Act.inner = true) :
    Quiet s (u, l ++ m) := ⟨q.kept.trans k, by simpa using And.intro (by simpa using q.inner) (by simpa using h)⟩

theorem Quiet.moreWords {s t : State} {l m : List Act} (q : Quiet s (t, l)) (h : m.all Act.inner = true) :
    Quiet s (t, l ++ m) := q.more (Kept.refl t) h

theorem Quiet.wordsBefore {s t : State} {l m : List Act} (q : Quiet s (t, l)) (h : m.all Act.inner = true) :
    Quiet s (t, m ++ l) := ⟨q.kept, by simpa using And.intro (by simpa using h) (by simpa using q.inner)⟩

/-- Two effects one after the other. -/
theorem Quiet.append {s t u : State} {l m : List Act} (q : Quiet s (t, l)) (r : Quiet t (u, m)) :
    Quiet s (u, l ++ m) := q.more r.kept r.inner

theorem Quiet.andThen {s : State} {e : Effect} {f : State → Effect} (q : Quiet s e) (r : ∀ t, Quiet t (f t)) :
    Quiet s (e.andThen f) := by
  obtain ⟨t, l⟩ := e
  exact q.append (r t)

theorem Quiet.foldl {α : Type} {s : State} {l : List α} {e : Effect} {f : α → State → Effect} (q : Quiet s e)
    (r : ∀ x t, Quiet t (f x t)) : Quiet s (l.foldl (fun e x => e.andThen (f x)) e) := by
  induction l generalizing e with
  | nil => exact q
  | cons x l ih => exact ih (q.andThen (r x))

theorem Kept.foldl {α : Type} {s t : State} {l : List α} {f : State → α → State} (k : Kept s t)
    (r : ∀ u x, Kept u (f u x)) : Kept s (l.foldl f t) := by
  induction l generalizing t with
  | nil => exact k
  | cons x l ih => exact ih (k.trans (r t x))

theorem Kept0.foldl {α : Type} {s t : State} {l : List α} {f : State → α → State} (k : Kept0 s t)
    (r : ∀ u x, Kept0 u (f u x)) : Kept0 s (l.foldl f t) := by
  induction l generalizing t with
  | nil => exact k
  | cons x l ih => exact ih (k.trans (r t x))

end Sys2Proof.Machine
end

