-- ==== Sys2Proof/Laws/ValveUnit.lean ====
section
/-!
SUPPORT. Sys2Proof/Laws/ValveUnit.lean: what each operation of the valve unit keeps (R57 to R72).
-/

namespace Sys2Proof.Machine

/-! ## The lists of the valve unit -/

theorem dropEntry_length (q : List QueueEntry) (v : ValveId) : (dropEntry q v).length ≤ q.length :=
  List.length_filter_le _ _

theorem mapEntry_length (q : List QueueEntry) (v : ValveId) (f : QueueEntry → QueueEntry) :
    (mapEntry q v f).length = q.length := by simp [mapEntry]

theorem dropManual_length (q : List QueueEntry) (v : ValveId) : (dropManual q v).length ≤ q.length :=
  Nat.le_trans (List.length_filter_le _ _) (by simp)

theorem dropManuals_length (vs : List ValveId) (q : List QueueEntry) : (vs.foldl dropManual q).length ≤ q.length := by
  induction vs generalizing q with
  | nil => exact Nat.le_refl _
  | cons v vs ih => exact Nat.le_trans (ih _) (dropManual_length q v)

/-- A place is left only where fewer than 16 entries stand in the queue (R63). -/
theorem placesFull_length {q : List QueueEntry} {k : MoveClass} (h : placesFull q k = false) :
    q.length < Config.queuePlaces := by
  simp [placesFull] at h; omega

theorem all_map_inner {α : Type} (l : List α) (f : α → Act) (h : ∀ x, (f x).inner = true) :
    (l.map f).all Act.inner = true := by simp [h]

theorem all_ite (p : Prop) [Decidable p] (l m : List Act) :
    (if p then l else m).all Act.inner = if p then l.all Act.inner else m.all Act.inner := by split <;> rfl

theorem all_ite_inner (p : Prop) [Decidable p] {l m : List Act} (hl : l.all Act.inner = true)
    (hm : m.all Act.inner = true) : (if p then l else m).all Act.inner = true := by split <;> assumption

/-- The actuator main changed after a change that keeps the rest. -/
theorem Kept.thenMain {s t : State} {m : Main} (k : Kept s t) :
    Kept s (t.putValves { t.valves with main := m }) := k.trans (Kept.valves rfl (Nat.le_refl _))

/-! ## Claims -/

theorem claimRequest_quiet (k : Claim) (vs : List ValveId) (s : State) : Quiet s (claimRequest k vs s).2 := by
  simp only [claimRequest]
  split
  · exact Quiet.nil s
  split
  · exact Quiet.nil s
  split
  · exact Quiet.nil s
  refine ⟨(Kept.foldl (Kept.refl s) fun t v => Kept.putClaim t v k).trans
    (Kept.valves rfl (dropManuals_length vs _)), by simp [Act.inner]⟩

theorem releaseClaims_quiet (k : Claim) (vs : List ValveId) (s : State) : Quiet s (releaseClaims k vs s) := by
  simp only [releaseClaims]
  split
  · exact Quiet.nil s
  · exact ⟨Kept.foldl (Kept.refl s) fun t v => Kept.putClaim t v _, rfl⟩

/-! ## Move requests -/

theorem noteRefused_kept (r : Requester) (s : State) : Kept s (noteRefused r s) := by
  simp only [noteRefused]
  split
  · exact Kept.refl s
  · exact Kept.valves rfl (Nat.le_refl _)

theorem arbiterCall_inner (s : State) : (arbiterCall s).all Act.inner = true := by
  simp only [arbiterCall]; split <;> rfl

theorem newEntry_quiet (r : Requester) (v : ValveId) (t : Limit) (s : State) : Quiet s (newEntry r v t s).2 := by
  simp only [newEntry]
  split
  · exact ⟨noteRefused_kept r s, rfl⟩
  · rename_i h
    refine ⟨Kept.putValves rfl fun _ => ?_, arbiterCall_inner _⟩
    have := placesFull_length (Bool.eq_false_iff.mpr h)
    simp; omega

theorem mergeRequest_quiet (r : Requester) (e : QueueEntry) (t : Limit) (s : State) :
    Quiet s (mergeRequest r e t s).2 := by
  simp only [mergeRequest]
  split
  · refine ⟨Kept.valves rfl (by simp [mapEntry_length]), ?_⟩
    exact all_ite_inner _ rfl rfl
  split
  · have k : Kept s (s.putValves { s.valves with queue := dropEntry s.valves.queue e.valve }) :=
      Kept.valves rfl (dropEntry_length _ _)
    have q := newEntry_quiet r e.valve t (s.putValves { s.valves with queue := dropEntry s.valves.queue e.valve })
    split
    · exact ⟨noteRefused_kept r s, rfl⟩
    · rename_i heq
      rw [heq] at q
      exact (Quiet.after k q).wordsBefore (all_ite_inner _ rfl (all_map_inner _ _ fun _ => rfl))
  · exact Quiet.nil s

theorem moveRequest_quiet (r : Requester) (v : ValveId) (t : Limit) (s : State) :
    Quiet s (moveRequest r v t s).2 := by
  simp only [moveRequest]
  repeat' split
  all_goals first
    | exact Quiet.nil s
    | exact ⟨Kept.valves rfl (Nat.le_refl _), rfl⟩
    | exact mergeRequest_quiet _ _ _ s
    | exact newEntry_quiet _ _ _ s

/-- A move request changes the valve unit alone. -/
theorem moveRequest_valves (r : Requester) (v : ValveId) (t : Limit) (s : State) :
    ∃ x, (moveRequest r v t s).2.1 = s.putValves x := by
  have note : ∀ u : State, ∃ x, noteRefused r u = u.putValves x := by
    intro u
    simp only [noteRefused]
    split
    · exact ⟨u.valves, rfl⟩
    · exact ⟨_, rfl⟩
  have new : ∀ (w : ValveId) (u : State), ∃ x, (newEntry r w t u).2.1 = u.putValves x := by
    intro w u
    simp only [newEntry]
    split
    · exact note u
    · exact ⟨_, rfl⟩
  simp only [moveRequest]
  repeat' split
  all_goals first
    | exact ⟨s.valves, rfl⟩
    | exact ⟨_, rfl⟩
    | exact new v s
    | skip
  simp only [mergeRequest]
  repeat' split
  all_goals first
    | exact ⟨s.valves, rfl⟩
    | exact ⟨_, rfl⟩
    | exact note s
    | skip
  all_goals
    rename_i e _ _ _ _ _ _ _ _ heq _
    have made := new e.valve (s.putValves { s.valves with queue := dropEntry s.valves.queue e.valve })
    simp only [heq] at made
    obtain ⟨x, hx⟩ := made
    exact ⟨x, hx⟩

theorem moveRequest_holder (r : Requester) (v : ValveId) (t : Limit) (s : State) (h : HolderId) :
    (moveRequest r v t s).2.1.holder h = s.holder h := by
  obtain ⟨x, hx⟩ := moveRequest_valves r v t s
  rw [hx]; rfl

theorem withdraw_quiet (r : Requester) (v : ValveId) (s : State) : Quiet s (withdraw r v s) := by
  simp only [withdraw]
  repeat' split
  all_goals first
    | exact Quiet.nil s
    | exact ⟨Kept.valves rfl (dropEntry_length _ _), rfl⟩
    | exact ⟨Kept.valves rfl (by simp [mapEntry_length]), rfl⟩
    | exact ⟨Kept.valves rfl (Nat.le_refl _), rfl⟩

/-! ## Protective closes -/

theorem tellTaken_inner (s : State) (v : ValveId) (cause : ProtectCause) :
    (tellTaken s v cause).all Act.inner = true := by
  simp only [tellTaken]; split <;> rfl

theorem supersede_inner (rs : List Requester) (v : ValveId) : (supersede rs v).all Act.inner = true :=
  all_map_inner _ _ fun _ => rfl

theorem protectiveClose_quiet (v : ValveId) (cause : ProtectCause) (s : State) :
    Quiet s (protectiveClose v cause s) := by
  have dropped : ∀ w, Kept s (s.putValves { s.valves with queue := dropEntry s.valves.queue w }) := fun w =>
    Kept.valves rfl (dropEntry_length _ _)
  simp only [protectiveClose]
  split
  · split
    · refine ⟨?_, by simp [supersede_inner, tellTaken_inner]⟩
      split
      · apply Kept.trans (t := s.putValves { s.valves with main := s.valves.main.reverse (s.settings.travel[v]) })
        · exact Kept.valves rfl (Nat.le_refl _)
        · exact Kept.putValve rfl rfl rfl
      · exact Kept.valves rfl (Nat.le_refl _)
    · exact ⟨Kept.valves rfl (Nat.le_refl _), tellTaken_inner _ _ _⟩
  · split
    · exact ⟨Kept.refl s, tellTaken_inner _ _ _⟩
    · split
      · split
        · refine ⟨dropped _, ?_⟩
          split <;> simp [supersede_inner, tellTaken_inner, Act.inner]
        · exact ⟨Kept.refl s, tellTaken_inner _ _ _⟩
      · refine ⟨(dropped v).trans (Kept.valves rfl (Nat.le_refl _)), ?_⟩
        split <;> simp only [List.all_append, List.all_cons, List.all_nil, all_ite, supersede_inner, tellTaken_inner,
          arbiterCall_inner, Act.inner, ite_self, Bool.and_true]

/-! ## The arbiter and its drives -/

theorem arbiterChoose_quiet (s : State) : Quiet s (arbiterChoose s) := by
  simp only [arbiterChoose]
  repeat' split
  all_goals first
    | exact Quiet.nil s
    | exact ⟨Kept.valves rfl (Nat.le_refl _), rfl⟩
    | exact ⟨Kept.valves rfl (dropEntry_length _ _), rfl⟩

theorem driveEndWords_inner (d : Drive) (failed : Bool) (s : State) :
    (driveEndWords d failed s).all Act.inner = true := by
  simp only [driveEndWords]
  repeat' split
  all_goals simp [Act.inner]

theorem completeDrive_quiet (d : Drive) (s : State) : Quiet s (completeDrive d s) :=
  ⟨Kept.thenMain (Kept.putValve rfl rfl rfl), driveEndWords_inner _ _ _⟩

theorem failDrive_inner (d : Drive) (s : State) : (failDrive d s).2.all Act.inner = true := driveEndWords_inner _ _ _

theorem startDrive_quiet (s : State) : Quiet s (startDrive s) := by
  simp only [startDrive]
  split
  · split
    · exact completeDrive_quiet _ s
    · exact ⟨Kept.thenMain (Kept.putValve rfl rfl rfl), rfl⟩
  · exact Quiet.nil s

theorem endReport_quiet (s : State) : Quiet s (endReport s) := by
  simp only [endReport]
  split
  · exact ⟨Kept.valves rfl (Nat.le_refl _), rfl⟩
  · exact Quiet.nil s

theorem freePlace_quiet (s : State) : Quiet s (freePlace s) :=
  ⟨Kept.valves rfl (Nat.le_refl _), all_map_inner _ _ fun b => by cases b <;> rfl⟩

theorem beginReport_quiet (s : State) : Quiet s (beginReport s) := by
  simp only [beginReport]
  split
  · exact ⟨Kept.valves rfl (Nat.le_refl _), rfl⟩
  · exact Quiet.nil s

theorem disagreeFault_inner (v : ValveId) (which : Limit) (s : State) :
    (disagreeFault v which s).2.all Act.inner = true := by
  simp only [disagreeFault]
  let s1 := s.putValve v { s.valve v with fault := .disagree, position := limitPosition which }
  have qi := (beginReport_quiet (s1.putValves { s1.valves with queue := dropEntry s1.valves.queue v })).inner
  simp only [List.all_append, Bool.and_eq_true]
  refine ⟨⟨⟨⟨⟨⟨?_, ?_⟩, ?_⟩, ?_⟩, ?_⟩, rfl⟩, qi⟩
  · exact all_ite_inner _ rfl rfl
  · exact all_map_inner _ _ fun _ => rfl
  · split
    · exact all_ite_inner _ rfl rfl
    · rfl
  · exact all_map_inner _ _ fun _ => rfl
  · exact all_ite_inner _ rfl rfl

theorem clearFault_inner (v : ValveId) (s : State) : (clearFault v s).2.all Act.inner = true := by
  simp only [clearFault]
  split
  · rfl
  split
  · rfl
  have qi := (beginReport_quiet (s.putValve v { s.valve v with fault := .noFault })).inner
  simp only [List.all_append, Bool.and_eq_true]
  refine ⟨⟨⟨⟨?_, ?_⟩, ?_⟩, ?_⟩, qi⟩
  · exact all_ite_inner _ rfl rfl
  · exact all_map_inner _ _ fun _ => rfl
  · split <;> rfl
  · split
    · exact all_ite_inner _ rfl rfl
    · rfl

theorem switchMade_inner (v : ValveId) (which : Limit) (s : State) : (switchMade v which s).2.all Act.inner = true := by
  simp only [switchMade]
  repeat' split
  all_goals first
    | rfl
    | exact (completeDrive_quiet _ _).inner
    | exact disagreeFault_inner _ _ _

theorem travelExpired_inner (s : State) : (travelExpired s).2.all Act.inner = true := by
  simp only [travelExpired]
  split
  · exact failDrive_inner _ s
  · rfl

/-! ## START -/

theorem adoptValves_kept (s : State) : Kept s (adoptValves s) := by
  simp only [adoptValves]
  refine Kept.trans ?_ (Kept.foldl (Kept.refl _) fun t h => Kept.putClaim t _ _)
  have hv : ∀ f : Valve → Valve, ∀ v,
      (s.putValves { s.valves with table := s.valves.table.map f }).valve v = f (s.valve v) := fun f v => by
    simp [State.valve]
  refine ⟨?_, by simp, by simp, rfl, fun _ _ => rfl⟩
  constructor <;> simp [hv]

end Sys2Proof.Machine
end

