-- ==== Sys2Proof/Laws/StockUnit.lean ====
section
/-!
SUPPORT. Sys2Proof/Laws/StockUnit.lean: what each word of the stock unit keeps (R25, R26, R31, R35), and that its readings,
faults and requests hand on no word of the clock unit.
-/

namespace Sys2Proof.Machine

theorem conditionWords_inner (old : Condition) (s : State) : (conditionWords old s).all Act.inner = true := by
  simp only [conditionWords]; split <;> rfl

theorem setCondition_kept (s : State) : Kept s (setCondition s) := by
  simp only [setCondition]
  split
  · exact Kept.putStock rfl rfl fun _ h => h.symm
  · exact Kept.refl s

theorem judgeStock_quiet (s : State) : Quiet s (judgeStock s) := ⟨setCondition_kept s, conditionWords_inner _ _⟩

theorem guardWords_inner (h : HolderId) (old new : Holder) (content : Nat) :
    (guardWords h old new content).all Act.inner = true := by
  simp only [guardWords, List.all_append, Bool.and_eq_true]
  exact ⟨⟨⟨all_ite_inner _ rfl rfl, all_ite_inner _ rfl rfl⟩, all_ite_inner _ rfl rfl⟩, all_ite_inner _ rfl rfl⟩

theorem releaseIsolation_quiet (h : HolderId) (s : State) : Quiet s (releaseIsolation h s) := releaseClaims_quiet _ _ s

theorem isolationClosed_quiet (h : HolderId) (s : State) : Quiet s (isolationClosed h s) := by
  simp only [isolationClosed]
  split
  · exact ⟨Kept.putHolder ‹_› rfl rfl rfl rfl, rfl⟩
  · exact Quiet.nil s

/-- A move request changes no holder. -/
theorem askIsolationClose_quiet (h : HolderId) (s : State) : Quiet s (askIsolationClose h s) := by
  simp only [askIsolationClose]
  split
  · exact Quiet.nil s
  rename_i isolating
  split
  · exact isolationClosed_quiet h s
  · have q := moveRequest_quiet (.isolation h) (inletValve h) .closed s
    refine ⟨q.kept.trans (Kept.putHolder ?_ rfl rfl rfl rfl), q.inner⟩
    rw [moveRequest_holder]; simpa using isolating

theorem judgeIsolation_quiet (h : HolderId) (s : State) : Quiet s (judgeIsolation h s) := by
  simp only [judgeIsolation]
  split
  · exact Quiet.nil s
  rename_i isolating
  have k : ∀ st w t, Kept s (s.putHolder h { s.holder h with state := st, closeWait := w, silence := t }) :=
    fun st w t => Kept.putHolder (by simpa using isolating) rfl rfl rfl rfl
  split
  · have q := releaseIsolation_quiet h (s.putHolder h { s.holder h with state := .service, closeWait := .nothing })
    exact ⟨(k _ _ _).trans q.kept, by
      simp only [List.all_append, Bool.and_eq_true]; exact ⟨q.inner, rfl⟩⟩
  split
  · exact ⟨k _ _ _, rfl⟩
  · exact Quiet.nil s

theorem stockPlaceFreed_quiet (s : State) : Quiet s (stockPlaceFreed s) := Quiet.words (all_map_inner _ _ fun _ => rfl)

theorem isolationWord_quiet (h : HolderId) (w : ValveWord) (s : State) : Quiet s (isolationWord h w s) := by
  simp only [isolationWord]
  repeat' split
  all_goals first | exact Quiet.words rfl | exact isolationClosed_quiet h s

theorem startStockUnit_kept (s : State) : Kept0 s (startStockUnit s).1 := by
  simp only [startStockUnit]
  refine Kept0.trans ?_ (judgeStock_quiet _).kept.toKept0
  exact Kept0.foldl (Kept0.refl s) fun t h => Kept0.putHolder rfl rfl rfl rfl

theorem startStockUnit_inner (s : State) : (startStockUnit s).2.all Act.inner = true := (judgeStock_quiet _).inner

/-! ## What the commands of the stock unit hand on -/

theorem enterHolderFault_inner (h : HolderId) (cause : HolderFault) (s : State) :
    (enterHolderFault h cause s).2.all Act.inner = true := by
  simp only [enterHolderFault]
  split
  · rfl
  · have := fun t => (releaseIsolation_quiet h t).inner
    simp only [List.all_append, Bool.and_eq_true]
    refine ⟨⟨⟨?_, rfl⟩, all_ite_inner _ rfl rfl⟩, rfl⟩
    split
    · exact this _
    · rfl

theorem takeReading_inner (h : HolderId) (content : Nat) (s : State) :
    (takeReading h content s).2.all Act.inner = true := by
  simp only [takeReading]
  split
  · rfl
  split
  · exact enterHolderFault_inner _ _ _
  · simp only [List.all_append, guardWords_inner, conditionWords_inner, Act.inner, List.all_cons, List.all_nil,
      Bool.and_true]

end Sys2Proof.Machine
end

