-- ==== Sys2Proof/Laws/SelectorUnit.lean ====
section
/-!
SUPPORT. Sys2Proof/Laws/SelectorUnit.lean: what each word of the send-out selector keeps (R41 to R55, R201).
-/

namespace Sys2Proof.Machine

theorem pinLostWords_inner (x : Selector) : (pinLostWords x).all Act.inner = true := by
  simp only [pinLostWords]; split <;> rfl

theorem beginChange_quiet (kind : ChangeKind) (new : HolderId) (serves : Option ChannelId) (s : State) :
    Quiet s (beginChange kind new serves s) :=
  ⟨Kept.putSelector _ _, by simp only [beginChange, List.all_append, pinLostWords_inner]; rfl⟩

theorem beginLoss_quiet (s : State) : Quiet s (beginLoss s) := by
  simp only [beginLoss]
  split
  · exact Quiet.nil s
  · exact ⟨Kept.putSelector _ _, by simp only [List.all_append, pinLostWords_inner]; rfl⟩

theorem beginTidy_quiet (hs : List HolderId) (s : State) : Quiet s (beginTidy hs s) :=
  ⟨Kept.putSelector _ _, by
    simp only [beginTidy, List.all_append, Bool.and_eq_true]
    exact ⟨⟨rfl, all_map_inner _ _ fun _ => rfl⟩, rfl⟩⟩

theorem giveUpNew_quiet (s : State) : Quiet s (giveUpNew s) := by
  simp only [giveUpNew]
  repeat' split
  all_goals first | exact Quiet.nil s | exact ⟨Kept.putSelector _ _, rfl⟩

theorem noteDecode_kept (s : State) (r : Option HolderId) : Kept s (s.noteDecode r) := Kept.putSelector _ _

theorem actSteady_quiet (c : HolderId) (r : Option HolderId) (s : State) : Quiet s (actSteady c r s) := by
  simp only [actSteady]
  repeat' split
  all_goals first
    | exact ⟨Kept.putSelector _ _, rfl⟩
    | exact beginLoss_quiet s
    | exact beginChange_quiet _ _ _ s

theorem decodeTrigger_quiet (s : State) : Quiet s (decodeTrigger s) := by
  simp only [decodeTrigger]
  split
  · exact Quiet.nil s
  split
  · split
    · exact Quiet.after (noteDecode_kept s _) (actSteady_quiet _ _ _)
    · split
      · exact Quiet.nil s
      · exact beginLoss_quiet s
  · have q := giveUpNew_quiet s
    split
    · exact ⟨(q.kept.trans (noteDecode_kept _ _)).trans (Kept.putSelector _ _), q.inner⟩
    · exact q
  · split
    · split
      · exact Quiet.after (noteDecode_kept s _) (beginChange_quiet _ _ _ _)
      · exact ⟨noteDecode_kept s _, rfl⟩
    · exact Quiet.nil s

theorem endChange_quiet (ch : Changeover) (s : State) : Quiet s (endChange ch s) := by
  simp only [endChange]
  split
  · exact ⟨Kept.putSelector _ _, rfl⟩
  · refine ⟨Kept.putSelector _ _, ?_⟩
    simp only [List.all_append, Bool.and_eq_true]
    exact ⟨⟨rfl, all_map_inner _ _ fun _ => rfl⟩, rfl⟩
  · exact ⟨Kept.putSelector _ _, rfl⟩
  · exact ⟨Kept.putSelector _ _, rfl⟩

theorem abandonChange_quiet (ch : Changeover) (s : State) : Quiet s (abandonChange ch s) := by
  simp only [abandonChange]
  have words : ∀ l : List Act, l.all Act.inner = true → ∀ w, (([Act.notice w] ++
      (match ch.kind, ch.serves with
      | .directed, some c => [Act.pinRefused c]
      | _, _ => []) ++ [Act.askPins] ++ l ++ [Act.decodeTrigger]).all Act.inner) = true := by
    intro l hl w
    simp only [List.all_append, Bool.and_eq_true]
    refine ⟨⟨⟨⟨rfl, ?_⟩, rfl⟩, hl⟩, rfl⟩
    split <;> rfl
  split
  · exact ⟨Kept.putSelector _ _, words _ rfl _⟩
  · have q := fun t => beginTidy_quiet (leftovers ch t) t
    exact ⟨(Kept.putSelector _ _).trans (q _).kept, words _ (q _).inner _⟩

theorem putChange_kept (s : State) (ch : Changeover) : Kept s (s.putChange ch) := Kept.putSelector _ _

theorem takeAll_inner (ch : Changeover) : (takeAll ch).all Act.inner = true := by
  simp only [takeAll, List.all_append, Bool.and_eq_true]
  exact ⟨all_map_inner _ _ fun _ => rfl, rfl⟩

theorem askOpenNew_quiet (s : State) : Quiet s (askOpenNew s) := by
  simp only [askOpenNew]
  repeat' split
  · exact Quiet.nil s
  · exact abandonChange_quiet _ s
  · exact ⟨putChange_kept _ _, rfl⟩
  · exact ⟨putChange_kept _ _, takeAll_inner _⟩
  · have q := moveRequest_quiet .selector (outletValve ‹_›) .opened s
    exact ⟨q.kept.trans (putChange_kept _ _), q.inner⟩
  · exact Quiet.nil s

theorem takeClosing_quiet (h : HolderId) (s : State) : Quiet s (takeClosing h s) := by
  simp only [takeClosing]
  have q := moveRequest_quiet .selector (outletValve h) .closed s
  repeat' split
  all_goals first
    | exact Quiet.nil s
    | exact ⟨putChange_kept _ _, rfl⟩
    | exact ⟨q.kept.trans (putChange_kept _ _), q.inner⟩

theorem closingCheck_quiet (s : State) : Quiet s (closingCheck s) := by
  simp only [closingCheck]
  repeat' split
  all_goals first | exact Quiet.nil s | exact endChange_quiet _ s

theorem backOut_quiet (s : State) : Quiet s (backOut s) := by
  simp only [backOut]
  split
  · exact Quiet.nil s
  split
  · rename_i ch _ _ n _ _
    split
    · exact (withdraw_quiet .selector (outletValve n) s).moreWords rfl
    split
    · exact abandonChange_quiet _ s
    split
    · exact ⟨putChange_kept _ _, rfl⟩
    · have m := moveRequest_quiet .selector (outletValve n) .closed s
      exact ⟨m.kept.trans (putChange_kept _ _), m.inner⟩
  · exact Quiet.nil s

theorem selectorWord_quiet (h : HolderId) (w : ValveWord) (s : State) : Quiet s (selectorWord h w s) := by
  simp only [selectorWord]
  repeat' split
  all_goals first
    | exact Quiet.words rfl
    | exact ⟨putChange_kept _ _, rfl⟩

theorem closeStray_quiet (h : HolderId) (s : State) : Quiet s (closeStray h s) := by
  simp only [closeStray]
  split
  · exact beginTidy_quiet _ s
  · exact ⟨putChange_kept _ _, all_ite_inner _ rfl rfl⟩

theorem strayOr_quiet (p : Prop) [Decidable p] (h : HolderId) (s : State) :
    Quiet s (if p then closeStray h s else (s, [])) := by
  split
  · exact closeStray_quiet h s
  · exact Quiet.nil s

theorem outletCleared_quiet (h : HolderId) (s : State) : Quiet s (outletCleared h s) := by
  simp only [outletCleared]
  exact (strayOr_quiet _ h s).moreWords rfl

theorem holderIsolating_quiet (h : HolderId) (s : State) : Quiet s (holderIsolating h s) := by
  simp only [holderIsolating]
  exact strayOr_quiet _ h s

theorem selectorPlace_quiet (s : State) : Quiet s (selectorPlace s) := by
  simp only [selectorPlace]
  split
  · exact Quiet.nil s
  · refine Quiet.words ?_
    simp only [List.all_append, Bool.and_eq_true]
    refine ⟨⟨?_, all_map_inner _ _ fun _ => rfl⟩, rfl⟩
    split
    · exact all_ite_inner _ rfl rfl
    · exact all_ite_inner _ rfl rfl
    · rfl

theorem dwellExpired_quiet (s : State) : Quiet s (dwellExpired s) := by
  simp only [dwellExpired]
  split
  · exact ⟨Kept.putSelector _ _, rfl⟩
  · exact Quiet.nil s

theorem pinRequest_quiet (c : ChannelId) (h : HolderId) (force : Bool) (s : State) :
    Quiet s (pinRequest c h force s).2 := by
  simp only [pinRequest]
  repeat' split
  all_goals first
    | exact Quiet.nil s
    | exact ⟨Kept.putSelector _ _, rfl⟩
    | exact beginChange_quiet _ _ _ s

theorem releasePin_quiet (c : ChannelId) (s : State) : Quiet s (releasePin c s) := by
  simp only [releasePin]
  split
  · exact ⟨Kept.putSelector _ _, rfl⟩
  · exact Quiet.nil s

theorem forgetServed_kept (c : ChannelId) (s : State) : Kept s (forgetServed c s) := by
  simp only [forgetServed]
  repeat' split
  all_goals first | exact Kept.refl s | exact putChange_kept _ _

theorem startSelector_quiet (s : State) : Quiet s (startSelector s) := by
  simp only [startSelector]
  split
  · exact ⟨Kept.putSelector _ _, rfl⟩
  · exact Quiet.after (Kept.putSelector _ _) (beginTidy_quiet _ _)

end Sys2Proof.Machine
end

