-- ==== Sys2Proof/Laws/ChannelUnit.lean ====
section
/-!
SUPPORT. Sys2Proof/Laws/ChannelUnit.lean: what each word of the channel unit keeps (R82 to R114).
-/

namespace Sys2Proof.Machine

theorem setWork_kept (s : State) (c : ChannelId) (v : ValveId) (k : WorkKind) (w : WorkWait) :
    Kept s (s.setWork c v k w) := Kept.putWork _ _ _

theorem clearWork_kept (s : State) (c : ChannelId) (v : ValveId) : Kept s (s.clearWork c v) := Kept.putWork _ _ _

theorem startPathTimer_kept (s : State) (c : ChannelId) : Kept s (s.startPathTimer c) := Kept.putChannel _ _ _

/-! ## Endings, closing and posting -/

theorem endOrder_quiet (c : ChannelId) (k : OrderStatus) (cause : EndCause) (s : State) :
    Quiet s (endOrder c k cause s) := by
  simp only [endOrder]
  split
  · exact Quiet.nil s
  split
  · refine ⟨Kept.trans ?_ (forgetServed_kept _ _), ?_⟩
    · split
      · exact ((Kept.putStatus _ _ _).trans (Kept.putChannel _ _ _)).trans (Kept.setBooster _ _)
      · exact (Kept.putStatus _ _ _).trans (Kept.putChannel _ _ _)
    · simp only [List.all_append, Bool.and_eq_true]
      exact ⟨all_ite_inner _ rfl rfl, rfl⟩
  · exact Quiet.nil s

theorem releaseOne_quiet (c : ChannelId) (v : ValveId) (s : State) : Quiet s (releaseOne c v s) :=
  Quiet.after (clearWork_kept s c v) (releaseClaims_quiet _ _ _)

theorem askClose_quiet (c : ChannelId) (v : ValveId) (s : State) : Quiet s (askClose c v s) := by
  simp only [askClose]
  split
  · exact Quiet.nil s
  have q := moveRequest_quiet (.channel c) v .closed s
  split
  · exact ⟨q.kept.trans (setWork_kept _ _ _ _ _), q.inner⟩
  · exact q.append (releaseOne_quiet c v _)

theorem leaveValve_quiet (c : ChannelId) (v : ValveId) (anyMove : Bool) (s : State) :
    Quiet s (leaveValve c v anyMove s) := by
  simp only [leaveValve]
  split
  · exact Quiet.nil s
  have q : Quiet s (if (anyMove || s.hasQueuedOpen (.channel c) v) = true then withdraw (.channel c) v s
      else (s, [])) := by
    split
    · exact withdraw_quiet _ _ s
    · exact Quiet.nil s
  generalize (if (anyMove || s.hasQueuedOpen (.channel c) v) = true then withdraw (.channel c) v s
      else (s, [])) = e at q ⊢
  obtain ⟨s1, freed⟩ := e
  dsimp only
  split
  · exact ⟨q.kept.trans (setWork_kept _ _ _ _ _), q.inner⟩
  · exact q.append (releaseOne_quiet c v s1)

theorem askCloses_quiet (c : ChannelId) (s : State) : Quiet s (askCloses c s) := by
  simp only [askCloses]
  split
  · exact Quiet.nil s
  rename_i n x _
  split
  · exact Quiet.nil s
  have inlet : ∀ (p : Prop) [Decidable p] (t : State), Quiet t (match x.order.dest with
      | some h => if p then askClose c (inletValve h) t else leaveValve c (inletValve h) false t
      | none => (t, [])) := by
    intro p _ t
    split
    · split
      · exact askClose_quiet _ _ t
      · exact leaveValve_quiet _ _ _ t
    · exact Quiet.nil t
  have k := Kept.putWork s c []
  refine Quiet.moreWords (Quiet.after k ?_) rfl
  split
  · exact (askClose_quiet c _ _).andThen fun t => (askClose_quiet c _ t).andThen fun u => inlet _ u
  · exact inlet _ _
  · split
    · have q := leaveValve_quiet c (sourceValve ‹_›) true (s.putWork c [])
      exact ⟨q.kept, q.inner⟩
    · exact Quiet.nil _
  · split
    · have q := leaveValve_quiet c (sourceValve ‹_›) true (s.putWork c [])
      exact ⟨q.kept, q.inner⟩
    · exact Quiet.nil _
  · exact Quiet.nil _
  · exact Quiet.nil _

theorem postIfFree_quiet (c : ChannelId) (s : State) : Quiet s (postIfFree c s) := by
  simp only [postIfFree]
  split
  · rename_i n x k cause hx _
    split
    · exact Quiet.nil s
    · have hx' : s.order n = x := by
        simp only [State.currentSlot, Option.map_eq_some_iff] at hx
        obtain ⟨m, _, hm⟩ := hx
        cases hm; rfl
      refine ⟨(Kept.putOrder ?_).trans (Kept.putChannel _ _ _), ?_⟩
      · simp [hx']
      · simp only [List.all_append, Bool.and_eq_true]
        exact ⟨⟨all_ite_inner _ rfl rfl, all_ite_inner _ rfl rfl⟩, rfl⟩
  · exact Quiet.nil s

theorem goIdle_quiet (c : ChannelId) (last : OrderId) (reason : ChainReason) (s : State) :
    Quiet s (goIdle c last reason s) := ⟨Kept.putChannel _ _ _, rfl⟩

theorem goHalted_quiet (c : ChannelId) (cause : HaltCause) (slot : Option OrderId) (s : State) :
    Quiet s (goHalted c cause slot s) := ⟨Kept.putChannel _ _ _, rfl⟩

theorem chainOn_quiet (c : ChannelId) (ended : OrderId) (s : State) : Quiet s (chainOn c ended s) := by
  simp only [chainOn]
  repeat' split
  all_goals first
    | exact goHalted_quiet _ _ _ s
    | exact goIdle_quiet _ _ _ s
    | exact Quiet.words rfl

/-! ## An order becoming current, and its path -/

theorem orderCurrent_quiet (c : ChannelId) (n : OrderId) (s : State) : Quiet s (orderCurrent c n s) := by
  simp only [orderCurrent]
  have k := fun y => (Kept.putStatus s n .waitPath).trans (Kept.putChannel _ c y)
  split
  · exact Quiet.after (k _) (endOrder_quiet _ _ _ _)
  · split
    · exact ⟨k _, rfl⟩
    · exact ⟨k _, rfl⟩

theorem claimPath_quiet (c : ChannelId) (s : State) : Quiet s (claimPath c s) := by
  simp only [claimPath]
  split
  · exact Quiet.nil s
  rename_i n x _
  split
  · exact Quiet.nil s
  have q := claimRequest_quiet (.channel c) x.order.path s
  split
  · rename_i s1 freed heq
    rw [heq] at q
    exact ⟨q.kept.trans (Kept.putChannel _ _ _), by
      simp only [List.all_append, Bool.and_eq_true]; exact ⟨q.inner, rfl⟩⟩
  · exact endOrder_quiet _ _ _ s
  · exact ⟨(Kept.putChannel _ _ _).trans (startPathTimer_kept _ _), rfl⟩
  · exact ⟨(Kept.putChannel _ _ _).trans (startPathTimer_kept _ _), rfl⟩

theorem askPin_quiet (c : ChannelId) (o : Order) (s : State) : Quiet s (askPin c o s) := by
  simp only [askPin]
  split
  · exact Quiet.nil s
  rename_i h _
  have q := pinRequest_quiet c h o.forceSource s
  split
  · rename_i heq
    rw [heq] at q
    exact q.more (Kept.putChannel _ _ _) rfl
  · rename_i heq
    rw [heq] at q
    exact ⟨(q.kept.trans (Kept.putChannel _ _ _)).trans (startPathTimer_kept _ _), q.inner⟩

theorem ensureOpen_quiet (c : ChannelId) (v : ValveId) (s : State) : Quiet s (ensureOpen c v s).2 := by
  have q := moveRequest_quiet (.channel c) v .opened s
  have asked : Quiet s (match moveRequest (.channel c) v .opened s with
      | (.done, s1, acts) => (OpenResult.isOpen, s1.clearWork c v, acts)
      | (.faulted, s1, acts) => (.faulted, s1, acts)
      | (.queueFull, s1, acts) => (.full, s1.setWork c v .move .place, acts)
      | (a, s1, acts) => (.waiting, s1.setWork c v .move (a.workWait.getD .answer), acts)).2 := by
    split
    all_goals rename_i heq; rw [heq] at q
    · exact ⟨q.kept.trans (clearWork_kept _ _ _), q.inner⟩
    · exact q
    · exact ⟨q.kept.trans (setWork_kept _ _ _ _ _), q.inner⟩
    · exact ⟨q.kept.trans (setWork_kept _ _ _ _ _), q.inner⟩
  have either : ∀ (p : Prop) [Decidable p] (r : OpenResult × Effect), Quiet s r.2 →
      Quiet s (if p then (OpenResult.waiting, s, []) else r).2 := by
    intro p _ r hr
    split
    · exact Quiet.nil s
    · exact hr
  exact either _ _ asked

theorem askOpens_quiet (c : ChannelId) (o : Order) (s : State) : Quiet s (askOpens c o s).2 := by
  simp only [askOpens]
  split
  · exact Quiet.nil s
  rename_i h _
  have q1 := ensureOpen_quiet c (inletValve h) s
  split
  · rename_i s1 acts1 heq1
    rw [heq1] at q1
    split
    · have q2 := ensureOpen_quiet c deliveryValve s1
      split
      · rename_i heq2; rw [heq2] at q2; exact q1.append q2
      · rename_i heq2; rw [heq2] at q2; exact q1.append q2
      · rename_i r2 s2 acts2 _ _ heq2
        rw [heq2] at q2
        have q3 := ensureOpen_quiet c suctionValve s2
        split
        all_goals rename_i heq3; rw [heq3] at q3; exact (q1.append q2).append q3
    · exact q1
  · rename_i heq1; rw [heq1] at q1; exact q1

theorem returnToPath_kept (c : ChannelId) (n : OrderId) (was : OrderStatus) (before s : State) :
    Kept s (returnToPath c n was before s) := by
  simp only [returnToPath]
  split
  · exact Kept.putStatus _ _ _
  · exact (Kept.putStatus _ _ _).trans (Kept.putChannel _ _ _)

theorem leavePath_kept (c : ChannelId) (n : OrderId) (k : OrderStatus) (s : State) : Kept s (leavePath c n k s) :=
  (Kept.putStatus _ _ _).trans (Kept.putChannel _ _ _)

theorem openStep_quiet (c : ChannelId) (n : OrderId) (x : OrderSlot) (s : State) : Quiet s (openStep c n x s) := by
  simp only [openStep]
  have q := askOpens_quiet c x.order s
  split
  all_goals rename_i heq; rw [heq] at q
  · exact q.more (leavePath_kept _ _ _ _) rfl
  · exact ⟨q.kept.trans (leavePath_kept _ _ _ _), q.inner⟩
  · exact ⟨q.kept.trans (returnToPath_kept _ _ _ _ _), q.inner⟩
  · exact q.append (endOrder_quiet _ _ _ _)

theorem moveStep_quiet (c : ChannelId) (n : OrderId) (x : OrderSlot) (s : State) : Quiet s (moveStep c n x s) := by
  simp only [moveStep]
  split
  · exact Quiet.nil s
  split
  · exact endOrder_quiet _ _ _ s
  rename_i y _ _
  have q := moveRequest_quiet (.channel c) (sourceValve y)
    (if x.order.kind = some .admitSource then .opened else .closed) s
  split
  all_goals rename_i heq; rw [heq] at q
  · exact q.append (endOrder_quiet _ _ _ _)
  · exact q.append (endOrder_quiet _ _ _ _)
  · exact ⟨(q.kept.trans (setWork_kept _ _ _ _ _)).trans (returnToPath_kept _ _ _ _ _), q.inner⟩
  · exact ⟨(q.kept.trans (leavePath_kept _ _ _ _)).trans (setWork_kept _ _ _ _ _), q.inner⟩

theorem enterFlowing_quiet (c : ChannelId) (s : State) : Quiet s (enterFlowing c s) := by
  simp only [enterFlowing]
  split
  · exact Quiet.nil s
  rename_i n x _
  split
  · exact Quiet.nil s
  have k := leavePath_kept c n .flowing s
  split
  · exact ⟨k.trans (Kept.setBooster _ _), rfl⟩
  · split
    · exact ⟨k.trans (Kept.putChannel _ _ _), rfl⟩
    · exact ⟨k, rfl⟩
  · exact Quiet.after k (moveStep_quiet _ _ _ _)
  · exact Quiet.after k (moveStep_quiet _ _ _ _)
  · exact ⟨k, rfl⟩
  · exact ⟨k, rfl⟩

theorem proceed_quiet (c : ChannelId) (s : State) : Quiet s (proceed c s) := by
  simp only [proceed]
  repeat' split
  all_goals first
    | exact Quiet.words rfl
    | exact openStep_quiet _ _ _ s
    | exact askPin_quiet _ _ s
    | exact endOrder_quiet _ _ _ s

/-! ## Holding -/

theorem askHoldClose_quiet (c : ChannelId) (s : State) : Quiet s (askHoldClose c s) := by
  simp only [askHoldClose]
  split
  · exact Quiet.nil s
  split
  · exact Quiet.nil s
  rename_i v _
  split
  · exact ⟨clearWork_kept _ _ _, rfl⟩
  split
  · exact ⟨setWork_kept _ _ _ _ _, rfl⟩
  have q := moveRequest_quiet (.channel c) v .closed s
  split
  · exact ⟨q.kept.trans (endOrder_quiet _ _ _ _).kept, (endOrder_quiet _ _ _ _).inner⟩
  · exact ⟨q.kept.trans (clearWork_kept _ _ _), q.inner⟩
  · exact ⟨q.kept.trans (setWork_kept _ _ _ _ _), q.inner⟩

theorem withdrawOpens_quiet (c : ChannelId) (o : Order) (s : State) : Quiet s (withdrawOpens c o s) := by
  simp only [withdrawOpens]
  have q : Quiet s (o.path.foldl (fun e v => e.andThen fun t =>
      if t.hasQueuedOpen (.channel c) v then withdraw (.channel c) v t else (t, [])) (s, [])) := by
    refine Quiet.foldl (f := fun v t => if t.hasQueuedOpen (.channel c) v then withdraw (.channel c) v t else (t, []))
      (Quiet.nil s) fun v t => ?_
    split
    · exact withdraw_quiet _ _ t
    · exact Quiet.nil t
  exact ⟨q.kept.trans (Kept.putWork _ _ _), q.inner⟩

theorem takeHold_quiet (c : ChannelId) (s : State) : Quiet s (takeHold c s) := by
  simp only [takeHold]
  split
  · exact Quiet.nil s
  rename_i n x _
  have k := fun y => (Kept.putStatus s n .suspended).trans (Kept.putChannel _ c y)
  have w := fun t => withdrawOpens_quiet c x.order t
  refine ⟨Kept.trans ?_ (w _).kept, ?_⟩
  · split
    · exact (k _).trans (Kept.setBooster _ _)
    · exact k _
  · simp only [List.all_append, Bool.and_eq_true]
    exact ⟨⟨(w _).inner, rfl⟩, all_ite_inner _ rfl rfl⟩

theorem takeResume_quiet (c : ChannelId) (s : State) : Quiet s (takeResume c s) := by
  simp only [takeResume]
  split
  · exact Quiet.nil s
  · exact ⟨(Kept.putStatus _ _ _).trans (Kept.putChannel _ _ _), rfl⟩

/-! ## The valve unit's words -/

theorem wordWorking_quiet (c : ChannelId) (x : OrderSlot) (v : ValveId) (w : ValveWord) (s : State) :
    Quiet s (wordWorking c x v w s) := by
  simp only [wordWorking]
  repeat' split
  all_goals first
    | exact Quiet.words rfl
    | exact endOrder_quiet _ _ _ s
    | exact ⟨clearWork_kept _ _ _, rfl⟩
    | exact ⟨setWork_kept _ _ _ _ _, rfl⟩
    | exact Quiet.after (clearWork_kept _ _ _) (endOrder_quiet _ _ _ _)

theorem wordHeld_quiet (c : ChannelId) (v : ValveId) (w : ValveWord) (s : State) : Quiet s (wordHeld c v w s) := by
  simp only [wordHeld]
  repeat' split
  all_goals first
    | exact Quiet.words rfl
    | exact endOrder_quiet _ _ _ s
    | exact ⟨clearWork_kept _ _ _, rfl⟩

theorem wordClosing_quiet (c : ChannelId) (v : ValveId) (w : ValveWord) (s : State) :
    Quiet s (wordClosing c v w s) := by
  simp only [wordClosing]
  have post : ∀ t : State, Quiet t (t, [Act.postIfFree c]) := fun t => Quiet.words rfl
  have released := (releaseOne_quiet c v s).andThen post
  have again := (askClose_quiet c v s).andThen post
  repeat' split
  all_goals first
    | exact Quiet.nil s
    | exact released
    | exact again

theorem channelWord_quiet (c : ChannelId) (v : ValveId) (w : ValveWord) (s : State) :
    Quiet s (channelWord c v w s) := by
  simp only [channelWord]
  repeat' split
  all_goals first
    | exact Quiet.nil s
    | exact wordWorking_quiet _ _ _ _ s
    | exact wordHeld_quiet _ _ _ s
    | exact wordClosing_quiet _ _ _ s

/-! ## Asking again -/

theorem channelRetry_quiet (c : ChannelId) (s : State) : Quiet s (channelRetry c s) := by
  simp only [channelRetry]
  split
  · exact Quiet.nil s
  rename_i n x _
  split
  · exact (Quiet.foldl (f := fun v => askClose c v) (Quiet.nil s) fun v t => askClose_quiet c v t).andThen fun t =>
      Quiet.words rfl
  · have first : ∀ (p : Prop) [Decidable p], Quiet s (if p then (s, []) else askHoldClose c s) := by
      intro p _
      split
      · exact Quiet.nil s
      · exact askHoldClose_quiet c s
    split
    · refine (first _).andThen fun t => ?_
      split
      · exact openStep_quiet _ _ _ t
      · exact moveStep_quiet _ _ _ t
    · exact first _

theorem bothWays_quiet (s : State) (f : ChannelId → Act) (h : ∀ c, (f c).inner = true) : Quiet s (bothWays s f) := by
  refine ⟨Kept.freeCount s _, ?_⟩
  simp only [bothWays]
  split <;> simp [h]

theorem eachWaiting_quiet (waits : ChannelId → Bool) (f : ChannelId → Act) (s : State) (h : ∀ c, (f c).inner = true) :
    Quiet s (eachWaiting waits f s) := by
  simp only [eachWaiting]
  split
  · exact bothWays_quiet s f h
  · exact Quiet.words (all_map_inner _ _ h)

theorem claimReleased_quiet (s : State) : Quiet s (claimReleased s) := eachWaiting_quiet _ _ s fun _ => rfl
theorem channelPlace_quiet (s : State) : Quiet s (channelPlace s) := eachWaiting_quiet _ _ s fun _ => rfl
theorem askPins_quiet (s : State) : Quiet s (askPins s) := Quiet.words (all_map_inner _ _ fun _ => rfl)

/-! ## Words of the other blocks -/

theorem pinGranted_quiet (c : ChannelId) (s : State) : Quiet s (pinGranted c s) := by
  simp only [pinGranted]
  split
  · exact ⟨Kept.putChannel _ _ _, rfl⟩
  · exact Quiet.nil s

theorem pinRefused_quiet (c : ChannelId) (s : State) : Quiet s (pinRefused c s) := by
  simp only [pinRefused]
  split
  · exact endOrder_quiet _ _ _ s
  · exact Quiet.nil s

theorem pinLost_quiet (c : ChannelId) (s : State) : Quiet s (pinLost c s) := by
  simp only [pinLost]
  repeat' split
  all_goals first | exact endOrder_quiet _ _ _ s | exact Quiet.nil s

theorem endEach_quiet (hit : OrderSlot → Bool) (k : OrderStatus) (cause : EndCause) (s : State) :
    Quiet s (endEach hit k cause s) := by
  refine Quiet.foldl (f := fun c t => match t.currentSlot c with
    | some (_, x) => if hit x then endOrder c k cause t else (t, [])
    | none => (t, [])) (Quiet.nil s) fun c t => ?_
  repeat' split
  all_goals first | exact endOrder_quiet _ _ _ t | exact Quiet.nil t

theorem guardRaised_quiet (h : HolderId) (g : Guard) (s : State) : Quiet s (guardRaised h g s) := by
  cases g <;> exact endEach_quiet _ _ _ s
theorem holderInFault_quiet (h : HolderId) (s : State) : Quiet s (holderInFault h s) := endEach_quiet _ _ _ s
theorem contentTaken_quiet (h : HolderId) (s : State) : Quiet s (contentTaken h s) := endEach_quiet _ _ _ s
theorem minuteToChannels_quiet (s : State) : Quiet s (minuteToChannels s) := endEach_quiet _ _ _ s

/-- The current slot is the order table's own. -/
theorem currentSlot_order {s : State} {c : ChannelId} {n : OrderId} {x : OrderSlot}
    (h : s.currentSlot c = some (n, x)) : s.order n = x := by
  simp only [State.currentSlot, Option.map_eq_some_iff] at h
  obtain ⟨m, _, hm⟩ := h
  cases hm; rfl

theorem transferPulse_quiet (weight : Nat) (s : State) : Quiet s (transferPulse weight s) := by
  simp only [transferPulse]
  split
  · exact Quiet.nil s
  split
  · exact Quiet.nil s
  · rename_i n x hx
    have k : Kept s (s.putOrder n { x with counted := x.counted + weight }) :=
      Kept.putOrder (by simp [currentSlot_order hx])
    split
    · exact Quiet.after k (endOrder_quiet _ _ _ _)
    · exact ⟨k, rfl⟩

theorem channelStop_quiet (c : ChannelId) (s : State) : Quiet s (channelStop c s) := by
  simp only [channelStop]
  split
  · exact goHalted_quiet _ _ _ s
  · exact ⟨Kept.putChannel _ _ _, rfl⟩
  all_goals exact Quiet.after (Kept.putChannel _ _ _) (endOrder_quiet _ _ _ _)

theorem channelsStop_quiet (s : State) : Quiet s (channelsStop s) :=
  Quiet.foldl (f := channelStop) (Quiet.nil s) channelStop_quiet

theorem pathExpired_quiet (c : ChannelId) (s : State) : Quiet s (pathExpired c s) := by
  simp only [pathExpired]
  repeat' split
  all_goals first | exact endOrder_quiet _ _ _ s | exact Quiet.nil s

theorem limitExpired_quiet (c : ChannelId) (s : State) : Quiet s (limitExpired c s) := by
  simp only [limitExpired]
  repeat' split
  all_goals first | exact endOrder_quiet _ _ _ s | exact Quiet.nil s

theorem waitExpired_quiet (c : ChannelId) (s : State) : Quiet s (waitExpired c s) := by
  simp only [waitExpired]
  repeat' split
  all_goals first | exact endOrder_quiet _ _ _ s | exact Quiet.nil s

theorem eventClose_quiet (s : State) : Quiet s (eventClose s) := by
  simp only [eventClose]
  repeat' split
  all_goals first | exact ⟨Kept.putChannel _ _ _, rfl⟩ | exact Quiet.nil s

theorem startChannels_quiet (s : State) : Quiet s (startChannels s) := by
  simp only [startChannels]
  split
  · exact Quiet.words rfl
  · exact Quiet.nil s

end Sys2Proof.Machine
end

