-- ==== Sys2Proof/Laws/DistrictUnit.lean ====
section
/-!
SUPPORT. Sys2Proof/Laws/DistrictUnit.lean: what each word of the district unit keeps (R123 to R135), and that its samples
and expiries hand on no word of the clock unit.
-/

namespace Sys2Proof.Machine

theorem loadOutput_kept (d : DistrictId) (s : State) : Kept s (loadOutput d s) := by
  simp only [loadOutput]
  split
  · exact Kept.refl s
  · exact Kept.putOutput _ _ _

theorem startLockout_kept (d : DistrictId) (s : State) : Kept s (startLockout d s) := Kept.putDistrict rfl rfl

theorem setDistrictState_kept (d : DistrictId) (k : DistrictState) (s : State) : Kept s (setDistrictState d k s) := by
  simp only [setDistrictState]
  split <;> exact Kept.trans (by exact Kept.putDistrict rfl rfl) (loadOutput_kept _ _)

theorem findSetpoint_kept (d : DistrictId) (s : State) : Kept s (findSetpoint d s) := by
  simp only [findSetpoint]
  have k : ∀ i, Kept s (s.putDistrict d { s.district d with inForce := i }) := fun i => Kept.putDistrict rfl rfl
  split
  · split
    · exact ((k _).trans (loadOutput_kept _ _)).trans (startLockout_kept _ _)
    · exact k _
  · exact Kept.refl s

theorem findSetpoints_kept (s : State) : Kept s (findSetpoints s) :=
  Kept.foldl (Kept.refl s) fun t d => findSetpoint_kept d t

theorem releaseOutlet_quiet (d : DistrictId) (s : State) : Quiet s (releaseOutlet d s) := by
  simp only [releaseOutlet]
  split
  · exact releaseClaims_quiet _ _ s
  · exact Quiet.nil s

theorem enterDistrictFault_quiet (d : DistrictId) (s : State) : Quiet s (enterDistrictFault d s) := by
  simp only [enterDistrictFault]
  split
  · exact Quiet.nil s
  · exact Quiet.moreWords (Quiet.after (setDistrictState_kept _ _ _) (withdraw_quiet _ _ _)) rfl

theorem enterLive_quiet (d : DistrictId) (s : State) : Quiet s (enterLive d s) := by
  simp only [enterLive]
  split
  · exact ⟨(setDistrictState_kept _ _ _).trans (startLockout_kept _ _), rfl⟩
  · exact Quiet.nil s

theorem enterShut_quiet (d : DistrictId) (s : State) : Quiet s (enterShut d s) := by
  simp only [enterShut]
  split
  · exact Quiet.moreWords (Quiet.after (setDistrictState_kept _ _ _) (releaseOutlet_quiet _ _)) rfl
  · exact Quiet.nil s

theorem askDistrictMove_quiet (d : DistrictId) (s : State) : Quiet s (askDistrictMove d s).2 := by
  simp only [askDistrictMove]
  split
  · exact Quiet.nil s
  rename_i p _
  have q := moveRequest_quiet (.district d) (districtValve p)
    (if decide ((s.district d).state = .opening) then .opened else .closed) s
  split
  all_goals rename_i heq; rw [heq] at q
  · refine q.moreWords ?_
    split <;> rfl
  · exact q.append (enterDistrictFault_quiet _ _)
  · exact ⟨q.kept.trans (Kept.putDistrict rfl rfl), q.inner⟩

theorem districtAsk_quiet (d : DistrictId) (s : State) : Quiet s (districtAsk d s) := by
  simp only [districtAsk]
  split
  · exact askDistrictMove_quiet d s
  · exact Quiet.nil s

theorem beginMove_quiet (d : DistrictId) (k : DistrictState) {freed : List Act} (h : freed.all Act.inner = true)
    (s : State) : Quiet s (beginMove d k freed s).2 := by
  simp only [beginMove]
  refine ⟨setDistrictState_kept d k s, ?_⟩
  simp only [List.all_append, Bool.and_eq_true]
  exact ⟨h, rfl⟩

theorem openDistrict_quiet (d : DistrictId) (p : OutletId) (s : State) : Quiet s (openDistrict d p s).2 := by
  simp only [openDistrict]
  split
  iterate 5 exact Quiet.nil s
  · split
    · exact beginMove_quiet _ _ rfl s
    · exact Quiet.nil s
  · have q := claimRequest_quiet (.district d) [districtValve p] s
    split
    · rename_i heq
      rw [heq] at q
      exact Quiet.after q.kept (beginMove_quiet _ _ q.inner _)
    all_goals exact Quiet.nil s

theorem shutDistrict_quiet (d : DistrictId) (s : State) : Quiet s (shutDistrict d s).2 := by
  simp only [shutDistrict]
  repeat' split
  all_goals first
    | exact Quiet.nil s
    | exact enterShut_quiet d s
    | exact beginMove_quiet _ _ rfl s

theorem districtPlace_quiet (s : State) : Quiet s (districtPlace s) := Quiet.words (all_map_inner _ _ fun _ => rfl)

theorem districtWord_quiet (d : DistrictId) (w : ValveWord) (s : State) : Quiet s (districtWord d w s) := by
  simp only [districtWord]
  repeat' split
  all_goals first
    | exact Quiet.words rfl
    | exact enterDistrictFault_quiet d s
    | exact ⟨Kept.putDistrict rfl rfl, rfl⟩

/-! ## Excursions and trips -/

theorem leaveWarn_quiet (d : DistrictId) (s : State) : Quiet s (leaveWarn d s) := ⟨Kept.putDistrict rfl rfl, rfl⟩

theorem enterWarn_quiet (d : DistrictId) (p : OutletId) (side : Side) (sample setpoint : Nat) (s : State) :
    Quiet s (enterWarn d p side sample setpoint s) := by
  simp only [enterWarn]
  have k : Kept s (s.putDistrict d { s.district d with
      state := .warn, qualify := none, repeatLeft := some (s.districtSettings d).repeatWindow }) :=
    Kept.putDistrict rfl rfl
  split
  · exact ⟨k.trans (leaveWarn_quiet _ _).kept, rfl⟩
  · exact ⟨k, rfl⟩

theorem trip_quiet (d : DistrictId) (p : OutletId) (side : Side) (sample setpoint : Nat) (s : State) :
    Quiet s (trip d p side sample setpoint s) := ⟨setDistrictState_kept _ _ _, rfl⟩

theorem qualified_quiet (d : DistrictId) (side : Side) (sample setpoint : Nat) (s : State) :
    Quiet s (qualified d side sample setpoint s) := by
  simp only [qualified]
  repeat' split
  all_goals first
    | exact enterWarn_quiet _ _ _ _ _ s
    | exact trip_quiet _ _ _ _ _ s
    | exact Quiet.nil s

theorem judgeSample_quiet (d : DistrictId) (value : Nat) (s : State) : Quiet s (judgeSample d value s) := by
  simp only [judgeSample]
  repeat' split
  all_goals first
    | exact Quiet.nil s
    | exact ⟨Kept.putDistrict rfl rfl, rfl⟩
    | exact qualified_quiet _ _ _ _ s

theorem qualifyExpired_quiet (d : DistrictId) (s : State) : Quiet s (qualifyExpired d s) := by
  simp only [qualifyExpired]
  have k : Kept s (s.putDistrict d { s.district d with qualify := none }) := Kept.putDistrict rfl rfl
  repeat' split
  all_goals first
    | exact Quiet.nil s
    | exact ⟨k, rfl⟩
    | exact Quiet.after k (qualified_quiet _ _ _ _ _)

theorem lockoutExpired_quiet (d : DistrictId) (s : State) : Quiet s (lockoutExpired d s) := by
  simp only [lockoutExpired]
  split
  · exact ⟨Kept.putDistrict rfl rfl, rfl⟩
  · exact Quiet.nil s

theorem repeatExpired_quiet (d : DistrictId) (s : State) : Quiet s (repeatExpired d s) := by
  simp only [repeatExpired]
  split
  · exact leaveWarn_quiet d s
  · exact Quiet.nil s

/-! ## The map and START -/

theorem afterMap_kept (old : OutletMap) (d : DistrictId) (s : State) : Kept s (afterMap old d s) := by
  simp only [afterMap]
  split
  · exact findSetpoint_kept d s
  · exact Kept.putDistrict rfl rfl
  · exact Kept.refl s

theorem applyMap_quiet (old : OutletMap) (s : State) : Quiet s (applyMap old s) :=
  ⟨Kept.foldl (Kept.refl s) fun t d => afterMap_kept old d t, rfl⟩

theorem startDistrict_quiet (d : DistrictId) (s : State) : Quiet s (startDistrict d s) := by
  simp only [startDistrict]
  split
  · exact Quiet.nil s
  have k : Kept s (s.putDistrict d { s.district d with inForce := some (s.setpointNow d) }) := Kept.putDistrict rfl rfl
  have c := fun v => k.trans (Kept.putClaim _ v (.district d))
  split
  · exact ⟨k, rfl⟩
  split
  · exact ⟨((c _).trans (setDistrictState_kept _ _ _)).trans (startLockout_kept _ _), rfl⟩
  · exact ⟨(c _).trans (setDistrictState_kept _ _ _), rfl⟩

theorem startDistricts_quiet (s : State) : Quiet s (startDistricts s) :=
  Quiet.foldl (f := startDistrict) (Quiet.nil s) fun d t => startDistrict_quiet d t

end Sys2Proof.Machine
end

