-- ==== Sys2Proof/Laws/AccountUnit.lean ====
section
/-!
SUPPORT. Sys2Proof/Laws/AccountUnit.lean: what each word of the account unit keeps (R153 to R174).
-/

namespace Sys2Proof.Machine

theorem markFilling_kept (f : Marks → Marks) (s : State) : Kept s (markFilling f s) := by
  simp only [markFilling]
  split
  · exact Kept.putHalf fun _ => rfl
  · exact Kept.refl s

theorem basisChanged_kept (s : State) : Kept s (basisChanged s) := by
  simp only [basisChanged]
  split
  · exact markFilling_kept _ s
  · exact Kept.refl s

theorem mapChanged_kept (s : State) : Kept s (mapChanged s) := by
  simp only [mapChanged]
  split
  · exact markFilling_kept _ s
  · exact Kept.refl s

theorem discrepancyWords_inner (was : Bool) (x : Slot) : (discrepancyWords was x).all Act.inner = true := by
  simp only [discrepancyWords]
  split
  · exact all_ite_inner _ rfl rfl
  · rfl

/-- The half that a search for a state finds is in it. -/
theorem halfIn_state {s : State} {k : HalfState} {i : HalfId} (h : s.halfIn k = some i) : (s.half i).state = k := by
  simp only [State.halfIn] at h
  split at h
  · cases h; assumption
  split at h
  · cases h; assumption
  · cases h

theorem postReady_quiet (s : State) : Quiet s (postReady s) := by
  simp only [postReady]
  split
  · exact Quiet.nil s
  rename_i i hi
  have ready := halfIn_state hi
  have k : ∀ y, Kept s (s.putHalf i y) := fun y => Kept.putHalf fun f => by rw [ready] at f; cases f
  split
  · exact Quiet.nil s
  split
  · refine ⟨(k Half.empty).trans (Kept.putAccounts rfl rfl (List.prefix_append _ _) (fun _ => ?_) ?_), ?_⟩
    · simp; omega
    · rfl
    · simp only [List.all_append, Bool.and_eq_true]
      exact ⟨rfl, discrepancyWords_inner _ _⟩
  · split
    · exact Quiet.nil s
    · exact ⟨k _, rfl⟩

theorem cutContract_quiet (x : SourceId) (s : State) : Quiet s (cutContract x s) :=
  ⟨Kept.accounts rfl rfl rfl rfl, rfl⟩

theorem judgeContract_quiet (s : State) : Quiet s (judgeContract s) := by
  simp only [judgeContract]
  repeat' split
  all_goals first
    | exact Quiet.nil s
    | exact ⟨Kept.accounts rfl rfl rfl rfl, rfl⟩
    | exact cutContract_quiet _ s

theorem contractFaultCleared_quiet (s : State) : Quiet s (contractFaultCleared s) := by
  simp only [contractFaultCleared]
  repeat' split
  all_goals exact Quiet.words rfl

theorem contractPulse_inner (k : MeterId) (weight : Nat) (s : State) :
    (contractPulse k weight s).2.all Act.inner = true := by
  simp only [contractPulse]
  repeat' split
  all_goals first
    | rfl
    | exact (cutContract_quiet _ _).inner

theorem takePulse_inner (k : MeterId) (s : State) : (takePulse k s).2.all Act.inner = true := by
  simp only [takePulse]
  split
  · rfl
  · simp only [List.all_append, Bool.and_eq_true]
    exact ⟨contractPulse_inner _ _ _, all_ite_inner _ rfl rfl⟩

/-! ## Boundaries, clock sets and START

These words turn the halves, so they keep what `Kept0` names, and hand on inner words alone. -/

/-- An effect that keeps what `Kept0` names and hands on inner words alone. -/
structure Quiet0 (s : State) (e : Effect) : Prop where
  kept : Kept0 s e.1
  inner : e.2.all Act.inner = true

theorem Quiet.to0 {s : State} {e : Effect} (q : Quiet s e) : Quiet0 s e := ⟨q.kept.toKept0, q.inner⟩

theorem Quiet0.nil (s : State) : Quiet0 s (s, []) := ⟨Kept0.refl s, rfl⟩

theorem Quiet0.after {s t : State} {e : Effect} (k : Kept0 s t) (q : Quiet0 t e) : Quiet0 s e :=
  ⟨k.trans q.kept, q.inner⟩

theorem Quiet0.andThen {s : State} {e : Effect} {f : State → Effect} (q : Quiet0 s e) (r : ∀ t, Quiet0 t (f t)) :
    Quiet0 s (e.andThen f) := by
  obtain ⟨t, l⟩ := e
  refine ⟨q.kept.trans (r t).kept, ?_⟩
  simp only [Effect.andThen, List.all_append, Bool.and_eq_true]
  exact ⟨q.inner, (r t).inner⟩

/-- The account unit's record changed in neither its statement nor its book; its halves and its take are free. -/
theorem Kept0.accounts {s : State} {x : AccountUnit} (h : x.statement = s.accounts.statement)
    (hb : x.book = s.accounts.book) : Kept0 s (s.putAccounts x) := by
  constructor <;> simp [h, hb]

theorem recomputeTake_kept0 (s : State) : Kept0 s (recomputeTake s) := Kept0.accounts rfl rfl

theorem gasDayStart_quiet0 (day : Nat) (s : State) : Quiet0 s (gasDayStart day s) :=
  Quiet0.after (by exact Kept0.accounts rfl rfl) (judgeContract_quiet _).to0

theorem turnHalves_quiet (i : HalfId) (x : Half) (begins : Interval) (atStart : Bool) (s : State) :
    Quiet0 s (turnHalves i x begins atStart s) :=
  Quiet0.after ((Kept0.putHalf _ _ _).trans (Kept0.putHalf _ _ _)) (postReady_quiet _).to0

theorem takeBoundary_quiet (b : Boundary) (s : State) : Quiet0 s (takeBoundary b s) := by
  simp only [takeBoundary]
  split
  · exact Quiet0.nil s
  rename_i i _
  have q : ∀ y : Half, Quiet0 s (if (s.half i.other).state = .empty then turnHalves i (s.half i) b.beginning false s
      else (s.putHalf i y, [])) := by
    intro y
    split
    · exact turnHalves_quiet _ _ _ _ s
    · exact ⟨Kept0.putHalf _ _ _, rfl⟩
  split
  · exact (q _).andThen fun t => gasDayStart_quiet0 _ t
  · exact q _

theorem takeClockSet_quiet (new : Interval) (laterDay : Bool) (s : State) : Quiet0 s (takeClockSet new laterDay s) := by
  simp only [takeClockSet]
  split
  · exact Quiet0.nil s
  rename_i i _
  have q : ∀ x y : Half, Quiet0 s (if (s.half i.other).state = .empty then turnHalves i x new false s
      else (s.putHalf i y, [])) := by
    intro x y
    split
    · exact turnHalves_quiet _ _ _ _ s
    · exact ⟨Kept0.putHalf _ _ _, rfl⟩
  split
  · exact (q _ _).andThen fun t => gasDayStart_quiet0 _ t
  · exact q _ _

theorem startHalves_quiet (s : State) : Quiet0 s (startHalves s) := by
  simp only [startHalves]
  repeat' split
  all_goals first
    | exact ⟨Kept0.putHalf _ _ _, rfl⟩
    | exact turnHalves_quiet _ _ _ _ s

theorem startContract_quiet0 (s : State) : Quiet0 s (startContract s) := by
  simp only [startContract]
  refine Quiet0.after ?_ (judgeContract_quiet _).to0
  have k : Kept0 s (if s.clock.day = s.accounts.takeDay then s else recomputeTake s) := by
    split
    · exact Kept0.refl s
    · exact recomputeTake_kept0 s
  exact k.trans (Kept0.accounts rfl rfl)

theorem startGap_quiet (s : State) : Quiet s (startGap s) := by
  simp only [startGap]
  split
  · exact ⟨Kept.accounts rfl rfl rfl rfl, rfl⟩
  · exact Quiet.nil s

theorem startAccounts_quiet (s : State) : Quiet0 s (startAccounts s) :=
  ((startHalves_quiet s).andThen fun t => startContract_quiet0 t).andThen fun t => (startGap_quiet t).to0

end Sys2Proof.Machine
end

