-- ==== Sys2Proof/Laws/Engine.lean ====
section
/-!
SUPPORT. Sys2Proof/Laws/Engine.lean: what one word does to the state, what the running of an event keeps, and what the taking
of a request comes to (R179, R180; log 4).
-/

namespace Sys2Proof.Machine

theorem tellRequester_quiet (r : Requester) (v : ValveId) (w : ValveWord) (s : State) :
    Quiet s (tellRequester r v w s) := by
  simp only [tellRequester]
  repeat' split
  all_goals first
    | exact Quiet.nil s
    | exact selectorWord_quiet _ _ s
    | exact isolationWord_quiet _ _ s
    | exact districtWord_quiet _ _ s
    | exact channelWord_quiet _ _ _ s

theorem tellClaimant_quiet (k : Claim) (v : ValveId) (w : ValveWord) (s : State) : Quiet s (tellClaimant k v w s) := by
  simp only [tellClaimant]
  split
  · exact tellRequester_quiet _ _ _ s
  · exact Quiet.nil s

/-- An inner word keeps what `Kept` names, and hands on inner words alone. -/
theorem handle_quiet {a : Act} (h : a.inner = true) (s : State) : Quiet s (handle a s) := by
  cases a
  case notice n => exact Quiet.ofKept (Kept.notify s n)
  case secondPasses => cases h
  case handMinute => cases h
  case handBoundary => cases h
  case setClock => cases h
  case boundary => cases h
  case clockSet => cases h
  case startStock => cases h
  case startAccounts => cases h
  case protectClose v cause =>
    simp only [handle]
    split
    · exact protectiveClose_quiet v cause s
    · exact Quiet.nil s
  case arbiter => exact arbiterChoose_quiet s
  case driveStart => exact startDrive_quiet s
  case reportEnd => exact endReport_quiet s
  case placeFreed => exact freePlace_quiet s
  case tellRequester => exact tellRequester_quiet _ _ _ s
  case tellClaimant => exact tellClaimant_quiet _ _ _ s
  case stockValve => exact judgeIsolation_quiet _ s
  case stockPlace => exact stockPlaceFreed_quiet s
  case isolationAsk => exact askIsolationClose_quiet _ s
  case judgeCondition => exact judgeStock_quiet s
  case decodeTrigger => exact decodeTrigger_quiet s
  case stockTold => exact decodeTrigger_quiet s
  case holderIsolating => exact holderIsolating_quiet _ s
  case askOpenNew => exact askOpenNew_quiet s
  case takeClosing => exact takeClosing_quiet _ s
  case closingCheck => exact closingCheck_quiet s
  case backOut => exact backOut_quiet s
  case outletCleared => exact outletCleared_quiet _ s
  case selectorPlace => exact selectorPlace_quiet s
  case claimReleased => exact claimReleased_quiet s
  case channelPlace => exact channelPlace_quiet s
  case channelRetry => exact channelRetry_quiet _ s
  case claimPath => exact claimPath_quiet _ s
  case guardRaised => exact guardRaised_quiet _ _ s
  case holderInFault => exact holderInFault_quiet _ s
  case contentTaken => exact contentTaken_quiet _ s
  case pinGranted => exact pinGranted_quiet _ s
  case pinRefused => exact pinRefused_quiet _ s
  case pinLost => exact pinLost_quiet _ s
  case askPins => exact askPins_quiet s
  case orderCurrent => exact orderCurrent_quiet _ _ s
  case proceed => exact proceed_quiet _ s
  case enterFlowing => exact enterFlowing_quiet _ s
  case askCloses => exact askCloses_quiet _ s
  case postIfFree => exact postIfFree_quiet _ s
  case chainOn => exact chainOn_quiet _ _ s
  case channelsStop => exact channelsStop_quiet s
  case minuteToChannels => exact minuteToChannels_quiet s
  case transferPulse => exact transferPulse_quiet _ s
  case beginHoldClose => exact askHoldClose_quiet _ s
  case releasePin => exact releasePin_quiet _ s
  case eventClose => exact eventClose_quiet s
  case findSetpoints => exact Quiet.ofKept (findSetpoints_kept s)
  case districtPlace => exact districtPlace_quiet s
  case districtAsk => exact districtAsk_quiet _ s
  case districtLive => exact enterLive_quiet _ s
  case districtShut => exact enterShut_quiet _ s
  case basisChanged => exact Quiet.ofKept (basisChanged_kept s)
  case mapChanged => exact Quiet.ofKept (mapChanged_kept s)
  case postReady => exact postReady_quiet s
  case contractFaultCleared => exact contractFaultCleared_quiet s
  case judgeContract => exact judgeContract_quiet s
  case startValves => exact Quiet.ofKept (adoptValves_kept s)
  case startSelector => exact startSelector_quiet s
  case startDistricts => exact startDistricts_quiet s
  case startChannels => exact startChannels_quiet s

/-- A word that neither is the clock unit's own nor hands one on. -/
def Act.unclocked : Act → Bool
  | .secondPasses | .handMinute | .handBoundary | .setClock _ _ _ _ => false
  | _ => true

theorem unclocked_of_inner {l : List Act} (h : l.all Act.inner = true) : l.all Act.unclocked = true := by
  simp only [List.all_eq_true] at h ⊢
  intro a ha
  have := h a ha
  cases a <;> first | rfl | cases this

/-- Every word but the clock unit's own keeps what `Kept0` names, and hands on inner words alone. -/
theorem handle_quiet0 {a : Act} (h : a.unclocked = true) (s : State) : Quiet0 s (handle a s) := by
  by_cases k : a.inner = true
  · exact (handle_quiet k s).to0
  · cases a <;> first | exact absurd rfl k | skip
    case secondPasses => cases h
    case handMinute => cases h
    case handBoundary => cases h
    case setClock => cases h
    case boundary b => exact takeBoundary_quiet b s
    case clockSet o n l => exact takeClockSet_quiet n l s
    case startStock => exact Quiet0.mk (startStockUnit_kept s) (startStockUnit_inner s)
    case startAccounts => exact startAccounts_quiet s

/-! ## The running of an event -/

/-- What every word keeps, the running of an event keeps, so long as it does not rest on the backlog. -/
theorem run_keeps {P : State → Prop} (words : ∀ a s, P s → P (handle a s).1)
    (backlog : ∀ s l, P s → P { s with backlog := l }) (n : Nat) (acts : List Act) (s : State) (h : P s) :
    P (run n acts s) := by
  induction n generalizing acts s with
  | zero => exact backlog s acts h
  | succ n ih =>
    cases acts with
    | nil => exact h
    | cons a rest =>
      simp only [run]
      split
      · exact ih _ _ h
      · exact ih _ _ (words a s h)

/-- Inner words keep what `Kept` names to the end of the event. -/
theorem run_kept (n : Nat) (acts : List Act) (s : State) (h : acts.all Act.inner = true) : Kept s (run n acts s) := by
  induction n generalizing acts s with
  | zero => exact Kept.backlog s acts
  | succ n ih =>
    cases acts with
    | nil => exact Kept.refl s
    | cons a rest =>
      simp only [List.all_cons, Bool.and_eq_true] at h
      simp only [run]
      split
      · exact ih _ _ h.2
      have q := handle_quiet h.1 s
      refine q.kept.trans (ih _ _ ?_)
      simp only [List.all_append, Bool.and_eq_true]
      exact ⟨q.inner, h.2⟩

/-- Words other than the clock unit's own keep what `Kept0` names to the end of the event. -/
theorem run_kept0 (n : Nat) (acts : List Act) (s : State) (h : acts.all Act.unclocked = true) :
    Kept0 s (run n acts s) := by
  induction n generalizing acts s with
  | zero => exact (Kept.backlog s acts).toKept0
  | succ n ih =>
    cases acts with
    | nil => exact Kept0.refl s
    | cons a rest =>
      simp only [List.all_cons, Bool.and_eq_true] at h
      simp only [run]
      split
      · exact ih _ _ h.2
      have q := handle_quiet0 h.1 s
      refine q.kept.trans (ih _ _ ?_)
      simp only [List.all_append, Bool.and_eq_true]
      exact ⟨unclocked_of_inner q.inner, h.2⟩

/-- Only the two triggers can be merged into a later word (R41). -/
theorem mergedInto_of_word {a : Act} (trigger : a ≠ .decodeTrigger) (told : a ≠ .stockTold) (rest : List Act) :
    a.mergedInto rest = false := by
  cases a <;> first | rfl | contradiction

@[simp] theorem mergedInto_nil (a : Act) : a.mergedInto [] = false := by cases a <;> rfl

@[simp] theorem mergedInto_append (a : Act) (l m : List Act) :
    a.mergedInto (l ++ m) = (a.mergedInto l || a.mergedInto m) := by
  cases a <;> simp [Act.mergedInto, List.any_append]

@[simp] theorem mergedInto_close (a : Act) : a.mergedInto [.eventClose] = false := by cases a <;> rfl

/-- A word that is not merged into a later one is handled, with all that follows from it before the next. -/
theorem run_cons {a : Act} {rest : List Act} (h : a.mergedInto rest = false) (n : Nat) (s : State) :
    run (n + 1) (a :: rest) s = run n ((handle a s).2 ++ rest) (handle a s).1 := by
  simp [run, h]

/-- A trigger merged into the last word of an event at the stock unit does nothing by itself (R41). -/
theorem run_merged {a : Act} {rest : List Act} (h : a.mergedInto rest = true) (n : Nat) (s : State) :
    run (n + 1) (a :: rest) s = run n rest s := by
  simp [run, h]

@[simp] theorem run_nil (n : Nat) (s : State) (h : s.backlog = []) : run n [] s = s := by
  cases n with
  | zero => cases s; simp_all [run]
  | succ n => rfl

/-- An effect that hands on nothing is the whole event, where nothing is left from an earlier one. -/
theorem settle_nil {s : State} (h : s.backlog = []) : settle (s, []) = s := by simp [settle, h]

/-- An effect whose words are inner keeps what `Kept` names to the end of its event. -/
theorem settle_kept {e : Effect} (hb : e.1.backlog = []) (h : e.2.all Act.inner = true) : Kept e.1 (settle e) := by
  simp only [settle, hb]
  split
  · exact Kept.refl _
  · refine (Kept.backlog e.1 []).trans (run_kept _ _ _ ?_)
    simp only [List.nil_append, List.all_append, Bool.and_eq_true]
    exact ⟨h, rfl⟩

/-- An effect whose words are not the clock unit's own keeps what `Kept0` names to the end of its event. -/
theorem settle_kept0 {e : Effect} (hb : e.1.backlog = []) (h : e.2.all Act.unclocked = true) : Kept0 e.1 (settle e) := by
  simp only [settle, hb]
  split
  · exact Kept0.refl _
  · refine (Kept.backlog e.1 []).toKept0.trans (run_kept0 _ _ _ ?_)
    simp only [List.nil_append, List.all_append, Bool.and_eq_true]
    exact ⟨h, rfl⟩

/-- What every word keeps, an event keeps. -/
theorem settle_keeps {P : State → Prop} (words : ∀ a s, P s → P (handle a s).1)
    (backlog : ∀ s l, P s → P { s with backlog := l }) (e : Effect) (h : P e.1) : P (settle e) := by
  simp only [settle]
  split
  · exact h
  · exact run_keeps words backlog _ _ _ (backlog _ _ h)

/-! ## The taking of a request -/

/-- A request taken by a free port: the owner's effect carried to its end, and the reply composed. -/
theorem request_free {code : Nat} {tag : Byte} {owner : State → Taken} {s : State} (h : s.link.busy = false) :
    request code tag owner s
      = .next ((settle (owner (s.putLink { s.link with taking := true })).1).putLink
          ((settle (owner (s.putLink { s.link with taking := true })).1).link.composeReply (replyKind code) tag
            ((owner (s.putLink { s.link with taking := true })).2
              (settle (owner (s.putLink { s.link with taking := true })).1)))) := by
  simp [request, h]

/-- A request that arrives while the port is busy changes the port alone (R180). -/
theorem request_busy {code : Nat} {tag : Byte} {owner : State → Taken} {s : State} (h : s.link.busy = true) :
    request code tag owner s = .next (s.putLink (s.link.refuseBusy (replyKind code) tag)) := by
  simp [request, h]

/-- The reply of a request in hand is the one composed (R179). -/
theorem composeReply_reply (l : LinkPort) (kind tag : Byte) (body : List Byte) :
    (l.composeReply kind tag body).reply = some { kind := kind, tag := tag, body := body } := by
  simp [LinkPort.composeReply, (LinkPort.choose_keeps _).2.2.2.1]

/-- The state while a request is in hand. -/
abbrev State.inHand (s : State) : State := s.putLink { s.link with taking := true }

/-- A composed reply keeps the notices of the queue and its length, and the counts of the port. -/
theorem LinkPort.composeReply_keeps (l : LinkPort) (kind tag : Byte) (body : List Byte) :
    (l.composeReply kind tag body).baud = l.baud ∧ (l.composeReply kind tag body).errors = l.errors
      ∧ (l.composeReply kind tag body).taking = false ∧ (l.composeReply kind tag body).busyReply = l.busyReply
      ∧ (l.composeReply kind tag body).queue.length = l.queue.length
      ∧ (l.composeReply kind tag body).notices = l.notices := by
  obtain ⟨a, b, c, d, e, f, g⟩ :=
    LinkPort.choose_keeps { l with taking := false, reply := some { kind := kind, tag := tag, body := body } }
  exact ⟨a, b, c, e, f, g⟩

/-- A reply composed in both of two states that `Kept0` relates. -/
theorem Kept0.answered {s t : State} (k : Kept0 s t) (code : Nat) (tag : Byte) (body : List Byte) :
    Kept0 (s.answered code tag body) (t.answered code tag body) := by
  obtain ⟨a, b, c, e, f, g⟩ := LinkPort.composeReply_keeps s.link (replyKind code) tag body
  obtain ⟨a', b', c', e', f', g'⟩ := LinkPort.composeReply_keeps t.link (replyKind code) tag body
  constructor <;> simp only [State.answered, State.pending_putLink, State.settings_putLink, State.control_putLink,
    State.clock_putLink, State.stock_putLink, State.valves_putLink, State.accounts_putLink, State.link_putLink,
    State.holder_putLink_other, State.district_putLink_other, State.valve_putLink_other, State.order_putLink_other, a, b, c, e, f, g, a', b',
    c', e', f', g', composeReply_reply]
  all_goals first
    | exact k.pending | exact k.settings | exact k.control | exact k.clock | exact k.baud | exact k.errors
    | exact k.busyReply | exact k.release | exact k.content | exact k.atCrown | exact k.atLow | exact k.cause
    | exact k.held | exact k.sample | exact k.fault | exact k.openMade | exact k.closedMade | exact k.order
    | exact k.statement | exact k.moves | exact k.places | exact k.slots | exact k.notices | exact k.book

/-- A reply composed in both of two states that `Kept` relates. -/
theorem Kept.answered {s t : State} (k : Kept s t) (code : Nat) (tag : Byte) (body : List Byte) :
    Kept (s.answered code tag body) (t.answered code tag body) :=
  ⟨k.toKept0.answered code tag body, k.holder, k.filling, k.take, k.condition⟩

/-- A request in hand leaves nothing of its being in hand behind. -/
@[simp] theorem State.answered_inHand (s : State) (code : Nat) (tag : Byte) (body : List Byte) :
    s.inHand.answered code tag body = s.answered code tag body := rfl

/-- A request whose taking hands on no word. -/
theorem request_still {code : Nat} {tag : Byte} {owner : State → Taken} {s t : State} {f : State → List Byte}
    (h : s.free) (e : owner s.inHand = ((t, []), f)) (ht : t.backlog = []) :
    request code tag owner s = .next (t.answered code tag (f t)) := by
  rw [request_free h.2, show s.putLink { s.link with taking := true } = s.inHand from rfl, e]
  simp only [settle_nil ht, State.answered]

/-- A request whose taking hands on inner words. -/
theorem request_quiet {code : Nat} {tag : Byte} {owner : State → Taken} {s : State} {e : Effect} {k : Status}
    (h : s.free) (ho : owner s.inHand = taken k e) (hb : e.1.backlog = []) (hi : e.2.all Act.inner = true) :
    ∃ t, request code tag owner s = .next t ∧ Kept (e.1.answered code tag k.body) t := by
  rw [request_free h.2, show s.putLink { s.link with taking := true } = s.inHand from rfl, ho]
  exact ⟨_, rfl, (settle_kept hb hi).answered code tag k.body⟩

/-- A request whose taking hands on words that are not the clock unit's own. -/
theorem request_quiet0 {code : Nat} {tag : Byte} {owner : State → Taken} {s : State} {e : Effect} {k : Status}
    (h : s.free) (ho : owner s.inHand = taken k e) (hb : e.1.backlog = []) (hi : e.2.all Act.unclocked = true) :
    ∃ t, request code tag owner s = .next t ∧ Kept0 (e.1.answered code tag k.body) t := by
  rw [request_free h.2, show s.putLink { s.link with taking := true } = s.inHand from rfl, ho]
  exact ⟨_, rfl, (settle_kept0 hb hi).answered code tag k.body⟩

/-- A command that is no request, handing on inner words. -/
theorem event_quiet {e : Effect} (hb : e.1.backlog = []) (hi : e.2.all Act.inner = true) :
    ∃ t, event e = .next t ∧ Kept e.1 t := ⟨_, rfl, settle_kept hb hi⟩

/-- A command that is no request and hands on no word. -/
theorem event_still {t : State} (ht : t.backlog = []) : event (t, []) = .next t := by simp [event, settle_nil ht]

end Sys2Proof.Machine
end

