-- ==== Sys2Proof/Laws/PerInstr.lean ====
section
/-!
SUPPORT. Sys2Proof/Laws/PerInstr.lean: command by command, the catalogue of request codes gives back the command whose frame
it reads (R179, R181).
-/

namespace Sys2Proof.Laws.Framed

/-- The frame that a well-formed command travels in, where it travels in one, stands for that command. -/
def Statement (i : Instr) : Prop := ∀ f, i.wellFormed = true → requestFrame i = some f → requestOf f = i

/-- A command that is no good frame travels in none. -/
theorem of_unframed {i : Instr} (h : requestFrame i = none) : Statement i := by
  intro f _ e
  rw [h] at e
  cases e

/-- A command whose frame reads back as the command. -/
theorem of_framed {i : Instr} {g : Frame} (h : requestFrame i = some g) (r : requestOf g = i) : Statement i := by
  intro f _ e
  rw [h] at e
  cases e
  exact r

theorem powerOnReset (p : PowerUp) : Statement (.powerOnReset p) := of_unframed rfl
theorem identify (tag : Byte) (body : List Byte) : Statement (.identify tag body) := of_framed rfl rfl
theorem yardStatus (tag : Byte) (body : List Byte) : Statement (.yardStatus tag body) := of_framed rfl rfl
theorem start (tag : Byte) (body : List Byte) : Statement (.start tag body) := of_framed rfl rfl
theorem stop (tag : Byte) (body : List Byte) : Statement (.stop tag body) := of_framed rfl rfl
theorem freeze (tag : Byte) (body : List Byte) : Statement (.freeze tag body) := of_framed rfl rfl
theorem saveSettings (tag : Byte) (body : List Byte) : Statement (.saveSettings tag body) := of_framed rfl rfl
theorem setClock (tag : Byte) (body : List Byte) : Statement (.setClock tag body) := of_framed rfl rfl
theorem setHolder (tag : Byte) (body : List Byte) : Statement (.setHolder tag body) := of_framed rfl rfl
theorem readHolder (tag : Byte) (body : List Byte) : Statement (.readHolder tag body) := of_framed rfl rfl
theorem isolateHolder (tag : Byte) (body : List Byte) : Statement (.isolateHolder tag body) := of_framed rfl rfl
theorem returnHolder (tag : Byte) (body : List Byte) : Statement (.returnHolder tag body) := of_framed rfl rfl
theorem clearHolderFault (tag : Byte) (body : List Byte) : Statement (.clearHolderFault tag body) := of_framed rfl rfl
theorem setLadder (tag : Byte) (body : List Byte) : Statement (.setLadder tag body) := of_framed rfl rfl
theorem releaseReserve (tag : Byte) (body : List Byte) : Statement (.releaseReserve tag body) := of_framed rfl rfl
theorem withdrawRelease (tag : Byte) (body : List Byte) : Statement (.withdrawRelease tag body) := of_framed rfl rfl
theorem setSupplyEntry (tag : Byte) (body : List Byte) : Statement (.setSupplyEntry tag body) := of_framed rfl rfl
theorem setDwell (tag : Byte) (body : List Byte) : Statement (.setDwell tag body) := of_framed rfl rfl
theorem readSendOut (tag : Byte) (body : List Byte) : Statement (.readSendOut tag body) := of_framed rfl rfl
theorem setValve (tag : Byte) (body : List Byte) : Statement (.setValve tag body) := of_framed rfl rfl
theorem moveValve (tag : Byte) (body : List Byte) : Statement (.moveValve tag body) := of_framed rfl rfl
theorem readValve (tag : Byte) (body : List Byte) : Statement (.readValve tag body) := of_framed rfl rfl
theorem clearValveFault (tag : Byte) (body : List Byte) : Statement (.clearValveFault tag body) := of_framed rfl rfl
theorem loadOrder (tag : Byte) (body : List Byte) : Statement (.loadOrder tag body) := of_framed rfl rfl
theorem linkOrder (tag : Byte) (body : List Byte) : Statement (.linkOrder tag body) := of_framed rfl rfl
theorem clearOrder (tag : Byte) (body : List Byte) : Statement (.clearOrder tag body) := of_framed rfl rfl
theorem readOrder (tag : Byte) (body : List Byte) : Statement (.readOrder tag body) := of_framed rfl rfl
theorem startChain (tag : Byte) (body : List Byte) : Statement (.startChain tag body) := of_framed rfl rfl
theorem stopChannelAfter (tag : Byte) (body : List Byte) : Statement (.stopChannelAfter tag body) := by
  intro f w e
  cases e
  have h : namesAtOnce body = false := by simp_all [Instr.wellFormed]
  exact if_neg (by simp [h])

theorem stopChannelAtOnce (tag : Byte) (body : List Byte) : Statement (.stopChannelAtOnce tag body) := by
  intro f w e
  cases e
  have h : namesAtOnce body = true := by simp_all [Instr.wellFormed]
  exact if_pos h

theorem hold (tag : Byte) (body : List Byte) : Statement (.hold tag body) := of_framed rfl rfl
theorem resume (tag : Byte) (body : List Byte) : Statement (.resume tag body) := of_framed rfl rfl
theorem readChannel (tag : Byte) (body : List Byte) : Statement (.readChannel tag body) := of_framed rfl rfl
theorem setChannel (tag : Byte) (body : List Byte) : Statement (.setChannel tag body) := of_framed rfl rfl
theorem setOutletMap (tag : Byte) (body : List Byte) : Statement (.setOutletMap tag body) := of_framed rfl rfl
theorem setDistrict (tag : Byte) (body : List Byte) : Statement (.setDistrict tag body) := of_framed rfl rfl
theorem setSchedule (tag : Byte) (body : List Byte) : Statement (.setSchedule tag body) := of_framed rfl rfl
theorem openDistrict (tag : Byte) (body : List Byte) : Statement (.openDistrict tag body) := of_framed rfl rfl
theorem shutDistrict (tag : Byte) (body : List Byte) : Statement (.shutDistrict tag body) := of_framed rfl rfl
theorem holdSetpoint (tag : Byte) (body : List Byte) : Statement (.holdSetpoint tag body) := of_framed rfl rfl
theorem releaseSetpoint (tag : Byte) (body : List Byte) : Statement (.releaseSetpoint tag body) := of_framed rfl rfl
theorem readDistrict (tag : Byte) (body : List Byte) : Statement (.readDistrict tag body) := of_framed rfl rfl
theorem setMeter (tag : Byte) (body : List Byte) : Statement (.setMeter tag body) := of_framed rfl rfl
theorem setContract (tag : Byte) (body : List Byte) : Statement (.setContract tag body) := of_framed rfl rfl
theorem setDiscrepancy (tag : Byte) (body : List Byte) : Statement (.setDiscrepancy tag body) := of_framed rfl rfl
theorem readLive (tag : Byte) (body : List Byte) : Statement (.readLive tag body) := of_framed rfl rfl
theorem readSlot (tag : Byte) (body : List Byte) : Statement (.readSlot tag body) := of_framed rfl rfl
theorem amendSlot (tag : Byte) (body : List Byte) : Statement (.amendSlot tag body) := of_framed rfl rfl
theorem closeDay (tag : Byte) (body : List Byte) : Statement (.closeDay tag body) := of_framed rfl rfl
theorem readStatement (tag : Byte) (body : List Byte) : Statement (.readStatement tag body) := of_framed rfl rfl
theorem unknownKind (kind : Byte) (tag : Byte) (body : List Byte) : Statement (.unknownKind kind tag body) := by
  intro f w e
  cases e
  have h : ¬(1 ≤ kind.toNat ∧ kind.toNat ≤ 48) := by
    simp only [Instr.wellFormed, isRequestCode, Bool.and_eq_true, Bool.not_eq_true', decide_eq_false_iff_not] at w
    exact w.2
  simp only [requestOf]
  split <;> first | rfl | omega

theorem frameCheckFailed : Statement .frameCheckFailed := of_unframed rfl
theorem framingError (received : List Byte) : Statement (.framingError received) := of_unframed rfl
theorem linkBreak : Statement .linkBreak := of_unframed rfl
theorem frameSent : Statement .frameSent := of_unframed rfl
theorem meterPulse (m : MeterId) : Statement (.meterPulse m) := of_unframed rfl
theorem liftReading (h : HolderId) (content : BitVec 32) : Statement (.liftReading h content) := of_unframed rfl
theorem pressureSample (p : OutletId) (value : Fin 1000) : Statement (.pressureSample p value) := of_unframed rfl
theorem limitSwitch (v : ValveId) (which : Limit) : Statement (.limitSwitch v which) := of_unframed rfl
theorem limitSwitchBreak (v : ValveId) (which : Limit) : Statement (.limitSwitchBreak v which) := of_unframed rfl
theorem yardStopAssertion (order : StopOrder) : Statement (.yardStopAssertion order) := of_unframed rfl
theorem yardStopRelease : Statement .yardStopRelease := of_unframed rfl
theorem clockTick : Statement .clockTick := of_unframed rfl
theorem changeOfMinute : Statement .changeOfMinute := of_unframed rfl
theorem intervalBoundary : Statement .intervalBoundary := of_unframed rfl
theorem liftSilenceExpiry (h : HolderId) : Statement (.liftSilenceExpiry h) := of_unframed rfl
theorem travelTimerExpiry : Statement .travelTimerExpiry := of_unframed rfl
theorem dwellExpiry : Statement .dwellExpiry := of_unframed rfl
theorem releaseExpired : Statement .releaseExpired := of_unframed rfl
theorem pathTimeout (c : ChannelId) : Statement (.pathTimeout c) := of_unframed rfl
theorem timeLimit (c : ChannelId) : Statement (.timeLimit c) := of_unframed rfl
theorem waitDurationExpiry (c : ChannelId) : Statement (.waitDurationExpiry c) := of_unframed rfl
theorem settleLockoutExpiry (d : DistrictId) : Statement (.settleLockoutExpiry d) := of_unframed rfl
theorem qualifyExpiry (d : DistrictId) : Statement (.qualifyExpiry d) := of_unframed rfl
theorem repeatWindowExpiry (d : DistrictId) : Statement (.repeatWindowExpiry d) := of_unframed rfl
theorem saveWriteEnd (result : WriteEnd) : Statement (.saveWriteEnd result) := of_unframed rfl

end Sys2Proof.Laws.Framed
end

