-- ==== Sys2Proof/Tests/Slice0.lean ====
section
/-!
SUPPORT. Sys2Proof/Tests/Slice0.lean: ill-formed commands that the check refuses; the manual's own worked figures, one step
each; and for every statement with hypotheses a state and operands that meet them, clause by clause.
-/

namespace Sys2Proof.Tests

open Sys2Proof.Machine

-- The theorems here are evaluated by the kernel: one after the other, so that they do not wait for it side by side.
set_option Elab.async false

/-! ## Ill-formed commands -/

theorem test_body_of_240_fits : (Instr.identify 7#8 (List.replicate 240 0#8)).wellFormed = true := by decide +kernel
theorem test_body_of_241_refused : (Instr.identify 7#8 (List.replicate 241 0#8)).wellFormed = false := by decide +kernel
theorem test_unknown_kind_of_a_request_refused :
    (Instr.unknownKind 0x30#8 7#8 []).wellFormed = false ∧ (Instr.unknownKind 0x31#8 7#8 []).wellFormed = true := by
  decide
theorem test_stop_after_naming_at_once_refused :
    (Instr.stopChannelAfter 7#8 [1#8, 2#8]).wellFormed = false
      ∧ (Instr.stopChannelAfter 7#8 [1#8, 1#8]).wellFormed = true := by decide
theorem test_stop_at_once_naming_after_refused :
    (Instr.stopChannelAtOnce 7#8 [1#8, 1#8]).wellFormed = false
      ∧ (Instr.stopChannelAtOnce 7#8 [1#8, 2#8]).wellFormed = true := by decide

/-! ## States of the tests -/

/-- The state after a command. -/
def after (i : Instr) (s : State) : State :=
  match exec i s with
  | .next t => t
  | .fault f => nomatch f
  | .refused _ => s

/-- Two holders set to yes, H1 and H2. -/
def plant : Settings :=
  { Settings.blank with
    holders := (Settings.blank.holders.set 0 ⟨true, 2000000, 1950000, 100000, 10000, 600⟩).set 1
      ⟨true, 1500000, 1460000, 80000, 10000, 600⟩
    ladder := ⟨600, 1200, 3900⟩
    supply := (Settings.blank.supply.set 0 ⟨0, 1000, 65535, .ordinary⟩).set 1 ⟨1, 0, 999, .reserve⟩
    source := some 2
    cap := 60000 }

/-- SETUP, with the clock set to 06:29:59 of gas day 10. -/
def bench : State :=
  { State.reset with
    settings := plant
    control := { State.reset.control with loaded := true }
    clock := { State.reset.clock with day := 10, minute := 389, second := 59, unset := false } }

/-- A holder in SERVICE with a content. -/
def holding (n : Nat) : Holder := { Holder.atReset with content := some n, silence := some 600 }

/-- RUN, STEADY on H1, every valve CLOSED and its CLOSED switch made, half A FILLING. -/
def yard : State :=
  { bench with
    control := { bench.control with phase := .run }
    valves := { bench.valves with table := Vector.replicate 20 ⟨.closed, .noFault, .unclaimed, false, true⟩ }
    stock :=
      { holders := (bench.stock.holders.set 0 (holding 1500000)).set 1 (holding 820000), condition := .working,
        release := none }
    selector := { Selector.atReset with state := .steady, current := some 0 }
    accounts := { bench.accounts with halves :=
      { a := { Half.empty with state := .filling, first := ⟨10, 0⟩, last := ⟨10, 0⟩, span := 1 }, b := Half.empty } } }

/-- A state with a valve at a position, unclaimed or claimed, its switches not made. -/
def withValve (v : ValveId) (p : Position) (k : Claim) (s : State) : State :=
  s.putValve v { position := p, fault := .noFault, claim := k, openMade := false, closedMade := false }

/-- A state with the valve that stands faulted. -/
def withFault (v : ValveId) (f : ValveFault) (s : State) : State := s.putValve v { s.valve v with fault := f }

/-- A state with the main driving a valve for the office. -/
def withDrive (v : ValveId) (t : Limit) (left : Nat) (s : State) : State :=
  s.putValves { s.valves with
    main := .driving { valve := v, target := t, requesters := [.host], protective := false } left }

/-- The seven order fields a test sets, the others absent. -/
def order (k : OrderKind) (dest src : Option HolderId) (source : Option SourceId) (form : Option TargetForm)
    (target timeLimit : Nat) : Order :=
  { Order.absent with kind := some k, dest := dest, src := src, source := source, form := form, target := target,
                      timeLimit := timeLimit }

def slot (o : Order) (k : OrderStatus) : OrderSlot :=
  { order := o, status := k, endCause := none, counted := 0, endContent := none }

/-- Channel A working on slot 5. -/
def withWork (st : ChannelState) (x : OrderSlot) (s : State) : State :=
  (s.putOrder 5 x).putChannel .a { Channel.idle with state := st, current := some 5 }

def withDistrict (d : DistrictId) (x : District) (s : State) : State := s.putDistrict d x

/-- A district in a state, with a setpoint of 50 in force. -/
def district (st : DistrictState) : District := { District.atReset with state := st, inForce := some ⟨50, 4⟩ }

def stopped (s : State) : State := s.putControl { s.control with stopAsserted := true }
def frozen (s : State) : State := s.putControl { s.control with frozen := true }
def setup (s : State) : State := s.putControl { s.control with phase := .setup }

def bookSlot (day index : Nat) : Slot :=
  { first := ⟨day, index⟩, last := ⟨day, index⟩, span := 1, columns := Vector.replicate 12 7, atOpen := ⟨2320000, true⟩,
    atClose := ⟨2320000, true⟩, openedAtStart := false, unaccounted := none, marks := Half.empty.marks,
    discrepant := false, original := false, check := 0 }

/-- A slot as posted, its check word good. -/
def postedSlot (day index : Nat) : Slot :=
  { bookSlot day index with original := true,
                            check := checkWord { bookSlot day index with original := true } }

def withBook (l : List Slot) (s : State) : State :=
  s.putAccounts { s.accounts with book := l, takeDay := 9, take := 7 }

/-! ## The manual's figures, one step each -/

/-- An empty queue idles (log 20). -/
theorem test_empty_queue_idles : step yard = .next yard := by
  change event (yard, []) = .next yard
  exact event_still rfl

/-- The exchange of chapter 10: the frame of IDENTIFY with tag 07h. -/
theorem test_identify_frame_is_received :
    receiveFrame [0xA5#8, 0x00#8, 0x01#8, 0x07#8, 0x00#8, 0x08#8] = some (.identify 7#8 []) := by decide +kernel

/-- The exchange of chapter 10: the reply frame, with six districts, three holders, loaded and not frozen. Its
check is 006Bh by R177; the chapter's 0065h is a slip of its addition (log 21). -/
theorem test_identify_reply_frame :
    let s := bench.putSettings { bench.settings with
      holders := bench.settings.holders.set 2 ⟨true, 800000, 780000, 40000, 5000, 600⟩ }
    (after (.identify 7#8 []) s).link.reply.map Frame.bytes
      = some [0xA5#8, 0x08#8, 0x41#8, 0x07#8, 0x00#8, 0x0A#8, 0x04#8, 0x03#8, 0x06#8, 0x03#8, 0x01#8, 0x00#8,
          0x00#8, 0x6B#8] := by decide +kernel

/-- A frame whose check is one off is discarded (R177). -/
theorem test_bad_check_is_discarded :
    receiveFrame [0xA5#8, 0x00#8, 0x01#8, 0x07#8, 0x00#8, 0x09#8] = some .frameCheckFailed := by decide +kernel

/-- The tick at 06:29:59 comes to 06:30 and the second interval of the gas day (R8, R9). -/
theorem test_tick_owes_the_boundary :
    (after .clockTick yard).clock.boundaryOwed = some ⟨⟨10, 0⟩, ⟨10, 1⟩, false⟩ := by decide +kernel

/-- A pulse of S3's meter adds its weight of 100 to column S3 and to the take (R151, R168). -/
theorem test_pulse_is_counted :
    ((after (.meterPulse 2) yard).half .a).columns[2] = 100 ∧ (after (.meterPulse 2) yard).accounts.take = 100 := by
  decide +kernel

/-- Channel A holds H2IN, CLOSED, for a RECEIVE that is SUSPENDED; channel B's RECEIVE waits for that claim. -/
def contested : State :=
  ((withWork .suspended (slot (order .receive (some 1) none none none 900000 0) .suspended)
      (yard.putValve 1 { yard.valve 1 with claim := .channel .a })).putOrder 6
      (slot (order .receive (some 1) none none none 900000 0) .waitPath)).putChannel .b
    { Channel.idle with state := .running, current := some 6, pathWait := .claim }

/-- In either order of the yard stop both channels halt within the event, and the claim that A gives up is not taken up by
B under the stop (R6, R103). -/
theorem test_yard_stop_halts_both_channels (o : StopOrder) :
    let t := after (.yardStopAssertion o) contested
    (t.channel .a).state = .halted ∧ (t.channel .b).state = .halted ∧ (t.valve 1).claim = .unclaimed
      ∧ (t.order 6).endCause = some .yardStop ∧ t.valves.main = .idle := by
  cases o <;> decide +kernel

/-- A reading at the crown stop raises AT CROWN (R18). -/
theorem test_reading_at_the_crown_stop :
    ((after (.liftReading 1 1460000#32) yard).holder 1).atCrown = true := by decide +kernel

/-- A request is answered once: the second one that comes while the first is unanswered is BUSY (R180). -/
theorem test_second_request_is_busy :
    ((after (.yardStatus 2#8 []) (after (.identify 1#8 []) yard)).link.busyReply)
      = some { kind := 0x42#8, tag := 2#8, body := [0x10#8] } := by decide +kernel

/-- The reply of YARD STATUS has 46 bytes (R190). -/
theorem test_yard_status_has_46_bytes :
    ((after (.yardStatus 2#8 []) yard).link.reply.map fun f => f.body.length) = some 46 := by decide +kernel

/-! ## The hypotheses of the statements are met -/

theorem witness_EventsEndAtRest :
    let s := { yard with pending := [.clockTick] }
    s.atRest ∧ ∃ t, step s = .next t ∧ t.backlog = [] :=
  ⟨by decide +kernel, after .clockTick yard, rfl, by decide +kernel⟩

theorem witness_GoodFramesCarryTheirRequest :
    let i : Instr := .unknownKind 0x7E#8 7#8 (List.replicate 240 0#8)
    i.wellFormed = true ∧ requestFrame i = some { kind := 0x7E#8, tag := 7#8, body := List.replicate 240 0#8 } := by
  decide +kernel

theorem witness_IdentifyReportsThePart :
    yard.free ∧ bench.free ∧ ([0#8] : List Byte) ≠ [] ∧ yard.backlog = []
    ∧ exec (.saveSettings 1#8 []) yard = .next (after (.saveSettings 1#8 []) yard) := ⟨by decide, by decide, by decide, rfl, rfl⟩

theorem witness_ReadRequestsChangeOnlyThePort : yard.free ∧ bench.free := by decide

theorem witness_RequestsAreTurnedAwayWhole :
    (yard.free ∧ (Instr.start 7#8 [0#8]).requestCode = some 3 ∧ (Instr.start 7#8 [0#8]).tagAndBody = some (7#8, [0#8])
      ∧ (Instr.start 7#8 [0#8]).bodyLength = some 0 ∧ ([0#8] : List Byte).length ≠ 0)
    ∧ (let one := after (.identify 1#8 []) yard
       let two := after (.identify 2#8 []) one
       (Instr.identify 2#8 []).wellFormed = true
        ∧ requestFrame (.identify 2#8 []) = some { kind := 1#8, tag := 2#8, body := [] }
        ∧ one.link.busy = true ∧ one.link.busyReply = none ∧ two.link.busy = true ∧ two.link.busyReply ≠ none)
    ∧ ([1#8, 1#8, 0#8] : List Byte).length ≠ 2 + 4 * field [1#8, 1#8, 0#8] 1 1 := by
  decide +kernel

theorem witness_UnknownKindsAndBadFrames :
    yard.free ∧ (yard.putLink { yard.link with errors := 65534 }).link.errors < 65535
      ∧ (yard.putLink { yard.link with errors := 65535 }).link.errors = 65535
      ∧ Receiver.after [0xA5#8] ≠ .hunting ∧ Receiver.after [0xA5#8, 0#8, 1#8, 1#8, 0#8] ≠ .hunting
      ∧ Receiver.after [0xA5#8, 0#8, 1#8, 1#8, 0#8, 2#8] = .hunting ∧ Receiver.after [] = .hunting
      ∧ Receiver.after [0xA5#8, 0xF1#8] = .hunting := by decide +kernel

/-- A port with so many notices queued, its transmitter at work on something. -/
def port (n : Nat) (k : Sending) : LinkPort :=
  { yard.link with queue := List.replicate n { notice := .yardStop, number := none }, sending := k }

theorem witness_NoticesQueueAndAreSentInOrder :
    (port 31 .notice).queue.length < 32 ∧ 32 ≤ (port 32 .notice).queue.length
    ∧ { port 32 .nothing with taking := true, dropped := 65534 }.dropped < 65535
    ∧ { port 32 .nothing with taking := true, dropped := 65535 }.taking = true
    ∧ (port 0 .nothing).sending = .nothing
    ∧ { port 0 .notice with reply := some ⟨0#8, 0#8, []⟩ }.reply ≠ none
    ∧ { port 0 .reply with busyReply := some ⟨0#8, 0#8, []⟩ }.busyReply ≠ none
    ∧ { port 1 .reply with lost := some ⟨2, 5#8⟩ }.lost = some ⟨2, 5#8⟩
    ∧ ((port 1 .reply).lost = none ∧ 0 < { port 1 .reply with dropped := 1 }.dropped)
    ∧ ((port 0 .reply).dropped = 0 ∧ (port 0 .reply).queue = [])
    ∧ (port 1 .reply).queue = { notice := .yardStop, number := none } :: []
    ∧ { port 1 .reply with queue := [{ notice := .yardStop, number := some 5#8 }] }.queue
        = { notice := .yardStop, number := some 5#8 } :: [] := by decide +kernel

theorem witness_LinkBreakDiscardsReplies :
    { port 1 .lost with lost := some ⟨2, 5#8⟩ }.lost = some ⟨2, 5#8⟩
    ∧ (port 1 .nothing).lost = none ∧ (port 1 .nothing).dropped = 0
    ∧ { port 1 .notice with queue := [{ notice := .yardStop, number := some 5#8 }] }.queue
        = { notice := .yardStop, number := some 5#8 } :: [] := by decide

/-- What a power-on finds: each bank's check and the two memories' checks as given. -/
def power (one two clock book : Bool) : PowerUp :=
  { strap1Made := true, strap2Made := false, strap3Made := false, bank1Holds := one, bank2Holds := two,
    clockHolds := clock, secondsOff := 60, bookHolds := book, stopAsserted := false, openMade := 1#20,
    closedMade := 2#20 }

/-- A part with an image of one generation in each bank. -/
def banked (one two : Nat) : State :=
  bench.putControl { bench.control with bank1 := some ⟨one, plant⟩, bank2 := some ⟨two, Settings.blank⟩ }

theorem witness_PowerOnResetLoadsAndResets :
    (dayLater 1 65535 = true ∧ dayLater 5 4 = true
      ∧ (banked 5 4).control.bank1 = some ⟨5, plant⟩ ∧ (banked 4 5).control.bank2 = some ⟨5, Settings.blank⟩)
    ∧ (if (power true false true true).bank1Holds then (banked 5 4).control.bank1 else none) = some ⟨5, plant⟩
    ∧ (if (power true false true true).bank2Holds then (banked 5 4).control.bank2 else none) = none
    ∧ (if (power false true true true).bank2Holds then (banked 5 4).control.bank2 else none)
        = some ⟨4, Settings.blank⟩
    ∧ (power false false false false).bank1Holds = false ∧ (power false false false false).clockHolds = false
    ∧ (power true true true true).bookHolds = true ∧ (power true true false false).bookHolds = false
    ∧ (power true true true true).clockHolds = true ∧ (power true true true true).strap1Made = true := by
  decide +kernel

theorem witness_StartEntersRun :
    yard.free ∧ bench.free ∧ yard.control.phase = .run ∧ bench.control.phase = .setup
    ∧ State.reset.clock.unset = true ∧ State.reset.free
    ∧ (¬∃ h : HolderId, State.reset.settings.holders[h].configured = true)
    ∧ (let s := bench.putSettings { plant with holders := plant.holders.set 0 ⟨true, 100, 101, 10, 5, 30⟩ }
       ¬∀ h : HolderId, s.settings.holders[h].configured = true → holderSettingsOk s.settings.holders[h] = true)
    ∧ (let s := bench.putSettings { plant with supply := plant.supply.set 0 ⟨3, 0, 0, .ordinary⟩ }
       ¬∀ e : EntryId, s.settings.supply[e].low ≤ s.settings.supply[e].high →
        s.settings.holders[s.settings.supply[e].holder].configured = true)
    ∧ (bench.clock.unset = false ∧ (∃ h : HolderId, bench.settings.holders[h].configured = true)
      ∧ (∀ h : HolderId, bench.settings.holders[h].configured = true →
          holderSettingsOk bench.settings.holders[h] = true)
      ∧ (∀ e : EntryId, bench.settings.supply[e].low ≤ bench.settings.supply[e].high →
          bench.settings.holders[bench.settings.supply[e].holder].configured = true)
      ∧ bench.clockBehind = false
      ∧ (bench.putAccounts { bench.accounts with lastPosted := some ⟨10, 0⟩ }).clockBehind = true
      ∧ (bench.putAccounts { bench.accounts with lastPosted := some ⟨9, 47⟩ }).clockBehind = false) := by
  decide +kernel

/-- SETUP, each valve with the switch made of the limit at which it stands: OPEN for those listed, CLOSED for the others. -/
def standing (opened : List ValveId) : State :=
  bench.putValves { bench.valves with table := Vector.ofFn fun v =>
    { bench.valve v with openMade := opened.contains v, closedMade := !opened.contains v } }

/-- A part in SETUP with half A FILLING since an interval, half B in a state. -/
def filledSince (last : Interval) (b : HalfState) : State :=
  ((standing []).putHalf .a { Half.empty with state := .filling, first := last, last := last, span := 1 }).putHalf .b
    { Half.empty with state := b, atClose := some ⟨0, true⟩ }

theorem witness_StartAdoptsThePlant :
    (∀ s ∈ [standing [], standing [outletValve 0, districtValve 0],
        withFault (districtValve 0) .stuck (standing [districtValve 0]), filledSince ⟨10, 0⟩ .empty,
        filledSince ⟨9, 47⟩ .empty, filledSince ⟨9, 47⟩ .ready],
      s.free ∧ startCheck s = .ok ∧ s.control.stopAsserted = false ∧ s.valves.protect = [] ∧ s.valves.queue = []
      ∧ s.valves.main = .idle ∧ s.channel .a = Channel.idle ∧ s.channel .b = Channel.idle
      ∧ (∀ d, (s.district d).state = .shut) ∧ s.outletOf 0 = some 0
      ∧ (if s.clock.day = s.accounts.takeDay then s.accounts.take else s.sumTake) < s.settings.cap)
    ∧ (let s := standing [outletValve 0, districtValve 0]
       s.settings.holders[(0 : HolderId)].configured = true ∧ (s.holder 0).state = .service
        ∧ (s.valve (outletValve 0)).shown = some .opened
        ∧ (∀ h : HolderId, h ≠ 0 → (s.valve (outletValve h)).shown = some .closed)
        ∧ (s.valve (districtValve 0)).shown = some .opened ∧ (s.valve (districtValve 0)).fault = .noFault)
    ∧ (∀ h : HolderId, ((standing []).valve (outletValve h)).shown = some .closed)
    ∧ ((standing []).valve (districtValve 0)).shown ≠ some .opened
    ∧ (let s := withFault (districtValve 0) .stuck (standing [districtValve 0])
       (s.valve (districtValve 0)).shown = some .opened ∧ (s.valve (districtValve 0)).fault ≠ .noFault)
    ∧ (standing []).halfIn .filling = none
    ∧ (let s := filledSince ⟨10, 0⟩ .empty
       s.halfIn .filling = some .a ∧ (s.half .a).last = s.clock.interval)
    ∧ (let s := filledSince ⟨9, 47⟩ .ready
       s.halfIn .filling = some .a ∧ (s.half .a).last ≠ s.clock.interval ∧ (s.half AB.a.other).state ≠ .empty)
    ∧ (let s := filledSince ⟨9, 47⟩ .empty
       s.halfIn .filling = some .a ∧ (s.half .a).last ≠ s.clock.interval ∧ (s.half AB.a.other).state = .empty
        ∧ s.accounts.book.length < 64) := by decide +kernel

theorem witness_StopIsRefusedWhileWorkGoesOn :
    yard.free ∧ ([0#8] : List Byte) ≠ [] ∧ bench.control.phase = .setup ∧ yard.control.phase = .run
    ∧ (withWork .running (slot (order .wait none none none (some .duration) 30 0) .flowing) yard |>.channel .a).state
        ≠ .idle
    ∧ ((withDistrict 0 (district .live) yard).district 0).state ≠ .shut
    ∧ (yard.putSelector { yard.selector with state := .changeover }).selector.state = .changeover
    ∧ (yard.putValves { yard.valves with protect := [⟨0, .guard, []⟩] }).valves.protect ≠ []
    ∧ (yard.putValves { yard.valves with queue := [⟨0, .opened, [.host]⟩] }).valves.queue ≠ []
    ∧ (withDrive 8 .opened 120 yard).valves.main ≠ .idle
    ∧ ((yard.putChannel .b { Channel.idle with state := .halted }).channel .b).state = .halted := by decide +kernel

theorem witness_StopReturnsToSetup :
    yard.free ∧ yard.control.phase = .run ∧ (∀ c, (yard.channel c).state = .idle)
    ∧ (∀ d, (yard.district d).state = .shut) ∧ yard.selector.state ≠ .changeover ∧ yard.valves.protect = []
    ∧ yard.valves.queue = [] ∧ yard.valves.main = .idle
    ∧ (∀ v, ∀ h, (yard.valve v).claim ≠ .isolation h)
    ∧ ((yard.putHolder 1 { holding 5 with state := .isolating }).holder 1).state = .isolating
    ∧ (let s := (withValve 1 .closed (.isolation 1) yard).putHolder 1 { holding 5 with state := .isolated }
       (s.valve (inletValve 1)).claim = .isolation 1 ∧ (s.holder 1).state = .isolated) :=
  ⟨by decide, by decide, fun c => by cases c <;> rfl, by decide +kernel, by decide, by decide, by decide, by decide,
    by decide +kernel, by decide +kernel, by decide +kernel⟩

theorem witness_FreezeLocksTheLimits :
    yard.free ∧ (frozen yard).control.frozen = true ∧ (∀ p, Instr.setLadder 1#8 [] ≠ .powerOnReset p)
    ∧ exec (.setLadder 1#8 []) (frozen yard) = .next (after (.setLadder 1#8 []) (frozen yard)) :=
  ⟨by decide, by decide, fun p h => (by cases h), rfl⟩

/-- A write in progress. -/
def writing (left : Nat) : State :=
  yard.putControl { yard.control with write := some ⟨⟨1, plant⟩, .one, left⟩ }

theorem witness_SaveSettingsWritesTheStore :
    yard.free ∧ (writing 2).control.write ≠ none ∧ yard.control.write = none ∧ yard.control.newest = none
    ∧ (yard.putControl { yard.control with newest := some (.one, 65535) }).control.newest = some (.one, 65535)
    ∧ (yard.putControl { yard.control with newest := some (.two, 1) }).control.newest = some (.two, 1)
    ∧ (writing 0).atRest ∧ (writing 0).control.write = some ⟨⟨1, plant⟩, .one, 0⟩ ∧ (writing 1).atRest
    ∧ yard.backlog = [] := by decide +kernel

theorem witness_YardStopIsHandedOn :
    bench.atRest ∧ bench.control.phase = .setup ∧ yard.atRest ∧ yard.control.phase = .run ∧ yard.valves.main = .idle
    ∧ yard.valves.protect = [] ∧ yard.valves.queue = [] ∧ (∀ c, (yard.channel c).state = .idle)
    ∧ (∀ v ∈ stopValves, (yard.valve v).position = .closed ∧ (yard.valve v).claim = .unclaimed) :=
  ⟨by decide, by decide, by decide, by decide, by decide, by decide, by decide, fun c => by cases c <;> rfl,
    by decide +kernel⟩

theorem witness_ClockTickCountsOneSecond :
    yard.atRest ∧ yard.clock.minuteOwed = false ∧ yard.clock.boundaryOwed = none ∧ 59 ≤ yard.clock.second
    ∧ (yard.putClock { yard.clock with second := 58 }).clock.second < 59
    ∧ (withDrive 8 .opened 1 yard).valves.main
        = .driving { valve := 8, target := .opened, requesters := [.host], protective := false } 1
    ∧ yard.valves.main = .idle := by decide +kernel

/-- A SET CLOCK body. -/
def clockBody (day minute second start : Nat) : List Byte := be2 day ++ be2 minute ++ [toByte second] ++ be2 start

theorem witness_SetClockReplacesTheTime :
    yard.free ∧ bench.free ∧ (clockBody 10 1439 59 1410).length = 7
    ∧ ¬(field (clockBody 10 1440 0 360) 2 2 ≤ 1439) ∧ ¬(field (clockBody 10 0 60 360) 4 1 ≤ 59)
    ∧ ¬(field (clockBody 10 0 0 361) 5 2 % 30 = 0) ∧ ¬(field (clockBody 10 0 0 1440) 5 2 ≤ 1410)
    ∧ (field (clockBody 10 1439 59 1410) 2 2 ≤ 1439 ∧ field (clockBody 10 1439 59 1410) 4 1 ≤ 59
      ∧ field (clockBody 10 1439 59 1410) 5 2 % 30 = 0 ∧ field (clockBody 10 1439 59 1410) 5 2 ≤ 1410)
    ∧ bench.control.phase = .setup ∧ bench.unreported .a = none ∧ bench.unreported .b = none
    ∧ yard.control.phase = .run ∧ field (clockBody 10 390 0 390) 5 2 ≠ yard.clock.dayStartMinute
    ∧ field (clockBody 10 390 0 360) 5 2 = yard.clock.dayStartMinute
    ∧ ({ yard.clock with day := 9 } : ClockUnit).interval.earlier yard.clock.interval = true
    ∧ ({ yard.clock with minute := 390 } : ClockUnit).interval.earlier yard.clock.interval = false
    ∧ yard.clock.minuteOwed = false ∧ yard.clock.boundaryOwed = none
    ∧ (yard.halfIn .filling = some .a ∧ ({ yard.clock with minute := 390 } : ClockUnit).interval ≠ yard.clock.interval
      ∧ (yard.half AB.a.other).state = .empty ∧ yard.accounts.book.length < 64)
    ∧ (yard.putHalf .b { Half.empty with state := .ready }).halfIn .filling = some .a
    ∧ (yard.channel .a).current = none ∧ (yard.channel .b).current = none ∧ 0 < yard.settings.cap := by decide +kernel

/-- The boundary at 06:30. -/
def half7 : Boundary := ⟨⟨10, 0⟩, ⟨10, 1⟩, false⟩

/-- 06:30:00 with the boundary and the minute owed, half B READY. -/
def owing : State :=
  (yard.putClock { yard.clock with minute := 390, second := 0, minuteOwed := true, boundaryOwed := some half7 }).putHalf .b
    { Half.empty with state := .ready, atClose := some ⟨0, true⟩ }

theorem witness_SetClockWhileABoundaryIsOwed :
    owing.free ∧ owing.control.phase = .run ∧ owing.clock.boundaryOwed = some half7 ∧ owing.halfIn .filling = some .a
    ∧ (owing.half AB.a.other).state ≠ .empty ∧ (owing.channel .a).current = none ∧ (owing.channel .b).current = none
    ∧ 0 < owing.settings.cap
    ∧ ({ owing.clock with minute := 391 } : ClockUnit).interval.earlier owing.clock.interval = false
    ∧ ({ owing.clock with minute := 391 } : ClockUnit).interval = owing.clock.interval
    ∧ ({ owing.clock with minute := 420 } : ClockUnit).interval.earlier owing.clock.interval = false
    ∧ ({ owing.clock with minute := 420 } : ClockUnit).interval ≠ owing.clock.interval := by decide +kernel

theorem witness_ChangeOfMinuteFindsSetpoints :
    yard.atRest ∧ bench.control.phase = .setup ∧ yard.clock.minuteOwed = false
    ∧ (let s := yard.putClock { yard.clock with minuteOwed := true }
       s.atRest ∧ s.control.phase = .run ∧ s.clock.minuteOwed = true ∧ ∀ c, (s.channel c).current = none) :=
  ⟨by decide, by decide, by decide, by decide, by decide, by decide, fun c => by cases c <;> rfl⟩

/-- Channel A waits for 06:29, which is here. -/
def dueMinute : State :=
  withWork .running (slot (order .wait none none none (some .minute) 389 0) .flowing)
    (yard.putClock { yard.clock with minuteOwed := true })

theorem witness_WaitByMinuteEnds :
    dueMinute.atRest ∧ dueMinute.control.phase = .run ∧ dueMinute.clock.minuteOwed = true
    ∧ (dueMinute.channel .a).current = some 5 ∧ (dueMinute.channel AB.a.other).current = none
    ∧ (dueMinute.channel .a).state = .running ∧ (dueMinute.channel .a).reported = none ∧ dueMinute.holdsPin .a = false
    ∧ dueMinute.selector.change = none ∧ dueMinute.claimed (.channel .a) = [] ∧ (dueMinute.order 5).status = .flowing
    ∧ (dueMinute.order 5).order.kind = some .wait ∧ (dueMinute.order 5).order.form = some .minute
    ∧ (dueMinute.order 5).order.target = dueMinute.clock.minute ∧ (dueMinute.order 5).order.notify = false
    ∧ (dueMinute.order 5).order.next = none ∧ (dueMinute.channel .a).stopAfter = false := by decide +kernel

theorem witness_IntervalBoundaryTurnsOrStretches :
    (let s := yard.putClock { yard.clock with boundaryOwed := some half7 }
     s.backlog = [] ∧ s.control.phase = .run ∧ s.clock.boundaryOwed = some half7 ∧ s.halfIn .filling = some .a
      ∧ (s.half AB.a.other).state = .empty
      ∧ (withBook (List.replicate 63 (bookSlot 9 0)) s).accounts.book.length < 64
      ∧ 64 ≤ (withBook (List.replicate 64 (bookSlot 9 0)) s).accounts.book.length
      ∧ s.unreported .a = none ∧ s.unreported .b = none ∧ s.link.queue.length < 32 ∧ half7.dayStart = false
      ∧ { half7 with dayStart := true }.dayStart = true ∧ 0 < s.settings.cap)
    ∧ bench.control.phase = .setup ∧ yard.clock.boundaryOwed = none
    ∧ (let s := (yard.putClock { yard.clock with boundaryOwed := some half7 }).putHalf .b
        { Half.empty with state := .ready, atClose := some ⟨0, true⟩ }
       s.backlog = [] ∧ s.control.phase = .run ∧ s.halfIn .filling = some .a ∧ (s.half AB.a.other).state ≠ .empty) := by
  decide +kernel

theorem witness_SettingsAreStored :
    yard.free ∧ bench.free ∧ bench.control.phase = .setup ∧ yard.control.phase = .run
    ∧ ([8#8, 1#8, 0#8, 0#8, 0xFF#8, 0xFF#8, 2#8] : List Byte).length = 7
    ∧ numberOf 8 9 = none ∧ numberOf 8 0 = none ∧ numberOf 4 5 = none ∧ classOf 0 = none ∧ classOf 3 = none
    ∧ numberOf 8 8 = some 7 ∧ numberOf 4 1 = some 0 ∧ classOf 2 = some .reserve := by decide +kernel

/-- A SET HOLDER body. -/
def holderBody (h flag capacity crown low margin silence : Nat) : List Byte :=
  [toByte h, toByte flag] ++ be4 capacity ++ be4 crown ++ be4 low ++ be4 margin ++ be2 silence

theorem witness_SetHolderStoresOrRefuses :
    yard.free ∧ bench.free ∧ (holderBody 1 1 100 90 10 5 30).length = 20
    ∧ numberOf 4 (field (holderBody 5 1 100 90 10 5 30) 0 1) = none
    ∧ flagOf (field (holderBody 1 2 100 90 10 5 30) 1 1) = none
    ∧ numberOf 4 (field (holderBody 1 1 100 90 10 5 30) 0 1) = some 0
    ∧ holderSettingsOf (holderBody 1 1 2000000 1950000 100000 10000 30)
        = some ⟨true, 2000000, 1950000, 100000, 10000, 30⟩
    ∧ holderSettingsOk ⟨true, 2000000, 1950000, 100000, 10000, 30⟩ = true
    ∧ holderSettingsOk ⟨true, 2000000, 2000001, 100000, 10000, 30⟩ = false
    ∧ holderSettingsOf (holderBody 1 0 0 0 0 10000 30) = some ⟨false, 0, 0, 0, 10000, 30⟩
    ∧ marginOk ⟨false, 0, 0, 0, 10000, 30⟩ = true
    ∧ yard.settings.holders[(0 : HolderId)].configured = true ∧ bench.settings.holders[(3 : HolderId)].configured = false
    ∧ (frozen yard).control.frozen = true ∧ (yard.holder 0).content = some 1500000 ∧ (1499999 : Nat) < 1500000
    ∧ ((yard.putHolder 0 { holding 0 with content := none }).holder 0).content = none
    ∧ ((withValve 3 .closed (.isolation 3) bench).valve (inletValve 3)).claim = .isolation 3
    ∧ (bench.valve (inletValve 3)).claim ≠ .isolation 3 := by decide +kernel

theorem witness_LiftReadingsAreJudged :
    (let x : HolderSettings := ⟨true, 2000000, 1950000, 100000, 10000, 600⟩
     x.crownStop ≤ 1950000 ∧ 1939999 + x.margin < x.crownStop ∧ (1940000 < x.crownStop ∧ x.crownStop ≤ 1940000 + x.margin)
      ∧ 100000 ≤ x.lowStop ∧ x.lowStop + x.margin < 110001 ∧ (x.lowStop < 110000 ∧ 110000 ≤ x.lowStop + x.margin))
    ∧ bench.backlog = [] ∧ bench.control.phase = .setup ∧ yard.settings.holders[(3 : HolderId)].configured = false
    ∧ ((yard.putHolder 0 { holding 0 with state := .fault }).holder 0).state = .fault
    ∧ yard.control.phase = .run ∧ yard.settings.holders[(0 : HolderId)].configured = true
    ∧ (yard.holder 0).state ≠ .fault ∧ (2000000#32).toNat ≤ yard.settings.holders[(0 : HolderId)].capacity
    ∧ (∀ k, (yard.holder k).state ≠ .isolating) := by decide +kernel

/-- RUN with the condition UNKNOWN, for want of H2's content, and the selector in NONE. -/
def dark : State :=
  ((yard.putHolder 1 { holding 0 with content := none }).putStock
    { (yard.putHolder 1 { holding 0 with content := none }).stock with condition := .unknown }).putSelector Selector.atReset

/-- A RECEIVE into H1 with CLOSE, at a status. -/
def closingReceive (k : OrderStatus) : OrderSlot :=
  slot { order .receive (some 0) none none none 1960000 0 with disposition := some .close } k

theorem witness_RaisedGuardsHandOn :
    (∀ s ∈ [withValve (inletValve 0) .opened .unclaimed dark,
        withValve (inletValve 0) .opened (.channel .a) (withWork .running (closingReceive .flowing) dark),
        withValve (outletValve 0) .opened .selector dark],
      s.atRest ∧ s.control.phase = .run ∧ s.settings.holders[(0 : HolderId)].configured = true
      ∧ (s.holder 0).state = .service ∧ s.settings.holders[(0 : HolderId)].capacity = 2000000
      ∧ s.selector.state = .noHolder ∧ s.selector.change = none ∧ s.stock.condition = .unknown ∧ s.valves.main = .idle
      ∧ s.valves.protect = [] ∧ s.valves.queue = [] ∧ s.link.queue.length < 32
      ∧ (s.holder 0).atCrown = false ∧ (s.holder 0).atLow = false
      ∧ (s.putHolder 0 { s.holder 0 with content := some 1950000, atCrown := true }).conditionNow = .unknown
      ∧ (s.putHolder 0 { s.holder 0 with content := some 100000, atLow := true }).conditionNow = .unknown
      ∧ s.settings.holders[(0 : HolderId)].crownStop ≤ (1950000#32).toNat
      ∧ lowAfter s.settings.holders[(0 : HolderId)] false (1950000#32).toNat = false
      ∧ (100000#32).toNat ≤ s.settings.holders[(0 : HolderId)].lowStop
      ∧ crownAfter s.settings.holders[(0 : HolderId)] false (100000#32).toNat = false)
    ∧ (let s := withValve (inletValve 0) .opened .unclaimed dark
       (s.valve (inletValve 0)).position = .opened ∧ (s.valve (inletValve 0)).shown ≠ some .closed
        ∧ (s.valve (inletValve 0)).claim = .unclaimed ∧ (s.channel .a).current = none ∧ (s.channel .b).current = none)
    ∧ (let s := withValve (inletValve 0) .opened (.channel .a) (withWork .running (closingReceive .flowing) dark)
       (s.valve (inletValve 0)).position = .opened ∧ (s.valve (inletValve 0)).shown ≠ some .closed
        ∧ (s.valve (inletValve 0)).claim = .channel .a ∧ (s.valve (inletValve 0)).fault = .noFault
        ∧ (s.channel .a).current = some 5 ∧ (s.channel AB.a.other).current = none ∧ (s.channel .a).state = .running
        ∧ s.holdsPin .a = false ∧ (s.order 5).status = .flowing ∧ (s.order 5).order.kind = some .receive
        ∧ (s.order 5).order.dest = some 0 ∧ (s.order 5).order.disposition = some .close)
    ∧ (let s := withValve (outletValve 0) .opened .selector dark
       (s.valve (outletValve 0)).position = .opened ∧ (s.valve (outletValve 0)).shown ≠ some .closed
        ∧ (s.valve (outletValve 0)).claim = .selector) := by decide +kernel

theorem witness_HolderFaultsAreEntered :
    yard.backlog = [] ∧ yard.control.phase = .run ∧ yard.settings.holders[(0 : HolderId)].configured = true
    ∧ (yard.holder 0).state ≠ .fault ∧ yard.settings.holders[(0 : HolderId)].capacity < (2000001#32).toNat
    ∧ ((yard.putHolder 0 { holding 0 with silence := some 0 }).holder 0).silence = some 0
    ∧ ((yard.putHolder 0 { holding 0 with silence := some 0 }).holder 0).state = .service
    ∧ ((yard.putHolder 0 { holding 0 with silence := some 0, state := .isolating }).holder 0).state = .isolating
    ∧ (yard.holder 0).silence ≠ some 0 ∧ bench.control.phase = .setup := by decide +kernel

theorem witness_IsolateHolderRefusesOrIsTaken :
    yard.free ∧ numberOf 4 0 = none ∧ numberOf 4 (4#8).toNat = some 3
    ∧ yard.settings.holders[(3 : HolderId)].configured = false
    ∧ (bench.settings.holders[(0 : HolderId)].configured = true ∧ bench.control.phase = .setup)
    ∧ ((yard.putHolder 0 { holding 0 with state := .fault }).holder 0).state = .fault
    ∧ ((yard.putHolder 0 { holding 0 with state := .isolated }).holder 0).state = .isolated
    ∧ (yard.holder 1).state = .service
    ∧ (withWork .running (slot (order .receive (some 1) none none none 900000 0) .flowing) yard).namedBy .a 1 = true
    ∧ ((withFault 1 .stuck yard).valve (inletValve 1)).fault ≠ .noFault
    ∧ ((withValve 1 .closed (.channel .b) yard).valve (inletValve 1)).claim = .channel .b
    ∧ (yard.selector.current = some 0 ∧ yard.decode (some 0) = none)
    ∧ isolateCheck 1 yard = .ok ∧ yard.bothClosed 1 = true ∧ yard.valves.queue = []
    ∧ isolateCheck 1 (withValve 1 .opened .unclaimed yard) = .ok
    ∧ (withValve 1 .opened .unclaimed yard).bothClosed 1 = false
    ∧ (let s := withValve (inletValve 1) .opened .unclaimed dark
       s.free ∧ isolateCheck 1 s = .ok ∧ s.settings.holders[(1 : HolderId)].configured = true ∧ s.control.phase = .run
        ∧ (s.holder 1).state = .service ∧ s.atRest ∧ s.selector.state = .noHolder ∧ s.stock.condition = .unknown
        ∧ s.valves.main = .idle ∧ s.valves.protect = [] ∧ s.valves.queue = [] ∧ s.valves.refused = []
        ∧ (s.valve (outletValve 1)).position = .closed ∧ (s.valve (inletValve 1)).position = .opened
        ∧ (s.valve (inletValve 1)).shown ≠ some .closed ∧ (s.valve (inletValve 1)).claim = .unclaimed) := by
  decide +kernel

theorem witness_IsolateHolderOfAChangeover :
    let s := yard.putSelector { yard.selector with
      state := .changeover
      change := some ⟨.decoded, some 0, some 1, [], .openingNew, none, .answer⟩ }
    s.free ∧ (s.holder 1).state = .service ∧ ∃ ch, s.selector.change = some ch ∧ (ch.old = some 1 ∨ ch.new = some 1) :=
  ⟨by decide, by decide, ⟨_, rfl, Or.inr rfl⟩⟩

theorem witness_HoldersReturnToService :
    yard.free ∧ numberOf 4 5 = none ∧ numberOf 4 1 = some 0 ∧ yard.settings.holders[(3 : HolderId)].configured = false
    ∧ (bench.settings.holders[(0 : HolderId)].configured = true ∧ bench.control.phase = .setup)
    ∧ (yard.settings.holders[(0 : HolderId)].configured = true ∧ yard.control.phase = .run)
    ∧ (yard.holder 0).state = .service
    ∧ ((yard.putHolder 0 { holding 0 with state := .fault }).holder 0).state = .fault
    ∧ ((yard.putHolder 0 { holding 0 with state := .isolating }).holder 0).state = .isolating
    ∧ ((yard.putHolder 0 { holding 0 with state := .isolated }).holder 0).state = .isolated := by decide +kernel

theorem witness_LadderAndRelease :
    yard.free ∧ bench.free ∧ (be2 600 ++ be2 600 ++ be2 600).length = 6
    ∧ ¬(field (be2 601 ++ be2 600 ++ be2 600) 0 2 ≤ field (be2 601 ++ be2 600 ++ be2 600) 2 2)
    ∧ field (be2 600 ++ be2 600 ++ be2 600) 0 2 ≤ field (be2 600 ++ be2 600 ++ be2 600) 2 2
    ∧ (frozen yard).control.frozen = true ∧ (⟨600, 600, 600⟩ : Ladder) ≠ yard.settings.ladder
    ∧ yard.conditionNow = yard.stock.condition
    ∧ ¬(15 ≤ field (be2 14) 0 2) ∧ ¬(field (be2 241) 0 2 ≤ 240) ∧ 15 ≤ field (be2 15) 0 2 ∧ field (be2 240) 0 2 ≤ 240
    ∧ bench.control.phase = .setup ∧ yard.control.phase = .run ∧ yard.stock.release = none
    ∧ (yard.putStock { yard.stock with release := some 0 }).stock.release = some 0
    ∧ (yard.putStock { yard.stock with release := some 1 }).stock.release ≠ none := by decide +kernel

theorem witness_DwellExpiryDecodes :
    (let s := yard.putSelector { yard.selector with dwell := some 0 }
     s.atRest ∧ s.control.phase = .run ∧ s.selector.dwell = some 0 ∧ s.selector.state = .steady
      ∧ s.selector.current = some 0 ∧ s.stock.condition ≠ .unknown ∧ s.decode none = some 0)
    ∧ (let s := yard.putSelector { yard.selector with dwell := some 0, current := some 1 }
       s.atRest ∧ s.selector.state = .steady ∧ s.decode none = some 0 ∧ (0 : HolderId) ≠ 1 ∧ s.selector.pin = none)
    ∧ (yard.putSelector { yard.selector with dwell := some 1 }).selector.dwell ≠ some 0 := by decide +kernel

/-- A TRANSFER from H2 into H1 that wants 101 cu ft more, closing behind it, at a status. -/
def transfer (k : OrderStatus) : OrderSlot :=
  slot { order .transfer (some 0) (some 1) none none 101 0 with disposition := some .close } k

/-- The selector STEADY on H2, the condition UNKNOWN, channel A with the TRANSFER as one of its own. -/
def transferRun (st : ChannelState) (k : OrderStatus) : State :=
  (withWork st (transfer k) (dark.putSelector { Selector.atReset with state := .steady, current := some 1 })).putChannel .a
    { Channel.idle with state := st, current := some 5, reported := some 0 }

/-- The three path valves of the TRANSFER claimed for channel A, at the positions given. -/
def withPath (inlet delivery suction : Position) (s : State) : State :=
  withValve suctionValve suction (.channel .a)
    (withValve deliveryValve delivery (.channel .a) (withValve (inletValve 0) inlet (.channel .a) s))

/-- The pin of channel A on H2. -/
def pinned (s : State) : State := s.putSelector { s.selector with pin := some { channel := .a, holder := 1 } }

/-- The TRANSFER in WAIT-PATH, its path timeout at 5 s: TDEL's open waits for a place, eight MANUAL entries (on P2 and the
valves 2 to 4 and 9 to 12) holding all that there are, behind the entries given; the main closes P6 for the office. -/
def waitingForPlace (ahead : List QueueEntry) : State :=
  let s := withDrive 17 .closed 9 (withPath .opened .closed .closed (pinned (transferRun .running .waitPath)))
  let manual : List ValveId := [1, 2, 3, 8, 9, 10, 11, 13]
  (s.putChannel .a { s.channel .a with
    pathTimer := some 5, work := [{ valve := deliveryValve, kind := .move, wait := .place }] }).putValves
      { s.valves with
        queue := ahead ++ manual.map fun v => { valve := v, target := .opened, requesters := [.host] }
        refused := [.channel] }

/-- A place frees and TDEL's open is taken, so that OPENING is taken up again; TSUC's then finds the queue full, the order
returns to WAIT-PATH, and its path timeout starts afresh with the stored 300 s (R83, R86). -/
theorem test_path_timeout_starts_afresh :
    let t := after (.limitSwitch 17 .closed) (waitingForPlace [])
    (t.order 5).status = .waitPath ∧ (t.channel .a).pathTimer = some 300 ∧ (t.queueEntry deliveryValve).isSome = true
      ∧ t.placeWaits .a = [suctionValve] := by decide +kernel

/-- The place of D1's entry on P1 frees, which serves no CHANNEL class open: TDEL's is refused again, the order goes on
waiting, and its path timeout runs on (R63, R83). -/
theorem test_path_timeout_runs_on :
    let ahead : List QueueEntry := [{ valve := 12, target := .closed, requesters := [.district 0] }]
    let t := after (.limitSwitch 17 .closed) (withValve 12 .opened (.district 0) (waitingForPlace ahead))
    (t.order 5).status = .waitPath ∧ (t.channel .a).pathTimer = some 5 ∧ t.placeWaits .a = [deliveryValve] := by
  decide +kernel

/-- The outlets of H1 and H2 claimed by the selector, at the positions given. -/
def withOutlets (old new : Position) (s : State) : State :=
  withValve (outletValve 1) new .selector (withValve (outletValve 0) old .selector s)

/-- The main driving a valve for somebody. -/
def withDriveFor (v : ValveId) (t : Limit) (r : Requester) (s : State) : State :=
  s.putValves { s.valves with main := .driving { valve := v, target := t, requesters := [r], protective := false } 9 }

/-- In CHANGEOVER from H1 to H2, at a step. -/
def changing (kind : ChangeKind) (step : ChangeStep) (serves : Option ChannelId) (closing : List ClosingValve) (s : State) :
    State :=
  s.putSelector { Selector.atReset with
    state := .changeover, current := some 0
    change := some { kind := kind, old := some 0, new := some 1, closing := closing, step := step, serves := serves,
                     openWait := if step = .openingNew then .answer else .unasked } }

/-- A due dwell at which the decode gives H2, H1 being current. -/
def dwellOver : State :=
  withOutlets .opened .closed ((yard.putSettings { plant with
    supply := plant.supply.set 0 ⟨1, 1000, 65535, .ordinary⟩ }).putSelector
      { Selector.atReset with state := .steady, current := some 0, dwell := some 0 })

/-- The changeover that follows it, its new outlet being driven open. -/
def openingNew : State :=
  withDriveFor (outletValve 1) .opened .selector (withOutlets .opened .movingOpen
    (changing .decoded .openingNew none [toClose 0] yard))

/-- The last step of a changeover, the old outlet being driven closed. -/
def closingOld (kind : ChangeKind) (serves : Option ChannelId) (s : State) : State :=
  withDriveFor (outletValve 0) .closed .selector (withOutlets .movingClosed .opened
    (changing kind .closingOld serves [{ holder := 0, st := .waiting .answer }] s))

/-- Channel A waits in WAIT-PATH for the pin that the changeover serves. -/
def waitingForPin : State :=
  let s := withPath .closed .closed .closed (transferRun .running .waitPath)
  s.putChannel .a { s.channel .a with pathWait := .pin, pathTimer := some 60 }

theorem witness_ChangeoversBegin :
    (∀ s ∈ [dwellOver, openingNew, closingOld .decoded none dark, closingOld .directed (some .a) waitingForPin],
      s.atRest ∧ s.control.phase = .run ∧ s.selector.current = some 0 ∧ s.valves.protect = [] ∧ s.valves.queue = []
      ∧ s.valves.refused = [] ∧ s.link.queue.length < 32 ∧ s.usable 1 = true
      ∧ (s.valve (outletValve 0)).claim = .selector ∧ (s.valve (outletValve 0)).fault = .noFault
      ∧ (s.valve (outletValve 1)).claim = .selector ∧ (s.valve (outletValve 1)).fault = .noFault)
    ∧ (let s := dwellOver
       s.selector.state = .steady ∧ s.selector.pin = none ∧ s.selector.dwell = some 0 ∧ s.stock.condition ≠ .unknown
        ∧ s.decode none = some 1 ∧ (s.valve (outletValve 1)).position = .closed
        ∧ (s.valve (outletValve 1)).shown ≠ some .opened ∧ s.valves.main = .idle)
    ∧ (let s := openingNew
       (s.selector.change.map fun ch => (ch.new, ch.step, ch.closing)) = some (some 1, .openingNew, [toClose 0])
        ∧ (s.valve (outletValve 0)).position = .opened ∧ (s.valve (outletValve 0)).shown ≠ some .closed
        ∧ s.valves.main = .driving { valve := outletValve 1, target := .opened, requesters := [.selector],
                                     protective := false } 9) := by
  decide +kernel

theorem witness_ChangeoversEnd :
    (∀ s ∈ [closingOld .decoded none dark, closingOld .directed (some .a) waitingForPin],
      (s.selector.change.map fun ch => (ch.old, ch.new, ch.step)) = some (some 0, some 1, .closingOld)
      ∧ (s.selector.change.map fun ch => ch.closing) = some [{ holder := 0, st := .waiting .answer }]
      ∧ s.stock.condition = .unknown ∧ (s.holder 0).state ≠ .isolating
      ∧ s.valves.main = .driving { valve := outletValve 0, target := .closed, requesters := [.selector],
                                   protective := false } 9)
    ∧ (let s := closingOld .decoded none dark
       (s.selector.change.map fun ch => ch.kind) = some .decoded ∧ s.pathWaits .pin .a = false
        ∧ s.pathWaits .pin .b = false)
    ∧ (let s := closingOld .directed (some .a) waitingForPin
       (s.selector.change.map fun ch => (ch.kind, ch.serves)) = some (.directed, some .a) ∧ s.pathWaits .pin .a = true
        ∧ s.pathWaits .pin AB.a.other = false ∧ (s.channel .a).current = some 5 ∧ (s.channel .a).work = []
        ∧ (s.order 5).order.kind = some .transfer ∧ (s.order 5).order.dest = some 0
        ∧ (s.valve (inletValve 0)).claim = .channel .a ∧ (s.valve (inletValve 0)).fault = .noFault
        ∧ (s.valve (inletValve 0)).position = .closed ∧ (s.valve (inletValve 0)).shown ≠ some .opened) := by
  decide +kernel

theorem witness_MoveValveIsAnswered :
    yard.free ∧ numberOf 20 21 = none ∧ limitOf 3 = none ∧ numberOf 20 20 = some 19 ∧ limitOf 1 = some .opened
    ∧ limitOf 2 = some .closed ∧ bench.control.phase = .setup ∧ (stopped yard).control.stopAsserted = true
    ∧ ((withValve 8 .closed (.channel .a) yard).valve 8).claim ≠ .unclaimed
    ∧ ((yard.putAccounts { yard.accounts with cut := true }).accounts.cut = true ∧ yard.settings.source = some 2
      ∧ sourceValve 2 = 10)
    ∧ ((withFault 8 .stuck yard).valve 8).fault ≠ .noFault
    ∧ (yard.putValves { yard.valves with protect := [⟨8, .yardStop, []⟩] }).shielded 8 = true
    ∧ (yard.shielded 8 = false ∧ yard.driven 8 = false ∧ yard.queueEntry 8 = none
      ∧ (yard.valve 8).position = limitPosition .closed)
    ∧ (yard.atRest ∧ yard.control.phase = .run ∧ yard.control.stopAsserted = false ∧ yard.accounts.cut = false
      ∧ (yard.valve 8).claim = .unclaimed ∧ (yard.valve 8).fault = .noFault ∧ yard.valves.protect = []
      ∧ (yard.valve 8).position ≠ limitPosition .opened)
    ∧ ((withDrive 9 .opened 5 yard).valves.main
        = .driving { valve := 9, target := .opened, requesters := [.host], protective := false } 5
      ∧ (9 : ValveId) ≠ 8 ∧ (withDrive 9 .opened 5 yard).queueEntry 8 = none
      ∧ placesFull (withDrive 9 .opened 5 yard).valves.queue .manual = false)
    ∧ (yard.valves.main = .idle ∧ yard.valves.queue = [] ∧ yard.valves.refused = []
      ∧ (yard.valve 8).shown ≠ some .opened) := by decide +kernel

theorem witness_SwitchesAndFaultsAreRecorded :
    yard.free ∧ numberOf 20 0 = none ∧ numberOf 20 9 = some 8 ∧ (yard.valve 8).fault = .noFault
    ∧ ((withFault 8 .stuck bench).valve 8).fault ≠ .noFault ∧ bench.control.phase = .setup
    ∧ ((withFault 8 .stuck yard).valve 8).fault ≠ .noFault ∧ yard.control.phase = .run ∧ yard.backlog = []
    ∧ (withDrive 8 .opened 5 yard).valves.main
        = .driving { valve := 8, target := .opened, requesters := [.host], protective := false } 5
    ∧ Limit.opened ≠ .closed ∧ yard.driven 8 = false ∧ ((withValve 8 .unknown .unclaimed yard).valve 8).position = .unknown
    ∧ (yard.valve 8).position = limitPosition .closed
    ∧ ((yard.valve 8).position ≠ .unknown ∧ (yard.valve 8).position ≠ limitPosition .opened) := by decide +kernel

theorem witness_DrivesEnd :
    let d : Drive := { valve := 8, target := .opened, requesters := [.host], protective := false }
    let s := withDrive 8 .opened 0 (withValve 8 .movingOpen .unclaimed yard)
    s.atRest ∧ s.control.phase = .run ∧ s.valves.main = .driving d 0 ∧ d.requesters = [.host]
    ∧ (s.valve d.valve).claim = .unclaimed ∧ 8 ≤ d.valve.val ∧ s.valves.protect = [] ∧ s.valves.queue = []
    ∧ (withDrive 8 .opened 1 yard).valves.main = .driving d 1 ∧ yard.backlog = [] ∧ yard.valves.main = .idle := by
  decide +kernel

/-- A TRANSFER in OPENING whose last path valve, TDEL, is being driven open. -/
def lastPathValve : State :=
  let s := withDriveFor deliveryValve .opened (.channel .a)
    (withPath .opened .movingOpen .opened (pinned (transferRun .running .opening)))
  s.putChannel .a { s.channel .a with work := [{ valve := deliveryValve, kind := .move, wait := .answer }] }

theorem witness_DriveEndSetsATransferFlowing :
    let s := lastPathValve
    s.atRest ∧ s.control.phase = .run ∧ (s.channel .a).current = some 5 ∧ (s.order 5).status = .opening
    ∧ (s.order 5).order.kind = some .transfer ∧ (s.order 5).order.dest = some 0 ∧ s.holdsPin .a = true
    ∧ (s.channel .a).work = [{ valve := deliveryValve, kind := .move, wait := .answer }]
    ∧ (∀ v ∈ [inletValve 0, deliveryValve, suctionValve],
      (s.valve v).claim = .channel .a ∧ (s.valve v).fault = .noFault)
    ∧ (s.valve (inletValve 0)).position = .opened ∧ (s.valve suctionValve).position = .opened
    ∧ s.valves.main = .driving { valve := deliveryValve, target := .opened, requesters := [.channel .a],
                                 protective := false } 9
    ∧ s.valves.protect = [] ∧ s.valves.queue = [] := by decide +kernel

/-- A LOAD ORDER body into slot 5. -/
def orderBody (kind dest src source form target limit disposition flags next : Nat) : List Byte :=
  [5#8, toByte kind, toByte dest, toByte src, toByte source, toByte form] ++ be4 target ++ be2 limit
    ++ [toByte disposition, toByte flags, toByte next]

theorem witness_LoadOrderStores :
    yard.free ∧ (orderBody 1 1 0 0 0 1950000 60 2 0 255).length = 15
    ∧ slotOf (field (orderBody 1 1 0 0 0 1950000 60 2 0 255) 0 1) = some 5 ∧ yard.isCurrent 5 = false
    ∧ (withWork .running (slot Order.absent .flowing) yard).isCurrent 5 = true
    ∧ nextOf (field (orderBody 1 1 0 0 0 1950000 60 2 0 255) 14 1) = some none ∧ nextOf 31 = some (some 31)
    ∧ (numberOf 4 (field (orderBody 1 1 0 0 0 1950000 60 2 0 255) 2 1) = some 0
      ∧ yard.settings.holders[(0 : HolderId)].configured = true
      ∧ dispositionOf (field (orderBody 1 1 0 0 0 1950000 60 2 0 255) 12 1) = some .close
      ∧ bitOf (field (orderBody 1 1 0 0 0 1950000 60 2 0 255) 13 1) 0 = false
      ∧ field (orderBody 1 1 0 0 0 1950000 60 2 0 255) 6 4 ≤ yard.settings.holders[(0 : HolderId)].crownStop)
    ∧ (numberOf 4 (field (orderBody 2 1 2 0 0 1 0 1 1 0) 3 1) = some 1 ∧ (0 : HolderId) ≠ 1
      ∧ yard.settings.holders[(1 : HolderId)].configured = true ∧ field (orderBody 2 1 2 0 0 1 0 1 1 0) 6 4 ≠ 0)
    ∧ (field (orderBody 3 0 0 4 0 0 0 0 0 255) 1 1 = 3 ∧ numberOf 4 (field (orderBody 3 0 0 4 0 0 0 0 0 255) 4 1) = some 3)
    ∧ field (orderBody 4 0 0 1 0 0 0 0 0 255) 1 1 = 4
    ∧ (field (orderBody 5 0 0 0 1 1439 0 0 0 255) 5 1 = 1 ∧ field (orderBody 5 0 0 0 1 1439 0 0 0 255) 6 4 ≤ 1439)
    ∧ (field (orderBody 5 0 0 0 2 65535 0 0 0 255) 5 1 = 2 ∧ 1 ≤ field (orderBody 5 0 0 0 2 65535 0 0 0 255) 6 4
      ∧ field (orderBody 5 0 0 0 2 65535 0 0 0 255) 6 4 ≤ 65535) := by decide +kernel

theorem witness_LoadOrderRefuses :
    slotOf 32 = none ∧ nextOf 32 = none ∧ nextOf 254 = none ∧ numberOf 4 5 = none ∧ yard.isCurrent 5 = false
    ∧ field (orderBody 0 0 0 0 0 0 0 0 0 255) 1 1 = 0 ∧ 5 < field (orderBody 6 0 0 0 0 0 0 0 0 255) 1 1
    ∧ bitOf (field (orderBody 1 1 0 0 0 1 0 2 1 255) 13 1) 0 = true
    ∧ (numberOf 4 (field (orderBody 1 4 0 0 0 1 0 2 0 255) 2 1) = some 3
      ∧ yard.settings.holders[(3 : HolderId)].configured = false)
    ∧ field (orderBody 2 1 1 0 0 1 0 2 0 255) 2 1 = field (orderBody 2 1 1 0 0 1 0 2 0 255) 3 1
    ∧ yard.settings.holders[(0 : HolderId)].crownStop < field (orderBody 1 1 0 0 0 1950001 0 2 0 255) 6 4
    ∧ field (orderBody 2 1 2 0 0 0 0 2 0 255) 6 4 = 0 ∧ numberOf 4 (field (orderBody 3 0 0 0 0 0 0 0 0 255) 4 1) = none
    ∧ 1439 < field (orderBody 5 0 0 0 1 1440 0 0 0 255) 6 4 ∧ field (orderBody 5 0 0 0 2 0 0 0 0 255) 6 4 = 0 := by
  decide +kernel

theorem witness_LinkAndClearOrders : yard.free ∧ bench.free := by decide

/-- A WAIT by duration. -/
def waitOrder : Order := order .wait none none none (some .duration) 30 60

theorem witness_StartChainChecksAndBegins :
    yard.free ∧ yard.atRest ∧ channelOf 3 = none ∧ slotOf 32 = none ∧ channelOf 1 = some .a ∧ slotOf 31 = some 31
    ∧ bench.control.phase = .setup ∧ yard.control.phase = .run ∧ (stopped yard).control.stopAsserted = true
    ∧ ((withWork .running (slot waitOrder .flowing) yard).channel .a).state = .running
    ∧ ((withWork .running (slot waitOrder .flowing) yard).channel AB.b.other).current = some 5
    ∧ (yard.order 5).status ≠ .loaded ∧ ((yard.putOrder 5 (slot waitOrder .loaded)).order 5).status = .loaded
    ∧ (let s := (yard.putOrder 5 (slot (order .admitSource none none (some 2) none 0 0) .loaded)).putAccounts
        { yard.accounts with cut := true }
       (s.order 5).order.kind = some .admitSource ∧ (s.order 5).order.source ≠ none
        ∧ s.settings.source = (s.order 5).order.source ∧ s.accounts.cut = true)
    ∧ (let s := yard.putOrder 5 (slot waitOrder .loaded)
       s.control.stopAsserted = false ∧ (s.channel .a).state = .idle ∧ (s.channel AB.a.other).current ≠ some 5
        ∧ (s.order 5).order.kind = some .wait ∧ (s.order 5).order.form = some .duration ∧ s.accounts.cut = false)
    ∧ ((yard.putChannel .a { Channel.idle with state := .halted }).channel .a).state = .halted := by decide +kernel

theorem witness_StartChainOpensAReceive :
    let s := (withValve 0 .closed .unclaimed yard).putOrder 5
      (slot (order .receive (some 0) none none none 1500001 60) .loaded)
    s.free ∧ s.atRest ∧ channelOf 1 = some .a ∧ slotOf 5 = some 5 ∧ s.control.phase = .run
    ∧ s.control.stopAsserted = false ∧ (s.channel .a).state = .idle ∧ (s.channel AB.a.other).current ≠ some 5
    ∧ (s.order 5).status = .loaded ∧ (s.order 5).order.kind = some .receive ∧ (s.order 5).order.dest = some 0
    ∧ (s.order 5).order.src = none ∧ s.settings.holders[(0 : HolderId)].configured = true
    ∧ (s.holder 0).state = .service ∧ (s.holder 0).atCrown = false
    ∧ ((s.holder 0).content = some 1500000 ∧ 1500000 < (s.order 5).order.target) ∧ s.stock.condition ≠ .crown
    ∧ (s.valve (inletValve 0)).claim = .unclaimed ∧ (s.valve (inletValve 0)).fault = .noFault
    ∧ (s.valve (inletValve 0)).position = .closed ∧ (s.valve (inletValve 0)).shown ≠ some .opened
    ∧ s.valves.main = .idle ∧ s.valves.protect = [] ∧ s.valves.queue = [] ∧ s.valves.refused = [] := by decide +kernel

/-- A state whose channel A has a RECEIVE into H2 that wants so many cu ft more. -/
def receiving (st : ChannelState) (k : OrderStatus) (left : Nat) : State :=
  withWork st (slot (order .receive (some 1) none none none (820000 + left) 0) k) yard

theorem witness_StopChannelStopsTheChain :
    yard.free ∧ yard.atRest ∧ channelOf 0 = none ∧ (3#8).toNat ≠ 1 ∧ channelOf 1 = some .a ∧ (1#8).toNat = 1
    ∧ (2#8).toNat = 2 ∧ bench.control.phase = .setup ∧ yard.control.phase = .run ∧ (yard.channel .a).state = .idle
    ∧ ((yard.putChannel .a { Channel.idle with state := .halted }).channel .a).state = .halted
    ∧ ((withWork (.stopping false) (slot waitOrder .closing) yard).channel .a).state = .stopping false
    ∧ ((withWork .suspended (slot waitOrder .suspended) yard).channel .a).state = .suspended
    ∧ (withValve 1 .opened (.channel .a) (receiving .running .flowing 9000)).claimed (.channel .a) ≠ []
    ∧ (let s := withWork .running (slot waitOrder .flowing) yard
       s.free ∧ s.atRest ∧ (s.channel .a).state = .running ∧ (s.channel .a).current = some 5
        ∧ (s.order 5).status = .flowing ∧ (s.order 5).order.kind = some .wait ∧ (s.order 5).order.notify = false
        ∧ (s.channel .a).reported = none ∧ s.holdsPin .a = false ∧ s.selector.change = none
        ∧ s.claimed (.channel .a) = []) := by decide +kernel

/-- A state whose channel A runs an order with all three timers out. -/
def timedOut (x : OrderSlot) : State :=
  (yard.putOrder 5 x).putChannel .a { Channel.idle with
    state := .running, current := some 5, pathTimer := some 0, limitTimer := some 0, waitTimer := some 0 }

theorem witness_OrderTimersEndOrders :
    yard.backlog = [] ∧ (yard.channel .a).current = none ∧ (yard.channel .a).pathTimer ≠ some 0
    ∧ (yard.channel .a).limitTimer ≠ some 0 ∧ (yard.channel .a).waitTimer ≠ some 0
    ∧ (let s := timedOut (slot (order .receive (some 0) none none none 1600000 0) .waitPath)
       s.atRest ∧ (s.channel .a).current = some 5 ∧ (s.channel .a).state = .running ∧ (s.channel .a).reported = none
        ∧ s.holdsPin .a = false ∧ s.selector.change = none ∧ s.claimed (.channel .a) = []
        ∧ (s.order 5).order.kind = some .receive ∧ (s.order 5).status = .waitPath
        ∧ (s.channel .a).pathTimer = some 0 ∧ (s.order 5).order.continueOnError = false)
    ∧ (let s := timedOut (slot waitOrder .flowing)
       s.atRest ∧ s.claimed (.channel .a) = [] ∧ (s.order 5).order.kind = some .wait ∧ (s.order 5).status = .flowing
        ∧ (s.channel .a).limitTimer = some 0 ∧ (s.order 5).order.continueOnError = false
        ∧ (s.channel .a).waitTimer = some 0 ∧ (s.order 5).order.notify = false ∧ (s.order 5).order.next = none
        ∧ (s.channel .a).stopAfter = false) := by decide +kernel

theorem witness_HoldIsRefused :
    yard.free ∧ channelOf 3 = none ∧ channelOf 1 = some .a ∧ bench.control.phase = .setup ∧ yard.control.phase = .run
    ∧ (yard.channel .a).current = none
    ∧ (let s := receiving .suspended .suspended 9000
       (s.channel .a).current = some 5 ∧ (s.channel .a).state = .suspended ∧ (s.order 5).status = .suspended)
    ∧ (let s := receiving .running .waitPath 9000
       (s.order 5).status ≠ .suspended ∧ ¬((s.order 5).status = .opening ∨ (s.order 5).status = .flowing))
    ∧ (let s := receiving .running .flowing 4999
       (s.order 5).order.kind = some .receive ∧ (s.order 5).status = .flowing
        ∧ (((s.holder 1).content.map fun m => (s.order 5).order.target - m) = some 4999)
        ∧ 4999 < (s.settings.channels.get .a).holdThreshold)
    ∧ (let s := receiving .running .opening 5000
       (((s.holder 1).content.map fun m => (s.order 5).order.target - m) = some 5000)
        ∧ (s.settings.channels.get .a).holdThreshold ≤ 5000) := by decide +kernel

/-- A TRANSFER FLOWING at so much short of its target, its pin held and its path OPEN. -/
def flowingTransfer (target : Nat) : State :=
  let s := (withPath .opened .opened .opened (pinned (transferRun .running .flowing))).setBooster true
  s.putOrder 5 { s.order 5 with order := { (s.order 5).order with target := target } }

theorem witness_HoldIsTaken :
    (∀ s ∈ [withValve 1 .opened (.channel .a) (receiving .running .flowing 9000),
        (withValve 1 .opened (.channel .a) (receiving .running .flowing 9000)).putHolder 1
          { holding 0 with content := none }],
      s.free ∧ s.atRest ∧ channelOf 1 = some .a ∧ s.control.phase = .run ∧ (s.channel .a).state = .running
      ∧ (s.channel .a).current = some 5 ∧ (s.order 5).status = .flowing ∧ (s.order 5).order.kind = some .receive
      ∧ (s.order 5).order.dest = some 1 ∧ (s.channel .a).work = []
      ∧ ((s.holder 1).content = none ∨ (s.holder 1).content = some 820000
        ∧ (s.settings.channels.get .a).holdThreshold ≤ (s.order 5).order.target - 820000)
      ∧ (s.valve (inletValve 1)).claim = .channel .a ∧ (s.valve (inletValve 1)).fault = .noFault
      ∧ (s.valve (inletValve 1)).position = .opened ∧ (s.valve (inletValve 1)).shown ≠ some .closed
      ∧ s.valves.main = .idle ∧ s.valves.protect = [] ∧ s.valves.queue = [] ∧ s.valves.refused = [])
    ∧ (let s := flowingTransfer 9000
       s.free ∧ s.atRest ∧ s.control.phase = .run ∧ (s.channel .a).state = .running
        ∧ (s.channel .a).current = some 5 ∧ (s.channel AB.a.other).current = none ∧ (s.order 5).status = .flowing
        ∧ (s.order 5).order.kind = some .transfer ∧ (s.order 5).order.dest = some 0
        ∧ (s.settings.channels.get .a).holdThreshold ≤ (s.order 5).order.target - (s.order 5).counted
        ∧ (s.channel .a).work = [] ∧ s.selector.state = .steady ∧ s.selector.current = some 1 ∧ s.usable 1 = true
        ∧ s.selector.pin = some { channel := .a, holder := 1 } ∧ s.stock.condition = .unknown
        ∧ (s.valve deliveryValve).claim = .channel .a ∧ (s.valve deliveryValve).fault = .noFault
        ∧ (s.valve deliveryValve).position = .opened ∧ (s.valve deliveryValve).shown ≠ some .closed
        ∧ s.valves.main = .idle ∧ s.valves.protect = [] ∧ s.valves.queue = [] ∧ s.valves.refused = []) := by
  decide +kernel

theorem witness_ResumeTakesUpTheOrder :
    yard.free ∧ channelOf 0 = none ∧ bench.control.phase = .setup ∧ (stopped yard).control.stopAsserted = true
    ∧ (yard.channel .a).state ≠ .suspended
    ∧ (let s := withValve 1 .opened (.channel .a) (receiving .suspended .suspended 9000)
       s.free ∧ s.atRest ∧ s.control.phase = .run ∧ s.control.stopAsserted = false ∧ (s.channel .a).state = .suspended
        ∧ (s.channel .a).current = some 5 ∧ (s.order 5).order.kind = some .receive
        ∧ (s.order 5).order.dest = some 1 ∧ (s.channel .a).work = []
        ∧ (s.valve (inletValve 1)).claim = .channel .a ∧ (s.valve (inletValve 1)).fault = .noFault
        ∧ (s.valve (inletValve 1)).position = .opened ∧ s.valves.main = .idle ∧ s.valves.protect = []
        ∧ s.valves.queue = []) := by decide +kernel

theorem witness_ResumeAsksForThePinAgain :
    let held := withPath .opened .closed .opened (transferRun .suspended .suspended)
    (∀ s ∈ [held, held.putSelector { held.selector with current := some 2 }],
      s.free ∧ s.atRest ∧ channelOf 1 = some .a ∧ s.control.phase = .run ∧ s.control.stopAsserted = false
      ∧ (s.channel .a).state = .suspended ∧ (s.channel .a).current = some 5
      ∧ (s.order 5).order.kind = some .transfer ∧ (s.order 5).order.dest = some 0 ∧ (s.order 5).order.src = some 1
      ∧ (s.channel .a).reported = some 0 ∧ (s.channel .a).work = [] ∧ s.selector.state = .steady
      ∧ s.selector.pin = none ∧ s.usable 1 = true)
    ∧ (held.selector.current = some 1
      ∧ (∀ v ∈ [inletValve 0, deliveryValve, suctionValve],
        (held.valve v).claim = .channel .a ∧ (held.valve v).fault = .noFault)
      ∧ (held.valve (inletValve 0)).position = .opened ∧ (held.valve suctionValve).position = .opened
      ∧ (held.valve deliveryValve).position = .closed ∧ (held.valve deliveryValve).shown ≠ some .opened
      ∧ held.valves.main = .idle ∧ held.valves.protect = [] ∧ held.valves.queue = [] ∧ held.valves.refused = [])
    ∧ (some (2 : HolderId) ≠ some 1 ∧ (held.order 5).order.forceSource = false
      ∧ (held.channel .a).pathTimer = none) := by decide +kernel

/-- A SET OUTLET MAP body. -/
def mapBody (mode enable : Nat) (table : List Byte) : List Byte := [toByte mode, toByte enable] ++ table

/-- REMAP: districts 1 and 2 change places, districts 3 to 6 lose their outlets. -/
def swapped : OutletMap :=
  { mode := .remap, enable := Vector.replicate 6 true,
    table := ((Vector.replicate 6 none).set 0 (some (1 : DistrictId))).set 1 (some (0 : DistrictId)) }

theorem witness_OutletMapIsCheckedAndApplied :
    yard.free ∧ yard.atRest ∧ (mapBody 2 63 [2#8, 1#8, 0#8, 0#8, 0#8, 0#8]).length = 8
    ∧ modeOf 3 = none ∧ tableOf (mapBody 2 63 [7#8, 1#8, 0#8, 0#8, 0#8, 0#8]) = none
    ∧ ((tableOf (mapBody 2 63 [1#8, 1#8, 0#8, 0#8, 0#8, 0#8])).map tableDistinct) = some false
    ∧ mapOf (mapBody 2 63 [2#8, 1#8, 0#8, 0#8, 0#8, 0#8]) = some swapped
    ∧ ((frozen yard).control.frozen = true ∧ swapped ≠ yard.settings.map)
    ∧ (let s := withDistrict 0 (district .live) yard
       swapped.outletOf 0 ≠ s.settings.map.outletOf 0 ∧ (s.district 0).state ≠ .shut)
    ∧ bench.free ∧ bench.control.phase = .setup ∧ yard.control.phase = .run ∧ yard.control.frozen = false
    ∧ (∀ d, swapped.outletOf d = yard.settings.map.outletOf d ∨ (yard.district d).state = .shut)
    ∧ (yard.settings.map.outletOf 5 ≠ none ∧ swapped.outletOf 5 = none)
    ∧ ((yard.putSettings { plant with map := swapped }).settings.map.outletOf 5 = none
      ∧ yard.settings.map.outletOf 5 ≠ none ∧ (yard.district 5).state = .shut)
    ∧ ((yard.settings.map.outletOf 0).isSome = (swapped.outletOf 0).isSome) ∧ yard.halfIn .filling = some .a := by
  decide +kernel

/-- A SET DISTRICT body for district 6. -/
def districtBody (economy flag low high lockout qualify window : Nat) : List Byte :=
  [6#8] ++ be2 economy ++ [toByte flag] ++ be2 low ++ be2 high ++ be2 lockout ++ be2 qualify ++ be2 window

theorem witness_DistrictSettingsAndHeldSetpoints :
    yard.free ∧ (districtBody 600 1 200 200 600 60 1800).length = 14 ∧ numberOf 6 7 = none ∧ numberOf 6 6 = some 5
    ∧ flagOf 2 = none ∧ flagOf 1 = some true ∧ flagOf 0 = some false
    ∧ field (districtBody 600 1 200 200 600 60 1800) 1 2 ≤ 600 ∧ ¬(field (districtBody 601 1 1 1 0 0 0) 1 2 ≤ 600)
    ∧ ¬(10 ≤ field (districtBody 9 1 1 1 0 0 0) 1 2) ∧ ¬(1 ≤ field (districtBody 10 1 0 1 0 0 0) 4 2)
    ∧ ¬(field (districtBody 10 1 1 201 0 0 0) 6 2 ≤ 200) ∧ ¬(field (districtBody 10 1 1 1 601 0 0) 8 2 ≤ 600)
    ∧ ¬(field (districtBody 10 1 1 1 0 61 0) 10 2 ≤ 60) ∧ ¬(field (districtBody 10 1 1 1 0 0 1801) 12 2 ≤ 1800)
    ∧ field (districtBody 600 1 200 200 600 60 1800) 1 2 ≠ yard.settings.districts[(5 : DistrictId)].economy
    ∧ (field (districtBody 35 0 200 200 600 60 1800) 1 2 = yard.settings.districts[(5 : DistrictId)].economy
      ∧ false = yard.settings.districts[(5 : DistrictId)].economyOn)
    ∧ ([6#8, 0#8, 10#8] : List Byte).length = 3 ∧ ([6#8] : List Byte).length = 1 := by decide +kernel

/-- A SET SCHEDULE body for district 1. -/
def scheduleBody (points : List (Nat × Nat)) : List Byte :=
  [1#8, toByte points.length] ++ (points.map fun p => be2 p.1 ++ be2 p.2).flatten

theorem witness_SetScheduleReplacesTheList :
    yard.free ∧ (scheduleBody [(0, 10), (1439, 600)]).length = 2 + 4 * field (scheduleBody [(0, 10), (1439, 600)]) 1 1
    ∧ numberOf 6 (field (scheduleBody [(0, 10)]) 0 1) = some 0 ∧ numberOf 6 0 = none
    ∧ ((List.range 2).map fun i =>
        ({ minute := field (scheduleBody [(0, 10), (1439, 600)]) (2 + 4 * i) 2,
           setpoint := field (scheduleBody [(0, 10), (1439, 600)]) (4 + 4 * i) 2 } : SchedulePoint))
        = [⟨0, 10⟩, ⟨1439, 600⟩]
    ∧ (scheduleBody []).length = 2 + 4 * field (scheduleBody []) 1 1 ∧ field (scheduleBody []) 1 1 = 0
    ∧ (0 < 1439 ∧ 1439 ≤ 1439 ∧ 10 ≤ 10 ∧ 600 ≤ 600) := by decide +kernel

theorem witness_SetpointFollowsTheTable :
    bench.control.phase = .setup ∧ yard.control.phase = .run ∧ yard.outletOf 0 = some 0
    ∧ (yard.putSettings { plant with map := swapped }).outletOf 5 = none
    ∧ (yard.putStock { yard.stock with condition := .critical }).stock.condition = .critical
    ∧ (yard.stock.condition ≠ .critical ∧ (yard.district 0).held = none ∧ yard.stock.condition ≠ .reserve)
    ∧ ((withDistrict 0 { district .live with held := some 600 } yard).district 0).held = some 600
    ∧ (let s := (yard.putStock { yard.stock with condition := .reserve }).putSettings { plant with
        districts := plant.districts.set 0 { plant.districts[0] with economyOn := true } }
       s.stock.condition = .reserve ∧ s.settings.districts[(0 : DistrictId)].economyOn = true ∧ s.stock.release = none)
    ∧ (let s := withDistrict 0 { district .live with inForce := some ⟨60, 2⟩ } yard
       let t := findSetpoint 0 s
       (s.district 0).inForce = some ⟨60, 2⟩ ∧ (t.district 0).inForce = some ⟨50, 4⟩ ∧ (60 : Nat) ≠ 50
        ∧ (s.district 0).state = .live)
    ∧ (let s := withDistrict 0 { district .live with inForce := some ⟨50, 2⟩ } yard
       (s.district 0).inForce = some ⟨50, 2⟩ ∧ ((findSetpoint 0 s).district 0).inForce = some ⟨50, 4⟩) := by
  decide +kernel

theorem witness_ScheduleGivesTheSetpoint :
    (([⟨360, 45⟩] ++ ⟨960, 60⟩ :: [⟨1260, 50⟩] : List SchedulePoint).Pairwise fun a b => a.minute < b.minute)
    ∧ (960 : Nat) ≤ 960 ∧ (∀ q ∈ ([⟨1260, 50⟩] : List SchedulePoint), 1259 < q.minute)
    ∧ (∀ q ∈ ([⟨360, 45⟩, ⟨960, 60⟩] ++ [⟨1260, 50⟩] : List SchedulePoint), 359 < q.minute) ∧ (1439 : Nat) < 1440 := by
  decide

theorem witness_OpenDistrictOpens :
    yard.free ∧ yard.atRest ∧ numberOf 6 0 = none ∧ numberOf 6 1 = some 0 ∧ bench.control.phase = .setup
    ∧ yard.control.phase = .run ∧ (yard.putSettings { plant with map := swapped }).outletOf 5 = none
    ∧ yard.outletOf 0 = some 0
    ∧ ((withDistrict 0 (district .live) yard).district 0).state = .live
    ∧ (let s := withValve 12 .movingClosed (.district 0) (withDistrict 0 (district .tripped) yard)
       (s.district 0).state = .tripped ∧ s.stands (districtValve 0) .closed = false)
    ∧ (yard.district 0).state = .shut ∧ ((withFault 12 .stuck yard).valve (districtValve 0)).fault ≠ .noFault
    ∧ ((yard.valve (districtValve 0)).fault = .noFault ∧ (yard.valve (districtValve 0)).claim = .unclaimed
      ∧ yard.valves.main = .idle ∧ yard.valves.protect = [] ∧ yard.valves.queue = [] ∧ yard.valves.refused = [])
    ∧ ((withValve 12 .opened .unclaimed yard).valve (districtValve 0)).position = .opened
    ∧ ((yard.valve (districtValve 0)).position = .closed ∧ (yard.valve (districtValve 0)).shown ≠ some .opened)
    ∧ (yard.putLink (port 30 .notice)).link.queue.length ≤ 30
    ∧ (let s := withValve (districtValve 0) .closed (.district 0) (withDistrict 0 (district .tripped) yard)
       s.free ∧ s.atRest ∧ s.control.phase = .run ∧ s.outletOf 0 = some 0 ∧ (s.district 0).state = .tripped
        ∧ (s.valve (districtValve 0)).fault = .noFault ∧ (s.valve (districtValve 0)).claim = .district 0
        ∧ s.valves.main = .idle ∧ s.valves.protect = [] ∧ s.valves.queue = [] ∧ s.valves.refused = []
        ∧ (s.valve (districtValve 0)).position = .closed ∧ (s.valve (districtValve 0)).shown ≠ some .opened) := by
  decide +kernel

theorem witness_ShutDistrictCloses :
    yard.free ∧ numberOf 6 7 = none ∧ numberOf 6 1 = some 0 ∧ bench.control.phase = .setup
    ∧ (yard.putSettings { plant with map := swapped }).outletOf 5 = none ∧ (yard.district 0).state = .shut
    ∧ ((withDistrict 0 (district .closing) yard).district 0).state = .closing
    ∧ ((withDistrict 0 (district .fault) yard).outletOf 0 ≠ none
      ∧ ((withDistrict 0 (district .fault) yard).district 0).state = .fault)
    ∧ (let s := withValve 12 .opened (.district 0) (withDistrict 0 (district .live) yard)
       s.free ∧ s.atRest ∧ s.control.phase = .run ∧ s.outletOf 0 = some 0 ∧ (s.district 0).state = .live
        ∧ s.valves.main = .idle ∧ s.valves.protect = [] ∧ s.valves.queue = [] ∧ s.valves.refused = []
        ∧ (s.valve (districtValve 0)).fault = .noFault ∧ (s.valve (districtValve 0)).claim = .district 0
        ∧ (s.valve (districtValve 0)).position = .opened ∧ (s.valve (districtValve 0)).shown ≠ some .closed) := by
  decide +kernel

/-- District 1 with its valve claimed for it, the valve at a position. -/
def claimedDistrict (st : DistrictState) (p : Position) : State :=
  withValve (districtValve 0) p (.district 0) (withDistrict 0 (district st) yard)

/-- The main driving the valve of district 1. -/
def withDistrictDrive (t : Limit) (rs : List Requester) (protective : Bool) (s : State) : State :=
  s.putValves { s.valves with
    main := .driving { valve := districtValve 0, target := t, requesters := rs, protective := protective } 9 }

theorem witness_ShutDistrictCases :
    (∀ s ∈ [claimedDistrict .fault .unknown, claimedDistrict .warn .opened,
        withDistrictDrive .opened [.district 0] false (claimedDistrict .opening .movingOpen),
        withDrive 9 .opened 5 (claimedDistrict .opening .closed),
        withDistrictDrive .closed [] true (claimedDistrict .tripped .movingClosed), claimedDistrict .tripped .closed],
      s.free ∧ s.atRest ∧ s.control.phase = .run ∧ s.outletOf 0 = some 0
      ∧ (s.valve (districtValve 0)).claim = .district 0 ∧ (s.valve (districtValve 0)).fault = .noFault
      ∧ s.valves.protect = [] ∧ s.valves.queue = [] ∧ s.valves.refused = []
      ∧ s.pathWaits .claim .a = false ∧ s.pathWaits .claim .b = false)
    ∧ ((claimedDistrict .fault .unknown).district 0).state = .fault
    ∧ (let s := claimedDistrict .warn .opened
       (s.district 0).state = .warn ∧ (s.valve (districtValve 0)).position = .opened
        ∧ (s.valve (districtValve 0)).shown ≠ some .closed ∧ s.valves.main = .idle)
    ∧ (let s := withDistrictDrive .opened [.district 0] false (claimedDistrict .opening .movingOpen)
       (s.district 0).state = .opening
        ∧ s.valves.main = .driving { valve := districtValve 0, target := .opened, requesters := [.district 0],
                                     protective := false } 9)
    ∧ (let s := withDrive 9 .opened 5 (claimedDistrict .opening .closed)
       let t := s.putValves { s.valves with queue := [⟨districtValve 0, .opened, [.district 0]⟩] }
       (t.district 0).state = .opening ∧ (9 : ValveId) ≠ districtValve 0 ∧ t.atRest
        ∧ t.valves.main = .driving { valve := 9, target := .opened, requesters := [.host], protective := false } 5
        ∧ t.valves.queue = [⟨districtValve 0, .opened, [.district 0]⟩])
    ∧ (let s := withDistrictDrive .closed [] true (claimedDistrict .tripped .movingClosed)
       (s.district 0).state = .tripped
        ∧ s.valves.main = .driving { valve := districtValve 0, target := .closed, requesters := [],
                                     protective := true } 9)
    ∧ (let s := claimedDistrict .tripped .closed
       (s.district 0).state = .tripped ∧ (s.valve (districtValve 0)).position = .closed ∧ s.valves.main = .idle) := by
  decide +kernel

theorem witness_PressureSampleIsJudged :
    yard.backlog = [] ∧ (yard.putSettings { plant with map := swapped }).settings.map.districtAt 5 = none
    ∧ yard.settings.map.districtAt 0 = some 0 ∧ (yard.district 0).state = .shut
    ∧ (let s := withDistrict 0 (district .live) yard
       let y := s.settings.districts[(0 : DistrictId)]
       s.control.phase = .run ∧ (s.district 0).state = .live ∧ (s.district 0).lockout = none
        ∧ (s.district 0).inForce = some ⟨50, 4⟩ ∧ (50 ≤ 35 + y.lowMargin ∧ 65 ≤ 50 + y.highMargin)
        ∧ ¬(50 ≤ 34 + y.lowMargin) ∧ ¬(66 ≤ 50 + y.highMargin) ∧ (s.district 0).qualify = none ∧ y.qualify ≠ 0)
    ∧ ((withDistrict 0 { district .warn with qualify := some 3 } yard).district 0).qualify ≠ none
    ∧ (let s := yard.putSettings { plant with
        districts := plant.districts.set 0 { plant.districts[0] with qualify := 0 } }
       s.settings.districts[(0 : DistrictId)].qualify = 0) := by decide +kernel

/-- District 1 in a state with a last sample, its qualify timer out. -/
def qualified (st : DistrictState) (n : Nat) : State :=
  withValve 12 .opened (.district 0)
    (withDistrict 0 { district st with qualify := some 0, sample := some ⟨n, 2⟩ } yard)

theorem witness_DistrictTimersExpire :
    yard.atRest ∧ (yard.district 0).qualify ≠ some 0 ∧ bench.control.phase = .setup
    ∧ (let s := qualified .live 35
       let y := s.settings.districts[(0 : DistrictId)]
       s.atRest ∧ s.control.phase = .run ∧ (s.district 0).qualify = some 0 ∧ (s.district 0).sample = some ⟨35, 2⟩
        ∧ (s.district 0).inForce = some ⟨50, 4⟩ ∧ s.outletOf 0 = some 0
        ∧ (50 ≤ 35 + y.lowMargin ∧ 35 ≤ 50 + y.highMargin) ∧ ¬(50 ≤ 34 + y.lowMargin) ∧ (s.district 0).state = .live
        ∧ y.repeatWindow ≠ 0)
    ∧ (let s := qualified .warn 34
       (s.district 0).state = .warn ∧ (s.valve (districtValve 0)).claim = .district 0
        ∧ (s.valve (districtValve 0)).position = .opened ∧ (s.valve (districtValve 0)).shown ≠ some .closed
        ∧ s.valves.main = .idle ∧ s.valves.protect = [] ∧ s.valves.queue = [])
    ∧ ((withDistrict 0 { district .live with lockout := some 0 } yard).district 0).lockout = some 0
    ∧ (yard.district 0).lockout ≠ some 0
    ∧ (let x := (withDistrict 0 { district .warn with repeatLeft := some 0 } yard).district 0
       x.repeatLeft = some 0 ∧ x.state = .warn)
    ∧ (yard.district 0).repeatLeft ≠ some 0 := by decide +kernel

/-- Channel A has a TRANSFER flowing that wants 101 cu ft more. -/
def transferring : State :=
  (withWork .running (slot (order .transfer (some 0) (some 1) none none 101 0) .flowing) yard).putChannel .a
    { Channel.idle with state := .running, current := some 5, reported := some 0 }

theorem witness_PulsesAreCountedAndCut :
    bench.backlog = [] ∧ bench.control.phase = .setup ∧ yard.control.phase = .run ∧ yard.halfIn .filling = some .a
    ∧ (¬∃ x, yard.settings.source = some x ∧ x.val = (9 : MeterId).val)
    ∧ ((∃ x, yard.settings.source = some x ∧ x.val = (2 : MeterId).val) ∧ 59999 < yard.settings.cap)
    ∧ (transferring.atRest ∧ transferring.flowingTransfer = some .a ∧ (transferring.channel .a).current = some 5
      ∧ (transferring.order 5).counted + transferring.settings.weights[(10 : MeterId)]
        < (transferring.order 5).order.target)
    ∧ (let s := yard.putAccounts { yard.accounts with take := 59900 }
       s.atRest ∧ s.control.phase = .run ∧ s.halfIn .filling = some .a ∧ s.settings.source = some 2
        ∧ s.accounts.cut = false ∧ s.settings.cap ≤ s.accounts.take + s.settings.weights[(2 : SourceId)]
        ∧ s.accounts.take + s.settings.weights[(2 : SourceId)] < 4294967295
        ∧ s.valves.main = .idle ∧ s.valves.protect = [] ∧ s.valves.queue = []
        ∧ (s.valve (sourceValve 2)).position = .closed ∧ (s.valve (sourceValve 2)).claim = .unclaimed
        ∧ s.link.queue.length < 32) := by
  refine ⟨by decide, by decide, by decide, by decide, ?_, ⟨⟨2, by decide, by decide⟩, by decide⟩, by decide +kernel,
    by decide +kernel⟩
  rintro ⟨x, e, n⟩
  cases e
  exact absurd n (by decide)

theorem witness_PulseReachesTheTarget :
    let s := flowingTransfer 100
    s.atRest ∧ s.control.phase = .run ∧ s.halfIn .filling = some .a ∧ s.flowingTransfer = some .a
    ∧ (s.channel .a).current = some 5 ∧ (s.channel AB.a.other).current = none ∧ (s.channel .a).state = .running
    ∧ (s.order 5).order.target ≤ (s.order 5).counted + s.settings.weights[(10 : MeterId)]
    ∧ (s.order 5).order.dest = some 0 ∧ (s.order 5).order.disposition = some .close
    ∧ s.selector.state = .steady ∧ s.selector.current = some 1 ∧ s.usable 1 = true ∧ s.selector.change = none
    ∧ s.selector.pin = some { channel := .a, holder := 1 } ∧ s.stock.condition = .unknown
    ∧ (∀ v ∈ [inletValve 0, deliveryValve, suctionValve], (s.valve v).claim = .channel .a
      ∧ (s.valve v).fault = .noFault ∧ (s.valve v).position = .opened ∧ (s.valve v).shown ≠ some .closed)
    ∧ s.valves.main = .idle ∧ s.valves.protect = [] ∧ s.valves.queue = [] ∧ s.valves.refused = [] := by decide +kernel

theorem witness_SetContractStoresAndJudges :
    yard.free ∧ bench.free ∧ bench.atRest ∧ ([3#8] ++ be4 1).length = 5 ∧ contractSourceOf 5 = none
    ∧ field ([3#8] ++ be4 0) 1 4 = 0 ∧ contractSourceOf 3 = some (some 2) ∧ contractSourceOf 0 = some none
    ∧ field ([3#8] ++ be4 1) 1 4 ≠ 0 ∧ ((frozen yard).control.frozen = true ∧ (1 : Nat) ≠ yard.settings.cap)
    ∧ yard.control.phase = .run ∧ some (1 : SourceId) ≠ yard.settings.source ∧ some (2 : SourceId) = yard.settings.source
    ∧ field ([3#8] ++ be4 60000) 1 4 = yard.settings.cap ∧ yard.control.frozen = false
    ∧ bench.control.phase = .setup ∧ (none : Option SourceId) ≠ bench.settings.source
    ∧ (let s := yard.putAccounts { yard.accounts with take := 700 }
       s.free ∧ s.atRest ∧ s.control.phase = .run ∧ s.control.frozen = false ∧ s.settings.source = some 2
        ∧ field ([3#8] ++ be4 701) 1 4 ≠ s.settings.cap ∧ s.accounts.take < field ([3#8] ++ be4 701) 1 4
        ∧ field ([3#8] ++ be4 700) 1 4 ≠ s.settings.cap ∧ field ([3#8] ++ be4 700) 1 4 ≤ s.accounts.take
        ∧ s.accounts.cut = false ∧ (s.putAccounts { s.accounts with cut := true }).accounts.cut = true
        ∧ s.valves.main = .idle ∧ s.valves.protect = [] ∧ s.valves.queue = []
        ∧ (s.valve (sourceValve 2)).position = .closed ∧ (s.valve (sourceValve 2)).claim = .unclaimed
        ∧ s.link.queue.length < 32) := by decide +kernel

theorem witness_SlotsAreReadAndAmended :
    (let s := withBook [postedSlot 9 47, bookSlot 10 0, { postedSlot 10 1 with check := 0 }] yard
     s.free ∧ namedSlot [3#8, 0#8] s = none ∧ namedSlot ([2#8] ++ be2 9 ++ [0#8]) s = some none
      ∧ namedSlot [1#8, 2#8] s = some (some 2) ∧ namedSlot [1#8, 3#8] s = some (some 3) ∧ s.accounts.book[3]? = none
      ∧ s.accounts.book[0]? = some (postedSlot 9 47) ∧ s.accounts.book[1]? = some (bookSlot 10 0)
      ∧ ((postedSlot 9 47).original = true ∧ checkWord (postedSlot 9 47) = (postedSlot 9 47).check)
      ∧ (bookSlot 10 0).original = false
      ∧ checkWord { postedSlot 10 1 with check := 0 } ≠ 0)
    ∧ (let s := withBook [bookSlot 9 47] yard
       s.free ∧ (be2 9 ++ [47#8] ++ List.replicate 48 0#8).length = 51 ∧ s.slotPlace ⟨9, 46⟩ = none
        ∧ s.slotPlace ⟨9, 47⟩ = some 0 ∧ s.settings.source = some 2 ∧ (9 : Nat) = s.accounts.takeDay
        ∧ (bookSlot 9 47).columns[2] ≤ s.accounts.take ∧ s.accounts.take + 0 - (bookSlot 9 47).columns[2] < 4294967295
        ∧ (withBook [] yard).settings.source ≠ none ∧ State.reset.settings.source = none) := by decide +kernel

theorem witness_CloseDayRefuses :
    yard.free ∧ (be2 9).length = 2 ∧ yard.accounts.book = [] ∧ dayLater yard.clock.day 9 = true
    ∧ dayLater yard.clock.day 10 = false ∧ (withBook [bookSlot 9 47] yard).accounts.book.head?.map (fun x => x.first.day)
      = some 9
    ∧ (let s := (withBook [bookSlot 9 47] yard).putHalf .b { Half.empty with state := .ready, first := ⟨9, 47⟩ }
       (s.half .b).state ≠ .empty ∧ (s.half .b).first.day = 9) := by decide +kernel

theorem witness_CloseDayBuildsTheStatement :
    let s := withBook [bookSlot 9 46, bookSlot 9 47, bookSlot 10 0] yard
    s.free ∧ (be2 9).length = 2 ∧ closeDayCheck (field (be2 9) 0 2) s = .ok := by decide +kernel

theorem witness_StepKeepsSettingsInRange : yard.settingsInRange ∧ step yard = .next yard := by
  refine ⟨{ working := ?_, bank1 := ?_, bank2 := ?_, write := ?_, newest := ?_ }, test_empty_queue_idles⟩
  · exact { holders := by decide +kernel, ladder := by decide, supply := by decide +kernel, dwell := by decide,
            travel := by decide +kernel, channels := fun c => by cases c <;> rfl, map := by decide +kernel,
            districts := by decide +kernel, weights := by decide +kernel, discrepancy := by decide, cap := by decide }
  all_goals intro x h; cases h

theorem witness_StepKeepsBoundsAndClock :
    yard.bounded ∧ yard.clockSound ∧ step yard = .next yard :=
  ⟨{ moves := by decide, places := by decide, slots := by decide, errors := by decide },
    { clock := { day := by decide, minute := by decide, second := by decide, start := by decide },
      backlog := fun _ h => (by cases h) }, test_empty_queue_idles⟩

theorem witness_RecordsHaveOneOwner :
    yard.backlog = [] ∧ (∀ p, Instr.readLive 1#8 [] ≠ .powerOnReset p)
    ∧ exec (.readLive 1#8 []) yard = .next (after (.readLive 1#8 []) yard) :=
  ⟨rfl, fun p h => (by cases h), rfl⟩

end Sys2Proof.Tests
end

section
/-!
The schedule of a district and its setpoint (R121, R122): what the model's reading of a schedule gives, and what finding
the setpoint in force leaves to the link.
-/

namespace Sys2Proof.Machine

/-! ## Reading a schedule (R122) -/

/-- A list is read from its front, each part starting from what the part before it found. -/
theorem lastPoint_append (minute : Nat) (before after : List SchedulePoint) (best : Option Nat) :
    lastPoint minute (before ++ after) best = lastPoint minute after (lastPoint minute before best) := by
  induction before generalizing best with
  | nil => rfl
  | cons p rest ih => exact ih _

/-- Points after the minute do not count. -/
theorem lastPoint_of_all_later {minute : Nat} {points : List SchedulePoint} (later : ∀ q ∈ points, minute < q.minute)
    (best : Option Nat) : lastPoint minute points best = best := by
  induction points with
  | nil => rfl
  | cons p rest ih =>
    obtain ⟨hp, hrest⟩ := List.forall_mem_cons.mp later
    rw [lastPoint, if_neg (Nat.not_le.mpr hp), ih hrest]

@[simp] theorem finalPoint_concat (before : List SchedulePoint) (p : SchedulePoint) :
    finalPoint (before ++ [p]) = p.setpoint := by
  induction before with
  | nil => rfl
  | cons q rest ih => cases rest <;> exact ih

/-- The last point not after the minute gives the setpoint, whatever stands before it. -/
theorem scheduledAt_of_last_not_after (before : List SchedulePoint) {after : List SchedulePoint} {p : SchedulePoint}
    {minute : Nat} (due : p.minute ≤ minute) (later : ∀ q ∈ after, minute < q.minute) :
    scheduledAt (before ++ p :: after) minute = p.setpoint := by
  have found : lastPoint minute (before ++ p :: after) none = some p.setpoint := by
    rw [lastPoint_append, lastPoint, if_pos due, lastPoint_of_all_later later]
  rw [scheduledAt, found, Option.getD_some]

/-- Where every point is after the minute, the setpoint of the evening before carries over. -/
theorem scheduledAt_of_all_later (before : List SchedulePoint) {p : SchedulePoint} {minute : Nat}
    (later : ∀ q ∈ before ++ [p], minute < q.minute) : scheduledAt (before ++ [p]) minute = p.setpoint := by
  rw [scheduledAt, lastPoint_of_all_later later, Option.getD_none, finalPoint_concat]

/-- A schedule of one point holds all day. -/
@[simp] theorem scheduledAt_singleton (p : SchedulePoint) (minute : Nat) : scheduledAt [p] minute = p.setpoint := by
  by_cases due : p.minute ≤ minute
  · exact scheduledAt_of_last_not_after [] due fun _ mem => nomatch mem
  · exact scheduledAt_of_all_later [] (List.forall_mem_cons.mpr ⟨Nat.not_le.mp due, fun _ mem => nomatch mem⟩)

/-- Of the clock, the setpoint in force rests on the minute alone (R123). -/
theorem setpointNow_putClock (s : State) {k : ClockUnit} (sameMinute : k.minute = s.clock.minute) (d : DistrictId) :
    (s.putClock k).setpointNow d = s.setpointNow d := by
  simp only [State.setpointNow, State.clock_putClock, sameMinute]
  rfl

/-- A day of three points: before the first of them the last one still holds. -/
theorem scheduledAt_three_points (minute : Nat) :
    scheduledAt [⟨360, 45⟩, ⟨960, 60⟩, ⟨1260, 50⟩] minute =
      if minute < 360 then 50 else if minute < 960 then 45 else if minute < 1260 then 60 else 50 := by
  split
  next night =>
    refine scheduledAt_of_all_later [⟨360, 45⟩, ⟨960, 60⟩] (p := ⟨1260, 50⟩) ?_
    simp only [List.cons_append, List.nil_append, List.forall_mem_cons]
    exact ⟨night, by omega, by omega, fun _ mem => nomatch mem⟩
  next afterNight =>
    split
    next morning =>
      refine scheduledAt_of_last_not_after [] (p := ⟨360, 45⟩) (Nat.not_lt.mp afterNight) ?_
      simp only [List.forall_mem_cons]
      exact ⟨morning, by omega, fun _ mem => nomatch mem⟩
    next afterMorning =>
      split
      next day =>
        refine scheduledAt_of_last_not_after [⟨360, 45⟩] (p := ⟨960, 60⟩) (Nat.not_lt.mp afterMorning) ?_
        simp only [List.forall_mem_cons]
        exact ⟨day, fun _ mem => nomatch mem⟩
      next afterDay =>
        exact scheduledAt_of_last_not_after [⟨360, 45⟩, ⟨960, 60⟩] (p := ⟨1260, 50⟩) (Nat.not_lt.mp afterDay)
          fun _ mem => nomatch mem

/-- Settles O47: the list is read in order, so the last point not after the minute decides. -/
theorem scheduleGivesTheSetpoint : Obligations.ScheduleGivesTheSetpoint :=
  ⟨fun before _ _ _ _ due later => scheduledAt_of_last_not_after before due later,
    fun before _ _ later => scheduledAt_of_all_later before later,
    scheduledAt_singleton,
    fun s _ d => setpointNow_putClock s rfl d,
    fun minute _ => scheduledAt_three_points minute⟩

/-! ## The checks of a schedule (R121) -/

/-- Neighbours ascend exactly where every two points do. -/
theorem ascending_iff (points : List SchedulePoint) :
    ascending points = true ↔ points.Pairwise fun p q => p.minute < q.minute := by
  induction points with
  | nil => simp only [ascending, List.Pairwise.nil]
  | cons p rest ih =>
    cases rest with
    | nil => simp only [ascending, List.pairwise_singleton]
    | cons q rest =>
      rw [List.pairwise_cons, ← ih, List.forall_mem_cons]
      simp only [ascending, Bool.and_eq_true, decide_eq_true_eq]
      constructor
      · rintro ⟨first, sorted⟩
        exact ⟨⟨first, fun r later => Nat.lt_trans first (List.rel_of_pairwise_cons (ih.mp sorted) later)⟩, sorted⟩
      · rintro ⟨⟨first, _⟩, sorted⟩
        exact ⟨first, sorted⟩

theorem scheduleOk_iff (points : List SchedulePoint) :
    scheduleOk points = true ↔ 1 ≤ points.length ∧ points.length ≤ 8 ∧
      (∀ p ∈ points, p.minute ≤ 1439 ∧ 10 ≤ p.setpoint ∧ p.setpoint ≤ 600) ∧
      points.Pairwise fun p q => p.minute < q.minute := by
  simp only [scheduleOk, setpointOk, Bool.and_eq_true, decide_eq_true_eq, List.all_eq_true, ascending_iff, and_assoc]

/-! ## Finding the setpoint leaves the link and the backlog alone (R124) -/

@[simp] theorem loadOutput_putLink (d : DistrictId) (s : State) (l : LinkPort) :
    loadOutput d (s.putLink l) = (loadOutput d s).putLink l := by
  simp only [loadOutput, show (s.putLink l).outletOf d = s.outletOf d from rfl]
  cases s.outletOf d <;> rfl

@[simp] theorem backlog_loadOutput (d : DistrictId) (s : State) : (loadOutput d s).backlog = s.backlog := by
  simp only [loadOutput]
  cases s.outletOf d <;> rfl

@[simp] theorem startLockout_putLink (d : DistrictId) (s : State) (l : LinkPort) :
    startLockout d (s.putLink l) = (startLockout d s).putLink l := rfl

@[simp] theorem backlog_startLockout (d : DistrictId) (s : State) : (startLockout d s).backlog = s.backlog := rfl

@[simp] theorem findSetpoint_putLink (d : DistrictId) (s : State) (l : LinkPort) :
    findSetpoint d (s.putLink l) = (findSetpoint d s).putLink l := by
  simp only [findSetpoint, State.running_putLink, show (s.putLink l).outletOf d = s.outletOf d from rfl]
  split
  · rw [apply_ite (fun t : State => t.putLink l), ← startLockout_putLink, ← loadOutput_putLink]
    rfl
  · rfl

@[simp] theorem link_findSetpoint (d : DistrictId) (s : State) : (findSetpoint d s).link = s.link :=
  show (findSetpoint d (s.putLink s.link)).link = s.link by rw [findSetpoint_putLink, State.link_putLink]

@[simp] theorem backlog_findSetpoint (d : DistrictId) (s : State) : (findSetpoint d s).backlog = s.backlog := by
  simp only [findSetpoint]
  split
  · split
    · rw [backlog_startLockout, backlog_loadOutput, State.backlog_putDistrict]
    · rw [State.backlog_putDistrict]
  · rfl

/-- The setpoint is found alike while a request is in hand. -/
theorem findSetpoint_inHand (d : DistrictId) (s : State) : findSetpoint d s.inHand = (findSetpoint d s).inHand := by
  rw [State.inHand, findSetpoint_putLink, State.inHand, link_findSetpoint]

/-! ## SET SCHEDULE (R121) -/

/-- A request that takes the part to a state without a word handed on: that state, with the status as its reply. -/
theorem request_taken {code : Nat} {tag : Byte} {owner : State → Taken} {s t : State} {k : Status} (free : s.free)
    (took : owner s.inHand = taken k (t.inHand, [])) (still : t.backlog = []) :
    request code tag owner s = .next (t.answered code tag k.body) :=
  request_still free took still

section
variable {tag : Byte} {body : List Byte} {s : State}

/-- A district out of range or a list that fails the checks is refused, and only the reply is composed. -/
theorem execSetSchedule_badField (free : s.free) (length : body.length = 2 + 4 * field body 1 1)
    (bad : numberOf 6 (field body 0 1) = none ∨ scheduleOk (pointsOf body (field body 1 1)) = false) :
    execSetSchedule tag body s = .next (s.answered 35 tag Status.badField.body) := by
  refine request_taken free ?_ free.1
  rw [sized, if_pos length]
  cases district : numberOf 6 (field body 0 1) with
  | none => rfl
  | some d =>
    have failed := bad.resolve_left (district ▸ Option.some_ne_none d)
    simp only [failed]
    rfl

/-- A good list for a district in range replaces the whole schedule, and the setpoint in force is found afresh. -/
theorem execSetSchedule_ok (free : s.free) (length : body.length = 2 + 4 * field body 1 1) {d : DistrictId}
    (district : numberOf 6 (field body 0 1) = some d) (good : scheduleOk (pointsOf body (field body 1 1)) = true) :
    execSetSchedule tag body s = .next ((findSetpoint d (putDistrictSettings d
      { s.districtSettings d with schedule := pointsOf body (field body 1 1) } s)).answered 35 tag Status.ok.body) := by
  refine request_taken free ?_ ((backlog_findSetpoint d _).trans free.1)
  rw [sized, if_pos length, ← findSetpoint_inHand]
  simp only [district, good]
  rfl

end

/-- Settles O45: R121's checks are the model's `scheduleOk`, and the two outcomes follow from the reading of the body. -/
theorem setScheduleReplacesTheList : Obligations.SetScheduleReplacesTheList := by
  intro tag body s free length points good
  have good_iff : scheduleOk points = true ↔ good := scheduleOk_iff points
  refine ⟨fun bad => execSetSchedule_badField free length ?_, fun d district ok => ?_⟩
  · exact bad.imp_right fun notGood => Bool.eq_false_iff.mpr (mt good_iff.mp notGood)
  · exact execSetSchedule_ok free length district (good_iff.mpr ok)

end Sys2Proof.Machine
end

section
/-!
The refusals of CLOSE DAY (R164): which of its checks fails on which book, clock and halves.
-/

namespace Sys2Proof.Machine

/-! ## The checks, in the order they are made (R164) -/

/-- The oldest slot of the book has its first interval in the gas day. -/
def State.oldestInDay (s : State) (day : Nat) : Prop := ∃ x, s.accounts.book.head? = some x ∧ x.first.day = day

/-- A half whose first interval lies in the gas day is FILLING or READY. -/
def State.halfInDay (s : State) (day : Nat) : Prop := ∃ i, (s.half i).state ≠ .empty ∧ (s.half i).first.day = day

/-- There are two halves, so a half in the day is one of them. -/
theorem halfInDay_iff (s : State) (day : Nat) :
    s.halfInDay day ↔ [s.half .a, s.half .b].any (fun h => decide (h.state ≠ .empty) && decide (h.first.day = day)) := by
  simp only [List.any_cons, List.any_nil, Bool.or_false, Bool.or_eq_true, Bool.and_eq_true, decide_eq_true_eq]
  constructor
  · rintro ⟨i, inDay⟩
    cases i with
    | a => exact .inl inDay
    | b => exact .inr inDay
  · rintro (inDay | inDay)
    · exact ⟨.a, inDay⟩
    · exact ⟨.b, inDay⟩

theorem not_oldestInDay_of_empty {s : State} (empty : s.accounts.book = []) (day : Nat) : ¬s.oldestInDay day := by
  rintro ⟨x, head, _⟩
  rw [empty] at head
  exact nomatch head

/-- The first check: no oldest slot, or one of another day. -/
theorem closeDayCheck_of_not_oldest {day : Nat} {s : State} (other : ¬s.oldestInDay day) :
    closeDayCheck day s = .notOldest := by
  unfold closeDayCheck
  cases book : s.accounts.book with
  | nil => rfl
  | cons x rest => exact if_pos fun inDay => other ⟨x, by rw [book, List.head?_cons], inDay⟩

/-- Once the oldest slot lies in the day, the clock and the halves decide. -/
theorem closeDayCheck_of_oldest {day : Nat} {s : State} (oldest : s.oldestInDay day) :
    closeDayCheck day s =
      if !dayLater s.clock.day day then .notPosted
      else if [s.half .a, s.half .b].any fun h => decide (h.state ≠ .empty) && decide (h.first.day = day) then .notPosted
      else .ok := by
  obtain ⟨x, head, inDay⟩ := oldest
  obtain ⟨rest, book⟩ := List.head?_eq_some_iff.mp head
  simp only [closeDayCheck, book]
  exact if_neg (not_not_intro inDay)

/-- The second check: the day is not ended. -/
theorem closeDayCheck_of_not_ended {day : Nat} {s : State} (oldest : s.oldestInDay day)
    (notEnded : dayLater s.clock.day day = false) : closeDayCheck day s = .notPosted := by
  rw [closeDayCheck_of_oldest oldest, notEnded]
  rfl

/-- The third check: a half of the day has yet to post. -/
theorem closeDayCheck_of_halfInDay {day : Nat} {s : State} (oldest : s.oldestInDay day) (waiting : s.halfInDay day) :
    closeDayCheck day s = .notPosted := by
  rw [closeDayCheck_of_oldest oldest, if_pos ((halfInDay_iff s day).mp waiting), ite_self]

/-! ## The refusal -/

/-- A CLOSE DAY whose check fails composes that status as its reply and changes nothing. -/
theorem execCloseDay_refused {tag : Byte} {body : List Byte} {s : State} (free : s.free) (length : body.length = 2)
    {k : Status} (failed : closeDayCheck (field body 0 2) s = k) (refused : k ≠ .ok) :
    execCloseDay tag body s = .next (s.answered 47 tag k.body) := by
  refine request_taken free ?_ free.1
  have checked : closeDayCheck (field body 0 2) s.inHand = k := failed
  rw [sized, if_pos length]
  -- Only OK has an arm of its own: `refused` leaves the arm that answers.
  simp only [checked]
  rfl

/-- Settles O55: each form of refusal is one failed check of R164, and a failed check is the reply and nothing more. -/
theorem closeDayRefuses : Obligations.CloseDayRefuses := by
  intro tag body s free length day refusal oldest waiting
  have refused {k : Status} (failed : closeDayCheck day s = k) (notOk : k ≠ .ok) : refusal k :=
    execCloseDay_refused free length failed notOk
  have notOldest (other : ¬s.oldestInDay day) : refusal .notOldest := refused (closeDayCheck_of_not_oldest other) nofun
  refine ⟨fun empty => notOldest (not_oldestInDay_of_empty empty day), notOldest, ?_, ?_⟩
  · exact fun inDay notEnded => refused (closeDayCheck_of_not_ended inDay notEnded) nofun
  · exact fun inDay _ halfWaits => refused (closeDayCheck_of_halfInDay inDay halfWaits) nofun

end Sys2Proof.Machine
end

section
/-!
IDENTIFY's report, and the settings state it gives, which SAVE SETTINGS and the end of its write leave alone (R189, R199,
R200).
-/

namespace Sys2Proof.Machine

/-! ## IDENTIFY (R189) -/

/-- A request whose body has another length than its fields give is refused, and only the reply is composed (R179). -/
theorem request_badLength {code n : Nat} {tag : Byte} {body : List Byte} {owner : State → Taken} {s : State}
    (free : s.free) (other : body.length ≠ n) :
    request code tag (sized n body owner) s = .next (s.answered code tag Status.badField.body) := by
  refine request_taken free ?_ free.1
  rw [sized, if_neg other]
  rfl

/-- A read request of an empty body answers with the fields as the records stand. -/
theorem request_reading {code : Nat} {tag : Byte} {fields : State → List Byte} {s : State} (free : s.free) :
    request code tag (sized 0 [] fun t => reading t fields) s
      = .next (s.answered code tag (Status.ok.body ++ fields s.inHand)) :=
  request_still (t := s.inHand) (f := fun t => Status.ok.body ++ fields t) free rfl free.1

@[simp] theorem b1_loadedPlace (loaded : Bool) : b1 (loadedPlace loaded) = [if loaded then 0x01#8 else 0x02#8] := by
  cases loaded <;> rfl

@[simp] theorem flagBytes_eq (flag : Bool) : flagBytes flag = [if flag then 0x01#8 else 0x00#8] := by
  cases flag <;> rfl

/-- The fields rest on the settings and the phase controller's record alone. -/
theorem identifyFields_inHand (s : State) : identifyFields s.inHand = identifyFields s := rfl

/-- IDENTIFY asks for no phase: its eight bytes are given in either. -/
theorem execIdentify_empty {tag : Byte} {s : State} (free : s.free) :
    execIdentify tag [] s = .next (s.answered 1 tag (Status.ok.body ++ identifyFields s)) := by
  rw [← identifyFields_inHand]
  exact request_reading free

/-! ## The settings state through a write (R189) -/

/-- An effect that keeps the settings state and hands on words that keep it too, with nothing left over from before. -/
structure KeepsLoaded (s : State) (e : Effect) : Prop where
  still : s.backlog = [] → e.1.backlog = []
  inner : e.2.all Act.inner = true
  loaded : e.1.control.loaded = s.control.loaded

theorem KeepsLoaded.nil (s : State) : KeepsLoaded s (s, []) := ⟨id, rfl, rfl⟩

theorem KeepsLoaded.settle {s : State} {e : Effect} (keeps : KeepsLoaded s e) (still : s.backlog = []) :
    (settle e).control.loaded = s.control.loaded := by
  rw [(settle_kept (keeps.still still) keeps.inner).control, keeps.loaded]

/-- A busy port turns the request away, and a free one composes its reply: neither is the phase controller's. -/
theorem KeepsLoaded.request {code : Nat} {tag : Byte} {owner : State → Taken} {s t : State}
    (keeps : KeepsLoaded s.inHand (owner s.inHand).1) (still : s.backlog = [])
    (took : request code tag owner s = .next t) : t.control.loaded = s.control.loaded := by
  cases port : s.link.busy with
  | true =>
    rw [request_busy port] at took
    cases took
    rfl
  | false =>
    rw [request_free port] at took
    cases took
    exact keeps.settle still

/-- A refused length changes nothing, so the owner alone decides. -/
theorem KeepsLoaded.sized {n : Nat} {body : List Byte} {owner : State → Taken} {s : State}
    (keeps : KeepsLoaded s (owner s).1) : KeepsLoaded s (sized n body owner s).1 := by
  rw [Machine.sized]
  split
  · exact keeps
  · exact KeepsLoaded.nil s

@[simp] theorem loaded_putBank (x : PhaseUnit) (b : Bank) (i : Option StoredImage) :
    (x.putBank b i).loaded = x.loaded := by
  cases b <;> rfl

theorem beginWrite_keepsLoaded (s : State) : KeepsLoaded s (beginWrite s, []) := ⟨id, rfl, loaded_putBank _ _ _⟩

theorem failWrite_keepsLoaded (w : StoreWrite) (cause : SaveFailure) (s : State) :
    KeepsLoaded s (failWrite w cause s) := ⟨id, rfl, loaded_putBank _ _ _⟩

/-- Neither end of a write makes the settings LOADED or BLANK (R200). -/
theorem endWrite_keepsLoaded (result : WriteEnd) (s : State) : KeepsLoaded s (endWrite result s) := by
  unfold endWrite
  split
  next => exact KeepsLoaded.nil s
  next w _ =>
    cases result with
    | good => exact ⟨id, rfl, loaded_putBank _ _ _⟩
    | mismatch => exact failWrite_keepsLoaded w .mismatch s
    | timeout =>
      dsimp only
      split
      · exact failWrite_keepsLoaded w .timeout s
      · exact KeepsLoaded.nil s

/-- SAVE SETTINGS, taken, refused or turned away, leaves the settings state (R199). -/
theorem loaded_execSaveSettings {tag : Byte} {body : List Byte} {s t : State} (still : s.backlog = [])
    (took : execSaveSettings tag body s = .next t) : t.control.loaded = s.control.loaded := by
  refine KeepsLoaded.request (KeepsLoaded.sized ?_) still took
  split
  · exact KeepsLoaded.nil s.inHand
  · exact beginWrite_keepsLoaded s.inHand

/-- The end of the write leaves the settings state (R200). -/
theorem loaded_execSaveWriteEnd {result : WriteEnd} {s t : State} (still : s.backlog = [])
    (ended : execSaveWriteEnd result s = .next t) : t.control.loaded = s.control.loaded := by
  cases ended
  exact (endWrite_keepsLoaded result s).settle still

/-- Settles O5: IDENTIFY only reads, and no step of a write touches the settings state. -/
theorem identifyReportsThePart : Obligations.IdentifyReportsThePart := by
  refine ⟨fun tag s free => ⟨?_, fun body some_body => ?_⟩, fun _ _ _ _ _ still => ⟨?_, ?_⟩⟩
  · have fields : Status.ok.body ++ identifyFields s = [0x00#8, 0x0A#8, 0x04#8, 0x03#8]
        ++ [toByte (allOutlets.filter fun p => (s.settings.map.districtAt p).isSome).length]
        ++ [toByte (allHolders.filter fun h => (s.settings.holders[h]).configured).length]
        ++ [if s.control.loaded then 0x01#8 else 0x02#8] ++ [if s.control.frozen then 0x01#8 else 0x00#8] := by
      rw [identifyFields, b1_loadedPlace, flagBytes_eq]
      rfl
    rw [← fields]
    exact execIdentify_empty free
  · exact request_badLength free (mt List.length_eq_zero_iff.mp some_body)
  · exact loaded_execSaveSettings still
  · exact loaded_execSaveWriteEnd still

end Sys2Proof.Machine
end

section
/-!
What refuses STOP (R196), and how STOP CHANNEL makes a HALTED channel IDLE (R101).
-/

namespace Sys2Proof.Machine

/-! ## The lists of the channels and the districts, and the phase -/

theorem mem_allChannels (c : ChannelId) : c ∈ allChannels := by
  cases c with
  | a => exact .head _
  | b => exact .tail _ (.head _)

theorem mem_allDistricts (d : DistrictId) : d ∈ allDistricts := by
  revert d
  decide

theorem running_eq_true {s : State} (run : s.control.phase = .run) : s.running = true := decide_eq_true run

theorem running_eq_false {s : State} (setup : s.control.phase = .setup) : s.running = false :=
  decide_eq_false (setup ▸ nofun)

/-! ## Work that goes on (R58, R196) -/

theorem ValveUnit.busy_iff (u : ValveUnit) : u.busy = true ↔ u.protect ≠ [] ∨ u.queue ≠ [] ∨ u.main ≠ .idle := by
  simp only [ValveUnit.busy, Bool.or_eq_true, Bool.not_eq_true', List.isEmpty_eq_false_iff, decide_eq_true_eq, or_assoc]

theorem stopRefused_iff (s : State) :
    s.stopRefused = true ↔ (∃ c, (s.channel c).state ≠ .idle) ∨ (∃ d, (s.district d).state ≠ .shut) ∨
      s.selector.state = .changeover ∨ s.valves.protect ≠ [] ∨ s.valves.queue ≠ [] ∨ s.valves.main ≠ .idle := by
  simp only [State.stopRefused, Bool.or_eq_true, List.any_eq_true, decide_eq_true_eq, ValveUnit.busy_iff, mem_allChannels,
    mem_allDistricts, true_and, or_assoc]

/-! ## A request of the right length (R179) -/

/-- A request whose body has the length its fields give reaches its owner (R179). -/
theorem request_sized_taken {code n : Nat} {tag : Byte} {body : List Byte} {owner : State → Taken} {s t : State}
    {k : Status} (free : s.free) (length : body.length = n) (took : owner s.inHand = taken k (t.inHand, []))
    (still : t.backlog = []) : request code tag (sized n body owner) s = .next (t.answered code tag k.body) :=
  request_taken free ((if_pos length).trans took) still

/-! ## The refusals of STOP (R196) -/

section
variable {tag : Byte} {s : State}

theorem execStop_wrongPhase (free : s.free) (setup : s.control.phase = .setup) :
    execStop tag [] s = .next (s.answered 4 tag Status.wrongPhase.body) := by
  refine request_sized_taken free rfl ?_ free.1
  have standing : s.inHand.running = false := running_eq_false setup
  simp only [standing]
  rfl

theorem execStop_inUse (free : s.free) (run : s.control.phase = .run) (working : s.stopRefused = true) :
    execStop tag [] s = .next (s.answered 4 tag Status.inUse.body) := by
  refine request_sized_taken free rfl ?_ free.1
  have running : s.inHand.running = true := running_eq_true run
  have refused : s.inHand.stopRefused = true := working
  simp only [running, refused]
  rfl

/-! ## STOP CHANNEL on a HALTED channel (R101) -/

/-- A body that begins with a channel's number names that channel. -/
theorem channelOf_field_channelNumber (c : ChannelId) (rest : List Byte) :
    channelOf (field (toByte (channelNumber c) :: rest) 0 1) = some c := by
  cases c <;> rfl

theorem stopAfter_of_halted {c : ChannelId} (halted : (s.channel c).state = .halted) :
    stopAfter c s = taken .ok (s.putChannel c Channel.idle, []) := by
  simp only [stopAfter, halted]

theorem stopAtOnce_of_halted {c : ChannelId} (halted : (s.channel c).state = .halted) :
    stopAtOnce c s = taken .ok (s.putChannel c Channel.idle, []) := by
  simp only [stopAtOnce, halted]

theorem execStopChannelAfter_halted (free : s.free) (run : s.control.phase = .run) {c : ChannelId}
    (halted : (s.channel c).state = .halted) :
    execStopChannelAfter tag [toByte (channelNumber c), 1#8] s
      = .next ((s.putChannel c Channel.idle).answered 28 tag Status.ok.body) := by
  refine request_sized_taken free rfl ?_ free.1
  have running : s.inHand.running = true := running_eq_true run
  have stopped := stopAfter_of_halted (s := s.inHand) halted
  simp only [channelOf_field_channelNumber, running, stopped]
  rfl

theorem execStopChannelAtOnce_halted (free : s.free) (run : s.control.phase = .run) {c : ChannelId}
    (halted : (s.channel c).state = .halted) :
    execStopChannelAtOnce tag [toByte (channelNumber c), 2#8] s
      = .next ((s.putChannel c Channel.idle).answered 28 tag Status.ok.body) := by
  refine request_sized_taken free rfl ?_ free.1
  have running : s.inHand.running = true := running_eq_true run
  have stopped := stopAtOnce_of_halted (s := s.inHand) halted
  simp only [channelOf_field_channelNumber, running, stopped]
  rfl

end

/-- Settles O13: each form of work that goes on is one of the model's `stopRefused`, and a HALTED channel is one that is
not IDLE. -/
theorem stopIsRefusedWhileWorkGoesOn : Obligations.StopIsRefusedWhileWorkGoesOn := by
  intro tag s free refusal
  refine ⟨fun body nonempty => request_badLength free (mt List.length_eq_zero_iff.mp nonempty),
    execStop_wrongPhase free, fun run => ?_⟩
  have inUse (working : s.stopRefused = true) : refusal .inUse := execStop_inUse free run working
  simp only [stopRefused_iff, or_imp] at inUse
  obtain ⟨channel, district, selector, protect, queue, main⟩ := inUse
  refine ⟨channel, district, selector, protect, queue, main, fun c halted => ⟨?_, ?_, ?_⟩⟩
  · exact channel ⟨c, by rw [halted]; nofun⟩
  · exact execStopChannelAfter_halted free run halted
  · exact execStopChannelAtOnce_halted free run halted

end Sys2Proof.Machine
end

section
/-!
No word and no taking of a request touches the words left over from an earlier event, and few words the accounts.
-/

namespace Sys2Proof.Machine

/-! ## Folds and effects one after another -/

/-- What every change of a fold keeps, the fold keeps. -/
theorem keeps_foldl {α β : Type} (g : State → β) {f : State → α → State} (keeps : ∀ t x, g (f t x) = g t) (l : List α)
    (s : State) : g (l.foldl f s) = g s := by
  induction l generalizing s with
  | nil => rfl
  | cons x l ih => rw [List.foldl_cons, ih, keeps]

theorem backlog_foldl {α : Type} {f : State → α → State} (keeps : ∀ t x, (f t x).backlog = t.backlog) (l : List α)
    (s : State) : (l.foldl f s).backlog = s.backlog := keeps_foldl State.backlog keeps l s

theorem aside_foldl {α : Type} {f : State → α → State}
    (keeps : ∀ t x, (f t x).backlog = t.backlog ∧ (f t x).accounts = t.accounts) (l : List α) (s : State) :
    (l.foldl f s).backlog = s.backlog ∧ (l.foldl f s).accounts = s.accounts :=
  ⟨backlog_foldl (fun t x => (keeps t x).1) l s, keeps_foldl State.accounts (fun t x => (keeps t x).2) l s⟩

theorem backlog_andThen {e : Effect} {f : State → Effect} (keeps : ∀ t, (f t).1.backlog = t.backlog) :
    (e.andThen f).1.backlog = e.1.backlog := keeps e.1

theorem aside_andThen {e : Effect} {f : State → Effect}
    (keeps : ∀ t, (f t).1.backlog = t.backlog ∧ (f t).1.accounts = t.accounts) :
    (e.andThen f).1.backlog = e.1.backlog ∧ (e.andThen f).1.accounts = e.1.accounts := keeps e.1

theorem aside_foldl_andThen {α : Type} {f : α → State → Effect}
    (keeps : ∀ x t, (f x t).1.backlog = t.backlog ∧ (f x t).1.accounts = t.accounts) (l : List α) (e : Effect) :
    (l.foldl (fun e x => e.andThen (f x)) e).1.backlog = e.1.backlog ∧
      (l.foldl (fun e x => e.andThen (f x)) e).1.accounts = e.1.accounts := by
  induction l generalizing e with
  | nil => exact ⟨rfl, rfl⟩
  | cons x l ih =>
    obtain ⟨left, kept⟩ := ih (e.andThen (f x))
    exact ⟨left.trans (keeps x e.1).1, kept.trans (keeps x e.1).2⟩

@[simp] theorem accounts_loadOutput (d : DistrictId) (s : State) : (loadOutput d s).accounts = s.accounts := by
  simp only [loadOutput]
  cases s.outletOf d <;> rfl

@[simp] theorem accounts_findSetpoint (d : DistrictId) (s : State) : (findSetpoint d s).accounts = s.accounts := by
  simp only [findSetpoint]
  split
  · split
    · exact (accounts_loadOutput ..)
    · rfl
  · rfl

@[simp] theorem accounts_startLockout (d : DistrictId) (s : State) : (startLockout d s).accounts = s.accounts := rfl

@[simp] theorem aside_claimRequest (k : Claim) (vs : List ValveId) (s : State) :
    (claimRequest k vs s).2.1.backlog = s.backlog ∧ (claimRequest k vs s).2.1.accounts = s.accounts := by
  have claimed := aside_foldl (fun t v => ⟨State.backlog_putClaim t v k, State.accounts_putClaim t v k⟩) vs s
  grind [claimRequest, State.backlog_putValves, State.accounts_putValves]

@[simp] theorem aside_releaseClaims (k : Claim) (vs : List ValveId) (s : State) :
    (releaseClaims k vs s).1.backlog = s.backlog ∧ (releaseClaims k vs s).1.accounts = s.accounts := by
  have released := aside_foldl fun t v =>
    ⟨State.backlog_putClaim t v .unclaimed, State.accounts_putClaim t v .unclaimed⟩
  grind [releaseClaims]

@[simp] theorem aside_noteRefused (r : Requester) (s : State) :
    (noteRefused r s).backlog = s.backlog ∧ (noteRefused r s).accounts = s.accounts := by
  grind [noteRefused, State.backlog_putValves, State.accounts_putValves]

@[simp] theorem aside_newEntry (r : Requester) (v : ValveId) (t : Limit) (s : State) :
    (newEntry r v t s).2.1.backlog = s.backlog ∧ (newEntry r v t s).2.1.accounts = s.accounts := by
  grind [newEntry, aside_noteRefused, State.backlog_putValves, State.accounts_putValves]

@[simp] theorem aside_mergeRequest (r : Requester) (e : QueueEntry) (t : Limit) (s : State) :
    (mergeRequest r e t s).2.1.backlog = s.backlog ∧ (mergeRequest r e t s).2.1.accounts = s.accounts := by
  grind [mergeRequest, aside_noteRefused, aside_newEntry, State.backlog_putValves, State.accounts_putValves]

@[simp] theorem aside_moveRequest (r : Requester) (v : ValveId) (t : Limit) (s : State) :
    (moveRequest r v t s).2.1.backlog = s.backlog ∧ (moveRequest r v t s).2.1.accounts = s.accounts := by
  grind [moveRequest, aside_newEntry, aside_mergeRequest, State.backlog_putValves, State.accounts_putValves]

@[simp] theorem aside_withdraw (r : Requester) (v : ValveId) (s : State) :
    (withdraw r v s).1.backlog = s.backlog ∧ (withdraw r v s).1.accounts = s.accounts := by
  grind [withdraw, State.backlog_putValves, State.accounts_putValves]

@[simp] theorem aside_protectiveClose (v : ValveId) (cause : ProtectCause) (s : State) :
    (protectiveClose v cause s).1.backlog = s.backlog ∧ (protectiveClose v cause s).1.accounts = s.accounts := by
  grind [protectiveClose, State.backlog_putValve, State.accounts_putValve, State.backlog_putValves,
    State.accounts_putValves]

@[simp] theorem aside_arbiterChoose (s : State) :
    (arbiterChoose s).1.backlog = s.backlog ∧ (arbiterChoose s).1.accounts = s.accounts := by
  grind [arbiterChoose, State.backlog_putValves, State.accounts_putValves]

@[simp] theorem aside_completeDrive (d : Drive) (s : State) :
    (completeDrive d s).1.backlog = s.backlog ∧ (completeDrive d s).1.accounts = s.accounts := by
  grind [completeDrive, State.backlog_putValve, State.accounts_putValve, State.backlog_putValves,
    State.accounts_putValves]

@[simp] theorem aside_failDrive (d : Drive) (s : State) :
    (failDrive d s).1.backlog = s.backlog ∧ (failDrive d s).1.accounts = s.accounts := by
  grind [failDrive, State.backlog_putValve, State.accounts_putValve, State.backlog_putValves, State.accounts_putValves]

@[simp] theorem aside_startDrive (s : State) :
    (startDrive s).1.backlog = s.backlog ∧ (startDrive s).1.accounts = s.accounts := by
  grind [startDrive, aside_completeDrive, State.backlog_putValve, State.accounts_putValve, State.backlog_putValves,
    State.accounts_putValves]

@[simp] theorem aside_endReport (s : State) :
    (endReport s).1.backlog = s.backlog ∧ (endReport s).1.accounts = s.accounts := by
  grind [endReport, State.backlog_putValves, State.accounts_putValves]

@[simp] theorem aside_freePlace (s : State) :
    (freePlace s).1.backlog = s.backlog ∧ (freePlace s).1.accounts = s.accounts := by
  grind [freePlace, State.backlog_putValves, State.accounts_putValves]

@[simp] theorem aside_beginReport (s : State) :
    (beginReport s).1.backlog = s.backlog ∧ (beginReport s).1.accounts = s.accounts := by
  grind [beginReport, State.backlog_putValves, State.accounts_putValves]

@[simp] theorem aside_disagreeFault (v : ValveId) (which : Limit) (s : State) :
    (disagreeFault v which s).1.backlog = s.backlog ∧ (disagreeFault v which s).1.accounts = s.accounts := by
  grind [disagreeFault, aside_beginReport, State.backlog_putValve, State.accounts_putValve, State.backlog_putValves,
    State.accounts_putValves]

@[simp] theorem aside_recordSwitch (v : ValveId) (which : Limit) (made : Bool) (s : State) :
    (recordSwitch v which made s).backlog = s.backlog ∧ (recordSwitch v which made s).accounts = s.accounts := by
  unfold recordSwitch
  grind [State.backlog_putValve, State.accounts_putValve]

@[simp] theorem aside_switchMade (v : ValveId) (which : Limit) (s : State) :
    (switchMade v which s).1.backlog = s.backlog ∧ (switchMade v which s).1.accounts = s.accounts := by
  grind [switchMade, aside_completeDrive, aside_disagreeFault, aside_recordSwitch, State.backlog_putValve,
    State.accounts_putValve]

@[simp] theorem aside_travelExpired (s : State) :
    (travelExpired s).1.backlog = s.backlog ∧ (travelExpired s).1.accounts = s.accounts := by
  grind [travelExpired, aside_failDrive]

@[simp] theorem aside_clearFault (v : ValveId) (s : State) :
    (clearFault v s).1.backlog = s.backlog ∧ (clearFault v s).1.accounts = s.accounts := by
  grind [clearFault, aside_beginReport, State.backlog_putValve, State.accounts_putValve]

@[simp] theorem aside_adoptValves (s : State) :
    (adoptValves s).backlog = s.backlog ∧ (adoptValves s).accounts = s.accounts := by
  exact aside_foldl (fun t h => ⟨State.backlog_putClaim t _ _, State.accounts_putClaim t _ _⟩) _ _

@[simp] theorem aside_setCondition (s : State) :
    (setCondition s).backlog = s.backlog ∧ (setCondition s).accounts = s.accounts := by
  grind [setCondition, State.backlog_putStock, State.accounts_putStock]

@[simp] theorem aside_judgeStock (s : State) :
    (judgeStock s).1.backlog = s.backlog ∧ (judgeStock s).1.accounts = s.accounts := by
  grind [judgeStock, aside_setCondition]

@[simp] theorem aside_releaseIsolation (h : HolderId) (s : State) :
    (releaseIsolation h s).1.backlog = s.backlog ∧ (releaseIsolation h s).1.accounts = s.accounts := by
  grind [releaseIsolation, aside_releaseClaims]

@[simp] theorem aside_enterHolderFault (h : HolderId) (cause : HolderFault) (s : State) :
    (enterHolderFault h cause s).1.backlog = s.backlog ∧ (enterHolderFault h cause s).1.accounts = s.accounts := by
  grind [enterHolderFault, aside_releaseIsolation, State.backlog_putHolder, State.accounts_putHolder]

@[simp] theorem aside_takeReading (h : HolderId) (content : Nat) (s : State) :
    (takeReading h content s).1.backlog = s.backlog ∧ (takeReading h content s).1.accounts = s.accounts := by
  grind [takeReading, aside_setCondition, aside_enterHolderFault, State.backlog_putHolder, State.accounts_putHolder]

@[simp] theorem aside_silenceExpired (h : HolderId) (s : State) :
    (silenceExpired h s).1.backlog = s.backlog ∧ (silenceExpired h s).1.accounts = s.accounts := by
  grind [silenceExpired, aside_enterHolderFault]

@[simp] theorem aside_isolationClosed (h : HolderId) (s : State) :
    (isolationClosed h s).1.backlog = s.backlog ∧ (isolationClosed h s).1.accounts = s.accounts := by
  grind [isolationClosed, State.backlog_putHolder, State.accounts_putHolder]

@[simp] theorem aside_askIsolationClose (h : HolderId) (s : State) :
    (askIsolationClose h s).1.backlog = s.backlog ∧ (askIsolationClose h s).1.accounts = s.accounts := by
  grind [askIsolationClose, aside_moveRequest, aside_isolationClosed, State.backlog_putHolder, State.accounts_putHolder]

@[simp] theorem aside_judgeIsolation (h : HolderId) (s : State) :
    (judgeIsolation h s).1.backlog = s.backlog ∧ (judgeIsolation h s).1.accounts = s.accounts := by
  grind [judgeIsolation, aside_releaseIsolation, State.backlog_putHolder, State.accounts_putHolder]

@[simp] theorem aside_stockPlaceFreed (s : State) :
    (stockPlaceFreed s).1.backlog = s.backlog ∧ (stockPlaceFreed s).1.accounts = s.accounts := by
  grind [stockPlaceFreed]

@[simp] theorem aside_isolationWord (h : HolderId) (w : ValveWord) (s : State) :
    (isolationWord h w s).1.backlog = s.backlog ∧ (isolationWord h w s).1.accounts = s.accounts := by
  unfold isolationWord
  grind [aside_isolationClosed]

@[simp] theorem aside_isolate (h : HolderId) (s : State) :
    (isolate h s).1.backlog = s.backlog ∧ (isolate h s).1.accounts = s.accounts := by
  grind [isolate, aside_claimRequest, State.backlog_putHolder, State.accounts_putHolder]

@[simp] theorem aside_returnToService (h : HolderId) (s : State) :
    (returnToService h s).1.backlog = s.backlog ∧ (returnToService h s).1.accounts = s.accounts := by
  grind [returnToService, aside_releaseIsolation, State.backlog_putHolder, State.accounts_putHolder]

@[simp] theorem aside_clearHolder (h : HolderId) (s : State) :
    (clearHolder h s).1.backlog = s.backlog ∧ (clearHolder h s).1.accounts = s.accounts := by
  grind [clearHolder, State.backlog_putHolder, State.accounts_putHolder]

@[simp] theorem aside_rejudgeGuards (h : HolderId) (s : State) :
    (rejudgeGuards h s).1.backlog = s.backlog ∧ (rejudgeGuards h s).1.accounts = s.accounts := by
  grind [rejudgeGuards, State.backlog_putHolder, State.accounts_putHolder]

@[simp] theorem aside_endRelease (notices : List Act) (s : State) :
    (endRelease notices s).1.backlog = s.backlog ∧ (endRelease notices s).1.accounts = s.accounts := by
  grind [endRelease, State.backlog_putStock, State.accounts_putStock]

@[simp] theorem aside_releaseExpired (s : State) :
    (releaseExpired s).1.backlog = s.backlog ∧ (releaseExpired s).1.accounts = s.accounts := by
  grind [releaseExpired, aside_endRelease]

@[simp] theorem aside_startStockUnit (s : State) :
    (startStockUnit s).1.backlog = s.backlog ∧ (startStockUnit s).1.accounts = s.accounts := by
  rw [startStockUnit, (aside_judgeStock _).1, (aside_judgeStock _).2]
  exact aside_foldl (fun t h => ⟨State.backlog_putHolder t _ _, State.accounts_putHolder t _ _⟩) _ _

@[simp] theorem aside_beginChange (kind : ChangeKind) (new : HolderId) (serves : Option ChannelId) (s : State) :
    (beginChange kind new serves s).1.backlog = s.backlog ∧
      (beginChange kind new serves s).1.accounts = s.accounts := by
  grind [beginChange, State.backlog_putSelector, State.accounts_putSelector]

@[simp] theorem aside_beginLoss (s : State) :
    (beginLoss s).1.backlog = s.backlog ∧ (beginLoss s).1.accounts = s.accounts := by
  grind [beginLoss, State.backlog_putSelector, State.accounts_putSelector]

@[simp] theorem aside_beginTidy (hs : List HolderId) (s : State) :
    (beginTidy hs s).1.backlog = s.backlog ∧ (beginTidy hs s).1.accounts = s.accounts := by
  grind [beginTidy, State.backlog_putSelector, State.accounts_putSelector]

@[simp] theorem aside_giveUpNew (s : State) :
    (giveUpNew s).1.backlog = s.backlog ∧ (giveUpNew s).1.accounts = s.accounts := by
  grind [giveUpNew, State.backlog_putSelector, State.accounts_putSelector]

@[simp] theorem aside_noteDecode (s : State) (r : Option HolderId) :
    (s.noteDecode r).backlog = s.backlog ∧ (s.noteDecode r).accounts = s.accounts := by
  grind [State.noteDecode, State.backlog_putSelector, State.accounts_putSelector]

@[simp] theorem aside_actSteady (c : HolderId) (r : Option HolderId) (s : State) :
    (actSteady c r s).1.backlog = s.backlog ∧ (actSteady c r s).1.accounts = s.accounts := by
  unfold actSteady
  grind [aside_beginChange, aside_beginLoss, State.backlog_putSelector, State.accounts_putSelector]

@[simp] theorem aside_decodeTrigger (s : State) :
    (decodeTrigger s).1.backlog = s.backlog ∧ (decodeTrigger s).1.accounts = s.accounts := by
  grind [decodeTrigger, aside_beginChange, aside_beginLoss, aside_giveUpNew, aside_noteDecode,
    aside_actSteady, State.backlog_putSelector, State.accounts_putSelector]

@[simp] theorem aside_endChange (ch : Changeover) (s : State) :
    (endChange ch s).1.backlog = s.backlog ∧ (endChange ch s).1.accounts = s.accounts := by
  grind [endChange, State.backlog_putSelector, State.accounts_putSelector]

@[simp] theorem aside_abandonChange (ch : Changeover) (s : State) :
    (abandonChange ch s).1.backlog = s.backlog ∧ (abandonChange ch s).1.accounts = s.accounts := by
  grind [abandonChange, aside_beginTidy, State.backlog_putSelector, State.accounts_putSelector]

@[simp] theorem aside_putChange (s : State) (ch : Changeover) :
    (s.putChange ch).backlog = s.backlog ∧ (s.putChange ch).accounts = s.accounts := by
  grind [State.putChange, State.backlog_putSelector, State.accounts_putSelector]

@[simp] theorem aside_askOpenNew (s : State) :
    (askOpenNew s).1.backlog = s.backlog ∧ (askOpenNew s).1.accounts = s.accounts := by
  grind [askOpenNew, aside_moveRequest, aside_abandonChange, aside_putChange]

@[simp] theorem aside_takeClosing (h : HolderId) (s : State) :
    (takeClosing h s).1.backlog = s.backlog ∧ (takeClosing h s).1.accounts = s.accounts := by
  grind [takeClosing, aside_moveRequest, aside_putChange]

@[simp] theorem aside_closingCheck (s : State) :
    (closingCheck s).1.backlog = s.backlog ∧ (closingCheck s).1.accounts = s.accounts := by
  grind [closingCheck, aside_endChange]

@[simp] theorem aside_backOut (s : State) :
    (backOut s).1.backlog = s.backlog ∧ (backOut s).1.accounts = s.accounts := by
  grind [backOut, aside_moveRequest, aside_withdraw, aside_abandonChange, aside_putChange]

@[simp] theorem aside_selectorWord (h : HolderId) (w : ValveWord) (s : State) :
    (selectorWord h w s).1.backlog = s.backlog ∧ (selectorWord h w s).1.accounts = s.accounts := by
  unfold selectorWord
  grind [aside_putChange]

@[simp] theorem aside_closeStray (h : HolderId) (s : State) :
    (closeStray h s).1.backlog = s.backlog ∧ (closeStray h s).1.accounts = s.accounts := by
  grind [closeStray, aside_beginTidy, aside_putChange]

@[simp] theorem aside_outletCleared (h : HolderId) (s : State) :
    (outletCleared h s).1.backlog = s.backlog ∧ (outletCleared h s).1.accounts = s.accounts := by
  grind [outletCleared, aside_closeStray]

@[simp] theorem aside_holderIsolating (h : HolderId) (s : State) :
    (holderIsolating h s).1.backlog = s.backlog ∧ (holderIsolating h s).1.accounts = s.accounts := by
  grind [holderIsolating, aside_closeStray]

@[simp] theorem aside_selectorPlace (s : State) :
    (selectorPlace s).1.backlog = s.backlog ∧ (selectorPlace s).1.accounts = s.accounts := by
  grind [selectorPlace]

@[simp] theorem aside_dwellExpired (s : State) :
    (dwellExpired s).1.backlog = s.backlog ∧ (dwellExpired s).1.accounts = s.accounts := by
  grind [dwellExpired, State.backlog_putSelector, State.accounts_putSelector]

@[simp] theorem aside_pinRequest (c : ChannelId) (h : HolderId) (force : Bool) (s : State) :
    (pinRequest c h force s).2.1.backlog = s.backlog ∧ (pinRequest c h force s).2.1.accounts = s.accounts := by
  grind [pinRequest, aside_beginChange, State.backlog_putSelector, State.accounts_putSelector]

@[simp] theorem aside_releasePin (c : ChannelId) (s : State) :
    (releasePin c s).1.backlog = s.backlog ∧ (releasePin c s).1.accounts = s.accounts := by
  grind [releasePin, State.backlog_putSelector, State.accounts_putSelector]

@[simp] theorem aside_forgetServed (c : ChannelId) (s : State) :
    (forgetServed c s).backlog = s.backlog ∧ (forgetServed c s).accounts = s.accounts := by
  grind [forgetServed, aside_putChange]

@[simp] theorem aside_startSelector (s : State) :
    (startSelector s).1.backlog = s.backlog ∧ (startSelector s).1.accounts = s.accounts := by
  grind [startSelector, aside_beginTidy, State.backlog_putSelector, State.accounts_putSelector]

@[simp] theorem aside_setWork (s : State) (c : ChannelId) (v : ValveId) (k : WorkKind) (w : WorkWait) :
    (s.setWork c v k w).backlog = s.backlog ∧ (s.setWork c v k w).accounts = s.accounts := by
  grind [State.setWork, State.backlog_putWork, State.accounts_putWork]

@[simp] theorem aside_clearWork (s : State) (c : ChannelId) (v : ValveId) :
    (s.clearWork c v).backlog = s.backlog ∧ (s.clearWork c v).accounts = s.accounts := by
  grind [State.clearWork, State.backlog_putWork, State.accounts_putWork]

@[simp] theorem aside_startPathTimer (s : State) (c : ChannelId) :
    (s.startPathTimer c).backlog = s.backlog ∧ (s.startPathTimer c).accounts = s.accounts := by
  grind [State.startPathTimer, State.backlog_putChannel, State.accounts_putChannel]

@[simp] theorem aside_endOrder (c : ChannelId) (k : OrderStatus) (cause : EndCause) (s : State) :
    (endOrder c k cause s).1.backlog = s.backlog ∧ (endOrder c k cause s).1.accounts = s.accounts := by
  grind [endOrder, aside_forgetServed, State.backlog_putStatus, State.accounts_putStatus, State.backlog_putChannel,
    State.accounts_putChannel, State.backlog_setBooster, State.accounts_setBooster]

@[simp] theorem aside_releaseOne (c : ChannelId) (v : ValveId) (s : State) :
    (releaseOne c v s).1.backlog = s.backlog ∧ (releaseOne c v s).1.accounts = s.accounts := by
  grind [releaseOne, aside_releaseClaims, aside_clearWork]

@[simp] theorem aside_askClose (c : ChannelId) (v : ValveId) (s : State) :
    (askClose c v s).1.backlog = s.backlog ∧ (askClose c v s).1.accounts = s.accounts := by
  grind [askClose, aside_moveRequest, aside_setWork, aside_releaseOne]

@[simp] theorem aside_leaveValve (c : ChannelId) (v : ValveId) (anyMove : Bool) (s : State) :
    (leaveValve c v anyMove s).1.backlog = s.backlog ∧ (leaveValve c v anyMove s).1.accounts = s.accounts := by
  grind [leaveValve, aside_withdraw, aside_setWork, aside_releaseOne]

@[simp] theorem aside_askCloses (c : ChannelId) (s : State) :
    (askCloses c s).1.backlog = s.backlog ∧ (askCloses c s).1.accounts = s.accounts := by
  simp only [askCloses, Effect.andThen]
  repeat' split
  all_goals simp

@[simp] theorem aside_postIfFree (c : ChannelId) (s : State) :
    (postIfFree c s).1.backlog = s.backlog ∧ (postIfFree c s).1.accounts = s.accounts := by
  grind [postIfFree, State.backlog_putOrder, State.accounts_putOrder, State.backlog_putChannel,
    State.accounts_putChannel, State.backlog_notify, State.accounts_notify]

@[simp] theorem aside_goIdle (c : ChannelId) (last : OrderId) (reason : ChainReason) (s : State) :
    (goIdle c last reason s).1.backlog = s.backlog ∧ (goIdle c last reason s).1.accounts = s.accounts := by
  grind [goIdle, State.backlog_putChannel, State.accounts_putChannel]

@[simp] theorem aside_goHalted (c : ChannelId) (cause : HaltCause) (slot : Option OrderId) (s : State) :
    (goHalted c cause slot s).1.backlog = s.backlog ∧ (goHalted c cause slot s).1.accounts = s.accounts := by
  grind [goHalted, State.backlog_putChannel, State.accounts_putChannel]

@[simp] theorem aside_chainOn (c : ChannelId) (ended : OrderId) (s : State) :
    (chainOn c ended s).1.backlog = s.backlog ∧ (chainOn c ended s).1.accounts = s.accounts := by
  grind [chainOn, aside_goIdle, aside_goHalted]

@[simp] theorem aside_orderCurrent (c : ChannelId) (n : OrderId) (s : State) :
    (orderCurrent c n s).1.backlog = s.backlog ∧ (orderCurrent c n s).1.accounts = s.accounts := by
  grind [orderCurrent, aside_endOrder, State.backlog_putStatus, State.accounts_putStatus, State.backlog_putChannel,
    State.accounts_putChannel]

@[simp] theorem aside_claimPath (c : ChannelId) (s : State) :
    (claimPath c s).1.backlog = s.backlog ∧ (claimPath c s).1.accounts = s.accounts := by
  grind [claimPath, aside_claimRequest, aside_startPathTimer, aside_endOrder, State.backlog_putChannel,
    State.accounts_putChannel]

@[simp] theorem aside_askPin (c : ChannelId) (o : Order) (s : State) :
    (askPin c o s).1.backlog = s.backlog ∧ (askPin c o s).1.accounts = s.accounts := by
  grind [askPin, aside_pinRequest, aside_startPathTimer, State.backlog_putChannel, State.accounts_putChannel]

@[simp] theorem aside_ensureOpen (c : ChannelId) (v : ValveId) (s : State) :
    (ensureOpen c v s).2.1.backlog = s.backlog ∧ (ensureOpen c v s).2.1.accounts = s.accounts := by
  grind [ensureOpen, aside_moveRequest, aside_setWork, aside_clearWork]

@[simp] theorem aside_askOpens (c : ChannelId) (o : Order) (s : State) :
    (askOpens c o s).2.1.backlog = s.backlog ∧ (askOpens c o s).2.1.accounts = s.accounts := by
  grind [askOpens, aside_ensureOpen]

@[simp] theorem aside_returnToPath (c : ChannelId) (n : OrderId) (was : OrderStatus) (before s : State) :
    (returnToPath c n was before s).backlog = s.backlog ∧ (returnToPath c n was before s).accounts = s.accounts := by
  grind [returnToPath, State.backlog_putStatus, State.accounts_putStatus, State.backlog_putChannel,
    State.accounts_putChannel]

@[simp] theorem aside_leavePath (c : ChannelId) (n : OrderId) (k : OrderStatus) (s : State) :
    (leavePath c n k s).backlog = s.backlog ∧ (leavePath c n k s).accounts = s.accounts := by
  grind [leavePath, State.backlog_putStatus, State.accounts_putStatus, State.backlog_putChannel,
    State.accounts_putChannel]

@[simp] theorem aside_openStep (c : ChannelId) (n : OrderId) (x : OrderSlot) (s : State) :
    (openStep c n x s).1.backlog = s.backlog ∧ (openStep c n x s).1.accounts = s.accounts := by
  grind [openStep, aside_endOrder, aside_askOpens, aside_returnToPath, aside_leavePath]

@[simp] theorem aside_moveStep (c : ChannelId) (n : OrderId) (x : OrderSlot) (s : State) :
    (moveStep c n x s).1.backlog = s.backlog ∧ (moveStep c n x s).1.accounts = s.accounts := by
  grind [moveStep, aside_moveRequest, aside_setWork, aside_endOrder, aside_returnToPath, aside_leavePath]

@[simp] theorem aside_enterFlowing (c : ChannelId) (s : State) :
    (enterFlowing c s).1.backlog = s.backlog ∧ (enterFlowing c s).1.accounts = s.accounts := by
  grind [enterFlowing, aside_leavePath, aside_moveStep, State.backlog_putChannel, State.accounts_putChannel,
    State.backlog_setBooster, State.accounts_setBooster]

@[simp] theorem aside_proceed (c : ChannelId) (s : State) :
    (proceed c s).1.backlog = s.backlog ∧ (proceed c s).1.accounts = s.accounts := by
  grind [proceed, aside_endOrder, aside_askPin, aside_openStep]

@[simp] theorem aside_askHoldClose (c : ChannelId) (s : State) :
    (askHoldClose c s).1.backlog = s.backlog ∧ (askHoldClose c s).1.accounts = s.accounts := by
  grind [askHoldClose, aside_moveRequest, aside_setWork, aside_clearWork, aside_endOrder]

@[simp] theorem aside_withdrawOpens (c : ChannelId) (o : Order) (s : State) :
    (withdrawOpens c o s).1.backlog = s.backlog ∧ (withdrawOpens c o s).1.accounts = s.accounts := by
  exact aside_foldl_andThen (fun v t => by grind [aside_withdraw]) o.path (s, [])

@[simp] theorem aside_takeHold (c : ChannelId) (s : State) :
    (takeHold c s).1.backlog = s.backlog ∧ (takeHold c s).1.accounts = s.accounts := by
  grind [takeHold, aside_withdrawOpens, State.backlog_putStatus, State.accounts_putStatus, State.backlog_putChannel,
    State.accounts_putChannel, State.backlog_setBooster, State.accounts_setBooster]

@[simp] theorem aside_takeResume (c : ChannelId) (s : State) :
    (takeResume c s).1.backlog = s.backlog ∧ (takeResume c s).1.accounts = s.accounts := by
  grind [takeResume, State.backlog_putStatus, State.accounts_putStatus, State.backlog_putChannel,
    State.accounts_putChannel]

@[simp] theorem aside_wordWorking (c : ChannelId) (x : OrderSlot) (v : ValveId) (w : ValveWord) (s : State) :
    (wordWorking c x v w s).1.backlog = s.backlog ∧ (wordWorking c x v w s).1.accounts = s.accounts := by
  unfold wordWorking
  grind [aside_setWork, aside_clearWork, aside_endOrder]

@[simp] theorem aside_wordHeld (c : ChannelId) (v : ValveId) (w : ValveWord) (s : State) :
    (wordHeld c v w s).1.backlog = s.backlog ∧ (wordHeld c v w s).1.accounts = s.accounts := by
  unfold wordHeld
  grind [aside_clearWork, aside_endOrder]

@[simp] theorem aside_wordClosing (c : ChannelId) (v : ValveId) (w : ValveWord) (s : State) :
    (wordClosing c v w s).1.backlog = s.backlog ∧ (wordClosing c v w s).1.accounts = s.accounts := by
  unfold wordClosing
  grind [aside_releaseOne, aside_askClose, aside_andThen]

@[simp] theorem aside_channelWord (c : ChannelId) (v : ValveId) (w : ValveWord) (s : State) :
    (channelWord c v w s).1.backlog = s.backlog ∧ (channelWord c v w s).1.accounts = s.accounts := by
  grind [channelWord, aside_wordWorking, aside_wordHeld, aside_wordClosing]

@[simp] theorem aside_channelRetry (c : ChannelId) (s : State) :
    (channelRetry c s).1.backlog = s.backlog ∧ (channelRetry c s).1.accounts = s.accounts := by
  have closes := aside_foldl_andThen (fun v t => aside_askClose c v t)
  grind [channelRetry, aside_openStep, aside_moveStep, aside_askHoldClose, aside_andThen]

@[simp] theorem aside_bothWays (s : State) (f : ChannelId → Act) :
    (bothWays s f).1.backlog = s.backlog ∧ (bothWays s f).1.accounts = s.accounts := by
  grind [bothWays]

@[simp] theorem aside_eachWaiting (waits : ChannelId → Bool) (f : ChannelId → Act) (s : State) :
    (eachWaiting waits f s).1.backlog = s.backlog ∧ (eachWaiting waits f s).1.accounts = s.accounts := by
  grind [eachWaiting, aside_bothWays]

@[simp] theorem aside_claimReleased (s : State) :
    (claimReleased s).1.backlog = s.backlog ∧ (claimReleased s).1.accounts = s.accounts := by
  grind [claimReleased, aside_eachWaiting]

@[simp] theorem aside_channelPlace (s : State) :
    (channelPlace s).1.backlog = s.backlog ∧ (channelPlace s).1.accounts = s.accounts := by
  grind [channelPlace, aside_eachWaiting]

@[simp] theorem aside_askPins (s : State) :
    (askPins s).1.backlog = s.backlog ∧ (askPins s).1.accounts = s.accounts := by
  grind [askPins]

@[simp] theorem aside_pinGranted (c : ChannelId) (s : State) :
    (pinGranted c s).1.backlog = s.backlog ∧ (pinGranted c s).1.accounts = s.accounts := by
  grind [pinGranted, State.backlog_putChannel, State.accounts_putChannel]

@[simp] theorem aside_pinRefused (c : ChannelId) (s : State) :
    (pinRefused c s).1.backlog = s.backlog ∧ (pinRefused c s).1.accounts = s.accounts := by
  grind [pinRefused, aside_endOrder]

@[simp] theorem aside_pinLost (c : ChannelId) (s : State) :
    (pinLost c s).1.backlog = s.backlog ∧ (pinLost c s).1.accounts = s.accounts := by
  grind [pinLost, aside_endOrder]

@[simp] theorem aside_endEach (hit : OrderSlot → Bool) (k : OrderStatus) (cause : EndCause) (s : State) :
    (endEach hit k cause s).1.backlog = s.backlog ∧ (endEach hit k cause s).1.accounts = s.accounts := by
  exact aside_foldl_andThen (fun c t => by grind [aside_endOrder]) allChannels (s, [])

@[simp] theorem aside_guardRaised (h : HolderId) (g : Guard) (s : State) :
    (guardRaised h g s).1.backlog = s.backlog ∧ (guardRaised h g s).1.accounts = s.accounts := by
  unfold guardRaised
  grind [aside_endEach]

@[simp] theorem aside_holderInFault (h : HolderId) (s : State) :
    (holderInFault h s).1.backlog = s.backlog ∧ (holderInFault h s).1.accounts = s.accounts := by
  grind [holderInFault, aside_endEach]

@[simp] theorem aside_contentTaken (h : HolderId) (s : State) :
    (contentTaken h s).1.backlog = s.backlog ∧ (contentTaken h s).1.accounts = s.accounts := by
  grind [contentTaken, aside_endEach]

@[simp] theorem aside_minuteToChannels (s : State) :
    (minuteToChannels s).1.backlog = s.backlog ∧ (minuteToChannels s).1.accounts = s.accounts := by
  grind [minuteToChannels, aside_endEach]

@[simp] theorem aside_transferPulse (weight : Nat) (s : State) :
    (transferPulse weight s).1.backlog = s.backlog ∧ (transferPulse weight s).1.accounts = s.accounts := by
  grind [transferPulse, aside_endOrder, State.backlog_putOrder, State.accounts_putOrder]

@[simp] theorem aside_channelStop (c : ChannelId) (s : State) :
    (channelStop c s).1.backlog = s.backlog ∧ (channelStop c s).1.accounts = s.accounts := by
  grind [channelStop, aside_endOrder, aside_goHalted, State.backlog_putChannel, State.accounts_putChannel]

@[simp] theorem aside_channelsStop (s : State) :
    (channelsStop s).1.backlog = s.backlog ∧ (channelsStop s).1.accounts = s.accounts := by
  exact aside_foldl_andThen (fun c t => aside_channelStop c t) allChannels (s, [])

@[simp] theorem aside_pathExpired (c : ChannelId) (s : State) :
    (pathExpired c s).1.backlog = s.backlog ∧ (pathExpired c s).1.accounts = s.accounts := by
  grind [pathExpired, aside_endOrder]

@[simp] theorem aside_limitExpired (c : ChannelId) (s : State) :
    (limitExpired c s).1.backlog = s.backlog ∧ (limitExpired c s).1.accounts = s.accounts := by
  grind [limitExpired, aside_endOrder]

@[simp] theorem aside_waitExpired (c : ChannelId) (s : State) :
    (waitExpired c s).1.backlog = s.backlog ∧ (waitExpired c s).1.accounts = s.accounts := by
  grind [waitExpired, aside_endOrder]

@[simp] theorem aside_eventClose (s : State) :
    (eventClose s).1.backlog = s.backlog ∧ (eventClose s).1.accounts = s.accounts := by
  grind [eventClose, State.backlog_putChannel, State.accounts_putChannel]

@[simp] theorem aside_startChannels (s : State) :
    (startChannels s).1.backlog = s.backlog ∧ (startChannels s).1.accounts = s.accounts := by
  grind [startChannels]

@[simp] theorem aside_setDistrictState (d : DistrictId) (k : DistrictState) (s : State) :
    (setDistrictState d k s).backlog = s.backlog ∧ (setDistrictState d k s).accounts = s.accounts := by
  grind [setDistrictState, backlog_loadOutput, accounts_loadOutput, State.backlog_putDistrict,
    State.accounts_putDistrict]

@[simp] theorem aside_findSetpoints (s : State) :
    (findSetpoints s).backlog = s.backlog ∧ (findSetpoints s).accounts = s.accounts := by
  exact aside_foldl (fun t d => ⟨backlog_findSetpoint d t, accounts_findSetpoint d t⟩) allDistricts s

@[simp] theorem aside_releaseOutlet (d : DistrictId) (s : State) :
    (releaseOutlet d s).1.backlog = s.backlog ∧ (releaseOutlet d s).1.accounts = s.accounts := by
  grind [releaseOutlet, aside_releaseClaims]

@[simp] theorem aside_enterDistrictFault (d : DistrictId) (s : State) :
    (enterDistrictFault d s).1.backlog = s.backlog ∧ (enterDistrictFault d s).1.accounts = s.accounts := by
  grind [enterDistrictFault, aside_withdraw, aside_setDistrictState]

@[simp] theorem aside_enterLive (d : DistrictId) (s : State) :
    (enterLive d s).1.backlog = s.backlog ∧ (enterLive d s).1.accounts = s.accounts := by
  grind [enterLive, backlog_startLockout, accounts_startLockout, aside_setDistrictState]

@[simp] theorem aside_enterShut (d : DistrictId) (s : State) :
    (enterShut d s).1.backlog = s.backlog ∧ (enterShut d s).1.accounts = s.accounts := by
  grind [enterShut, aside_setDistrictState, aside_releaseOutlet]

@[simp] theorem aside_askDistrictMove (d : DistrictId) (s : State) :
    (askDistrictMove d s).2.1.backlog = s.backlog ∧ (askDistrictMove d s).2.1.accounts = s.accounts := by
  grind [askDistrictMove, aside_moveRequest, aside_enterDistrictFault, State.backlog_putDistrict,
    State.accounts_putDistrict]

@[simp] theorem aside_districtAsk (d : DistrictId) (s : State) :
    (districtAsk d s).1.backlog = s.backlog ∧ (districtAsk d s).1.accounts = s.accounts := by
  grind [districtAsk, aside_askDistrictMove]

@[simp] theorem aside_beginMove (d : DistrictId) (k : DistrictState) (freed : List Act) (s : State) :
    (beginMove d k freed s).2.1.backlog = s.backlog ∧ (beginMove d k freed s).2.1.accounts = s.accounts := by
  grind [beginMove, aside_setDistrictState, aside_askDistrictMove]

@[simp] theorem aside_openDistrict (d : DistrictId) (p : OutletId) (s : State) :
    (openDistrict d p s).2.1.backlog = s.backlog ∧ (openDistrict d p s).2.1.accounts = s.accounts := by
  grind [openDistrict, aside_claimRequest, aside_beginMove]

@[simp] theorem aside_shutDistrict (d : DistrictId) (s : State) :
    (shutDistrict d s).2.1.backlog = s.backlog ∧ (shutDistrict d s).2.1.accounts = s.accounts := by
  grind [shutDistrict, aside_enterShut, aside_beginMove]

@[simp] theorem aside_districtPlace (s : State) :
    (districtPlace s).1.backlog = s.backlog ∧ (districtPlace s).1.accounts = s.accounts := by
  grind [districtPlace]

@[simp] theorem aside_districtWord (d : DistrictId) (w : ValveWord) (s : State) :
    (districtWord d w s).1.backlog = s.backlog ∧ (districtWord d w s).1.accounts = s.accounts := by
  unfold districtWord
  grind [aside_enterDistrictFault, State.backlog_putDistrict, State.accounts_putDistrict]

@[simp] theorem aside_leaveWarn (d : DistrictId) (s : State) :
    (leaveWarn d s).1.backlog = s.backlog ∧ (leaveWarn d s).1.accounts = s.accounts := by
  grind [leaveWarn, State.backlog_putDistrict, State.accounts_putDistrict]

@[simp] theorem aside_enterWarn (d : DistrictId) (p : OutletId) (side : Side) (sample setpoint : Nat) (s : State) :
    (enterWarn d p side sample setpoint s).1.backlog = s.backlog ∧
      (enterWarn d p side sample setpoint s).1.accounts = s.accounts := by
  grind [enterWarn, aside_leaveWarn, State.backlog_putDistrict, State.accounts_putDistrict]

@[simp] theorem aside_trip (d : DistrictId) (p : OutletId) (side : Side) (sample setpoint : Nat) (s : State) :
    (trip d p side sample setpoint s).1.backlog = s.backlog ∧
      (trip d p side sample setpoint s).1.accounts = s.accounts := by
  grind [trip, aside_setDistrictState]

@[simp] theorem aside_qualified (d : DistrictId) (side : Side) (sample setpoint : Nat) (s : State) :
    (qualified d side sample setpoint s).1.backlog = s.backlog ∧
      (qualified d side sample setpoint s).1.accounts = s.accounts := by
  grind [qualified, aside_enterWarn, aside_trip]

@[simp] theorem aside_judgeSample (d : DistrictId) (value : Nat) (s : State) :
    (judgeSample d value s).1.backlog = s.backlog ∧ (judgeSample d value s).1.accounts = s.accounts := by
  grind [judgeSample, aside_qualified, State.backlog_putDistrict, State.accounts_putDistrict]

@[simp] theorem aside_takeSample (p : OutletId) (value : Nat) (s : State) :
    (takeSample p value s).1.backlog = s.backlog ∧ (takeSample p value s).1.accounts = s.accounts := by
  grind [takeSample, aside_judgeSample, State.backlog_putDistrict, State.accounts_putDistrict]

@[simp] theorem aside_qualifyExpired (d : DistrictId) (s : State) :
    (qualifyExpired d s).1.backlog = s.backlog ∧ (qualifyExpired d s).1.accounts = s.accounts := by
  grind [qualifyExpired, aside_qualified, State.backlog_putDistrict, State.accounts_putDistrict]

@[simp] theorem aside_lockoutExpired (d : DistrictId) (s : State) :
    (lockoutExpired d s).1.backlog = s.backlog ∧ (lockoutExpired d s).1.accounts = s.accounts := by
  grind [lockoutExpired, State.backlog_putDistrict, State.accounts_putDistrict]

@[simp] theorem aside_repeatExpired (d : DistrictId) (s : State) :
    (repeatExpired d s).1.backlog = s.backlog ∧ (repeatExpired d s).1.accounts = s.accounts := by
  grind [repeatExpired, aside_leaveWarn]

@[simp] theorem aside_afterMap (old : OutletMap) (d : DistrictId) (s : State) :
    (afterMap old d s).backlog = s.backlog ∧ (afterMap old d s).accounts = s.accounts := by
  grind [afterMap, backlog_findSetpoint, accounts_findSetpoint, State.backlog_putDistrict, State.accounts_putDistrict]

@[simp] theorem aside_applyMap (old : OutletMap) (s : State) :
    (applyMap old s).1.backlog = s.backlog ∧ (applyMap old s).1.accounts = s.accounts := by
  exact aside_foldl (fun t d => aside_afterMap old d t) allDistricts s

@[simp] theorem aside_startDistrict (d : DistrictId) (s : State) :
    (startDistrict d s).1.backlog = s.backlog ∧ (startDistrict d s).1.accounts = s.accounts := by
  grind [startDistrict, backlog_startLockout, accounts_startLockout, aside_setDistrictState, State.backlog_putClaim,
    State.accounts_putClaim,
    State.backlog_putDistrict, State.accounts_putDistrict]

@[simp] theorem aside_startDistricts (s : State) :
    (startDistricts s).1.backlog = s.backlog ∧ (startDistricts s).1.accounts = s.accounts := by
  exact aside_foldl_andThen (fun d t => aside_startDistrict d t) allDistricts (s, [])

@[simp] theorem backlog_markFilling (f : Marks → Marks) (s : State) : (markFilling f s).backlog = s.backlog := by
  grind [markFilling, State.backlog_putHalf]

@[simp] theorem backlog_basisChanged (s : State) : (basisChanged s).backlog = s.backlog := by
  grind [basisChanged, backlog_markFilling]

@[simp] theorem backlog_mapChanged (s : State) : (mapChanged s).backlog = s.backlog := by
  grind [mapChanged, backlog_markFilling]

@[simp] theorem backlog_postReady (s : State) : (postReady s).1.backlog = s.backlog := by
  grind [postReady, State.backlog_putAccounts, State.backlog_putHalf, State.backlog_putAccounts]

@[simp] theorem backlog_cutContract (x : SourceId) (s : State) : (cutContract x s).1.backlog = s.backlog := by
  grind [cutContract, State.backlog_putAccounts, State.backlog_putAccounts]

@[simp] theorem backlog_judgeContract (s : State) : (judgeContract s).1.backlog = s.backlog := by
  grind [judgeContract, State.backlog_putAccounts, backlog_cutContract, State.backlog_putAccounts]

@[simp] theorem backlog_recomputeTake (s : State) : (recomputeTake s).backlog = s.backlog := by
  grind [recomputeTake, State.backlog_putAccounts, State.backlog_putAccounts]

@[simp] theorem backlog_gasDayStart (day : Nat) (s : State) : (gasDayStart day s).1.backlog = s.backlog := by
  grind [gasDayStart, State.backlog_putAccounts, backlog_judgeContract, State.backlog_putAccounts]

@[simp] theorem backlog_contractFaultCleared (s : State) : (contractFaultCleared s).1.backlog = s.backlog := by
  grind [contractFaultCleared]

@[simp] theorem backlog_countPulse (k : MeterId) (weight : Nat) (s : State) :
    (countPulse k weight s).backlog = s.backlog := by
  grind [countPulse, State.backlog_putHalf]

@[simp] theorem backlog_contractPulse (k : MeterId) (weight : Nat) (s : State) :
    (contractPulse k weight s).1.backlog = s.backlog := by
  grind [contractPulse, State.backlog_putAccounts, backlog_cutContract, State.backlog_putAccounts]

@[simp] theorem backlog_takePulse (k : MeterId) (s : State) : (takePulse k s).1.backlog = s.backlog := by
  grind [takePulse, backlog_countPulse, backlog_contractPulse]

@[simp] theorem backlog_turnHalves (i : HalfId) (x : Half) (begins : Interval) (atStart : Bool) (s : State) :
    (turnHalves i x begins atStart s).1.backlog = s.backlog := by
  grind [turnHalves, backlog_postReady, State.backlog_putHalf]

@[simp] theorem backlog_takeBoundary (b : Boundary) (s : State) : (takeBoundary b s).1.backlog = s.backlog := by
  grind [takeBoundary, backlog_gasDayStart, backlog_turnHalves, State.backlog_putHalf, backlog_andThen]

@[simp] theorem backlog_takeClockSet (new : Interval) (laterDay : Bool) (s : State) :
    (takeClockSet new laterDay s).1.backlog = s.backlog := by
  grind [takeClockSet, backlog_gasDayStart, backlog_turnHalves, State.backlog_putHalf, backlog_andThen]

@[simp] theorem backlog_startHalves (s : State) : (startHalves s).1.backlog = s.backlog := by
  grind [startHalves, backlog_basisChanged, backlog_mapChanged, backlog_turnHalves, State.backlog_putHalf]

@[simp] theorem backlog_startContract (s : State) : (startContract s).1.backlog = s.backlog := by
  grind [startContract, State.backlog_putAccounts, backlog_judgeContract, backlog_recomputeTake]

@[simp] theorem backlog_startGap (s : State) : (startGap s).1.backlog = s.backlog := by
  grind [startGap, State.backlog_putAccounts, State.backlog_putAccounts]

@[simp] theorem backlog_startAccounts (s : State) : (startAccounts s).1.backlog = s.backlog := by
  grind [startAccounts, backlog_startHalves, backlog_startContract, backlog_startGap, backlog_andThen]

@[simp] theorem backlog_putSlot (s : State) (place : Nat) (x : Slot) : (s.putSlot place x).backlog = s.backlog := by
  grind [State.putSlot, State.backlog_putAccounts, State.backlog_putAccounts]

@[simp] theorem backlog_amendSlot (place : Nat) (x : Slot) (columns : Vector Nat 12) (s : State) :
    (amendSlot place x columns s).1.backlog = s.backlog := by
  grind [amendSlot, State.backlog_putAccounts, backlog_putSlot, State.backlog_putAccounts]

@[simp] theorem backlog_closeDay (day : Nat) (s : State) : (closeDay day s).1.backlog = s.backlog := by
  grind [closeDay, State.backlog_putAccounts, State.backlog_putAccounts]

@[simp] theorem backlog_secondPasses (s : State) : (secondPasses s).backlog = s.backlog := by
  rfl

@[simp] theorem aside_handMinute (s : State) :
    (handMinute s).1.backlog = s.backlog ∧ (handMinute s).1.accounts = s.accounts := by
  grind [handMinute, State.backlog_putClock, State.accounts_putClock]

@[simp] theorem aside_handBoundary (s : State) :
    (handBoundary s).1.backlog = s.backlog ∧ (handBoundary s).1.accounts = s.accounts := by
  grind [handBoundary, State.backlog_putClock, State.accounts_putClock]

@[simp] theorem aside_setClock (day minute second dayStartMinute : Nat) (s : State) :
    (setClock day minute second dayStartMinute s).1.backlog = s.backlog ∧
      (setClock day minute second dayStartMinute s).1.accounts = s.accounts := by
  grind [setClock, State.backlog_putClock, State.accounts_putClock]

@[simp] theorem aside_tellRequester (r : Requester) (v : ValveId) (w : ValveWord) (s : State) :
    (tellRequester r v w s).1.backlog = s.backlog ∧ (tellRequester r v w s).1.accounts = s.accounts := by
  unfold tellRequester
  grind [aside_isolationWord, aside_selectorWord, aside_channelWord, aside_districtWord]

@[simp] theorem aside_tellClaimant (k : Claim) (v : ValveId) (w : ValveWord) (s : State) :
    (tellClaimant k v w s).1.backlog = s.backlog ∧ (tellClaimant k v w s).1.accounts = s.accounts := by
  grind [tellClaimant, aside_tellRequester]

@[simp] theorem backlog_handle (a : Act) (s : State) : (handle a s).1.backlog = s.backlog := by
  unfold handle
  split
  case h_6 v cause => split <;> simp
  all_goals simp
end Sys2Proof.Machine
end

section
/-!
What every word keeps, and the close of an event (R82).
-/

namespace Sys2Proof.Machine

/-! ## What every word keeps, the clock unit's own among them -/

/-- What no word changes: the waiting commands, the settings, the phase controller's record but for the seconds left of
a write, the day statement, the fields of an order that the host wrote; and the bounds of the lists. -/
structure WordKept (s t : State) : Prop where
  pending : t.pending = s.pending
  settings : t.settings = s.settings
  write : t.control.write.map (·.stored) = s.control.write.map (·.stored)
  control : t.control = { s.control with write := t.control.write }
  statement : t.accounts.statement = s.accounts.statement
  order : ∀ n, (t.order n).order = (s.order n).order
  bounded : s.bounded → t.bounded

theorem WordKept.trans {s t u : State} (a : WordKept s t) (b : WordKept t u) : WordKept s u where
  pending := b.pending.trans a.pending
  settings := b.settings.trans a.settings
  write := b.write.trans a.write
  control := by rw [b.control, a.control]
  statement := b.statement.trans a.statement
  order n := (b.order n).trans (a.order n)
  bounded := b.bounded ∘ a.bounded

theorem Kept0.bounded {s t : State} (k : Kept0 s t) (h : s.bounded) : t.bounded :=
  ⟨k.moves h.moves, k.places h.places, k.slots h.slots, by rw [k.errors]; exact h.errors⟩

theorem Kept0.word {s t : State} (k : Kept0 s t) : WordKept s t where
  pending := k.pending
  settings := k.settings
  write := by rw [k.control]
  control := by rw [k.control]
  statement := k.statement
  order := k.order
  bounded := k.bounded

theorem WordKept.refl (s : State) : WordKept s s := (Kept0.refl s).word

theorem WordKept.backlog (s : State) (l : List Act) : WordKept s { s with backlog := l } :=
  (Kept.backlog s l).toKept0.word

theorem WordKept.putClock (s : State) (k : ClockUnit) : WordKept s (s.putClock k) :=
  ⟨rfl, rfl, rfl, rfl, rfl, fun _ => rfl, fun h => ⟨h.moves, h.places, h.slots, h.errors⟩⟩

theorem WordKept.timersSecond (s : State) : WordKept s s.timersSecond where
  pending := rfl
  settings := rfl
  write := by cases h : s.control.write <;> simp [State.timersSecond, h]
  control := rfl
  statement := rfl
  order _ := rfl
  bounded h := ⟨h.moves, h.places, h.slots, h.errors⟩

theorem WordKept.handMinute (s : State) : WordKept s (handMinute s).1 := by
  unfold Machine.handMinute
  split
  · exact .putClock s _
  · exact .refl s

theorem WordKept.handBoundary (s : State) : WordKept s (handBoundary s).1 := by
  unfold Machine.handBoundary
  split
  · split
    · exact .putClock s _
    · exact .refl s
  · exact .refl s

theorem WordKept.setClock (day minute second start : Nat) (s : State) :
    WordKept s (setClock day minute second start s).1 := by
  simp only [Machine.setClock]
  split
  · exact .putClock s _
  · split <;> exact .putClock s _

theorem handle_wordKept (a : Act) (s : State) : WordKept s (handle a s).1 := by
  by_cases h : a.unclocked = true
  · exact (handle_quiet0 h s).kept.word
  · cases a with
    | secondPasses => exact (WordKept.timersSecond s).trans (.putClock _ _)
    | handMinute => exact .handMinute s
    | handBoundary => exact .handBoundary s
    | setClock day minute second start => exact .setClock day minute second start s
    | _ => exact absurd rfl h

theorem settle_wordKept (e : Effect) : WordKept e.1 (settle e) :=
  settle_keeps (fun a t k => k.trans (handle_wordKept a t)) (fun t l k => k.trans (.backlog t l)) e (.refl e.1)

/-! ## The clock stays in range -/

theorem timeInRange_of_unclocked {a : Act} (h : a.unclocked = true) : a.timeInRange := by
  cases a <;> first | exact True.intro | cases h

/-- The minute after the present one. -/
theorem ClockUnit.inRange.second1 {k : ClockUnit} (h : k.inRange) (inRun : Bool) : (k.second1 inRun).inRange := by
  obtain ⟨day, minute, second, start⟩ := h
  unfold ClockUnit.second1
  split
  · exact ⟨day, minute, by simp only; omega, start⟩
  · refine ⟨?_, ?_, Nat.zero_le _, start⟩
    · simp only
      repeat' split
      all_goals omega
    · simp only
      split <;> omega

theorem handMinute_clock (s : State) :
    (handMinute s).1.clock = { s.clock with minuteOwed := (handMinute s).1.clock.minuteOwed } := by
  unfold handMinute
  split <;> simp

theorem handBoundary_clock (s : State) :
    (handBoundary s).1.clock = { s.clock with boundaryOwed := (handBoundary s).1.clock.boundaryOwed } := by
  unfold handBoundary
  split
  · split <;> simp
  · rfl

theorem setClock_clock (day minute second start : Nat) (s : State) :
    (setClock day minute second start s).1.clock =
      { day := day, minute := minute, second := second, dayStartMinute := start, unset := false, minuteOwed := false,
        boundaryOwed := none } := by
  simp only [setClock]
  split
  · rfl
  · split <;> rfl

/-- A word whose time is in range leaves the clock in range. -/
theorem handle_clock_inRange {a : Act} (time : a.timeInRange) {s : State} (h : s.clock.inRange) :
    (handle a s).1.clock.inRange := by
  by_cases u : a.unclocked = true
  · rw [(handle_quiet0 u s).kept.clock]; exact h
  · cases a with
    | secondPasses => exact h.second1 _
    | handMinute =>
      show (handMinute s).1.clock.inRange
      rw [handMinute_clock]
      exact ⟨h.day, h.minute, h.second, h.start⟩
    | handBoundary =>
      show (handBoundary s).1.clock.inRange
      rw [handBoundary_clock]
      exact ⟨h.day, h.minute, h.second, h.start⟩
    | setClock day minute second start =>
      show (setClock day minute second start s).1.clock.inRange
      rw [setClock_clock]
      exact time
    | _ => exact absurd rfl u

theorem handMinute_unclocked (s : State) : (handMinute s).2.all Act.unclocked = true := by
  unfold handMinute
  split <;> rfl

theorem handBoundary_unclocked (s : State) : (handBoundary s).2.all Act.unclocked = true := by
  unfold handBoundary
  split
  · split <;> rfl
  · rfl

theorem setClock_unclocked (day minute second start : Nat) (s : State) :
    (setClock day minute second start s).2.all Act.unclocked = true := by
  simp only [setClock]
  split
  · rfl
  · split
    · split <;> rfl
    · rfl

/-- No word hands one of the clock unit's own on. -/
theorem handle_unclocked (a : Act) (s : State) : (handle a s).2.all Act.unclocked = true := by
  by_cases u : a.unclocked = true
  · exact unclocked_of_inner (handle_quiet0 u s).inner
  · cases a with
    | secondPasses => rfl
    | handMinute => exact handMinute_unclocked s
    | handBoundary => exact handBoundary_unclocked s
    | setClock day minute second start => exact setClock_unclocked day minute second start s
    | _ => exact absurd rfl u

theorem timeInRange_of_mem_handle {a b : Act} {s : State} (h : b ∈ (handle a s).2) : b.timeInRange :=
  timeInRange_of_unclocked (List.all_eq_true.mp (handle_unclocked a s) b h)

theorem run_clockSound {n : Nat} {acts : List Act} {s : State} (sound : s.clockSound)
    (times : ∀ a ∈ acts, a.timeInRange) : (run n acts s).clockSound := by
  induction n generalizing acts s with
  | zero => exact ⟨sound.clock, times⟩
  | succ n ih =>
    cases acts with
    | nil => exact sound
    | cons a rest =>
      obtain ⟨first, others⟩ := List.forall_mem_cons.mp times
      simp only [run]
      split
      · exact ih sound others
      · refine ih ⟨handle_clock_inRange first sound.clock, by rw [backlog_handle]; exact sound.backlog⟩ ?_
        intro b hb
        exact (List.mem_append.mp hb).elim timeInRange_of_mem_handle (others b)

theorem settle_clockSound {e : Effect} (sound : e.1.clockSound) (times : ∀ a ∈ e.2, a.timeInRange) :
    (settle e).clockSound := by
  simp only [settle]
  split
  · exact sound
  · refine run_clockSound ⟨sound.clock, fun _ mem => nomatch mem⟩ ?_
    simp only [List.mem_append, List.mem_singleton]
    rintro a ((left | now) | rfl)
    · exact sound.backlog a left
    · exact times a now
    · exact True.intro

/-! ## The close of an event (R82; log 4) -/

/-- The last word of an event is its close, which looks for an unreported TRANSFER until there is none. -/
theorem unreported_run {n : Nat} {acts : List Act} {s : State} (done : (run n (acts ++ [.eventClose]) s).backlog = [])
    (c : ChannelId) : (run n (acts ++ [.eventClose]) s).unreported c = none := by
  induction n generalizing acts s with
  | zero => exact absurd done (by simp [run])
  | succ n ih =>
    cases acts with
    | cons a rest =>
      rw [List.cons_append] at done ⊢
      by_cases merged : a.mergedInto (rest ++ [.eventClose]) = true
      · rw [run_merged merged] at done ⊢
        exact ih done
      · rw [run_cons (Bool.eq_false_iff.mpr merged), ← List.append_assoc] at done ⊢
        exact ih done
    | nil =>
      rw [List.nil_append, run_cons rfl, List.append_nil] at done ⊢
      change (run n (eventClose s).2 (eventClose s).1).backlog = [] at done
      change (run n (eventClose s).2 (eventClose s).1).unreported c = none
      revert done
      unfold eventClose
      split
      · exact ih (acts := [.decodeTrigger])
      · exact ih (acts := [.decodeTrigger])
      next noneA noneB =>
        intro _
        have same : (run n [] s).unreported c = s.unreported c := by cases n <;> rfl
        cases c
        · exact same.trans noneA
        · exact same.trans noneB

theorem unreported_settle {e : Effect} (still : e.1.backlog = [] → e.2 = [] → ∀ c, e.1.unreported c = none)
    (done : (settle e).backlog = []) (c : ChannelId) : (settle e).unreported c = none := by
  simp only [settle] at done ⊢
  split
  next quiet =>
    simp only [Bool.and_eq_true, List.isEmpty_iff] at quiet
    exact still quiet.1 quiet.2 c
  next loud =>
    rw [if_neg loud] at done
    exact unreported_run done c

end Sys2Proof.Machine
end

section
/-!
What the effect of a command keeps: the records with one owner (95), the bounds, the clock and the settings in range.
-/

namespace Sys2Proof.Machine

/-! ## What the effect of a command keeps -/

/-- The requests that write the stored settings, by their codes (R181). -/
def settingCodes : List (Option Nat) :=
  [some 8, some 13, some 16, some 17, some 19, some 32, some 33, some 34, some 35, some 41, some 42, some 43]

/-- SET CLOCK, STOP, a tick and the two hand-ons: the commands that own the clock (01). -/
def movesClock (i : Instr) : Prop :=
  i.requestCode = some 7 ∨ i.requestCode = some 4 ∨ i = .clockTick ∨ i = .changeOfMinute ∨ i = .intervalBoundary

/-- No TRANSFER has still to be reported (R82). -/
def State.allReported (s : State) : Prop := ∀ c, s.unreported c = none

/-- Every record stands that has an owner among the commands, and the lists keep their bounds. -/
structure Steady (s t : State) : Prop where
  pending : t.pending = s.pending
  backlog : t.backlog = s.backlog
  settings : t.settings = s.settings
  control : t.control = s.control
  clock : t.clock = s.clock
  statement : t.accounts.statement = s.accounts.statement
  order : ∀ n, (t.order n).order = (s.order n).order
  bounded : s.bounded → t.bounded

/-- What the effect of a command other than power-on reset keeps, before the words that follow from it are handled. -/
structure Lawful (i : Instr) (s : State) (e : Effect) : Prop where
  pending : e.1.pending = s.pending
  backlog : e.1.backlog = s.backlog
  settings : i.requestCode ∉ settingCodes → e.1.settings = s.settings
  locked : s.control.frozen = true → e.1.control.frozen = true ∧ e.1.settings.locked = s.settings.locked
  inRange : s.settingsInRange → e.1.settingsInRange
  clock : ¬movesClock i → e.1.clock = s.clock ∧ e.2.all Act.unclocked = true
  clockInRange : s.clock.inRange → e.1.clock.inRange
  times : ∀ a ∈ e.2, a.timeInRange
  statement : i.requestCode ≠ some 47 → e.1.accounts.statement = s.accounts.statement
  order : i.requestCode ∉ [some 23, some 24, some 25] → ∀ n, (e.1.order n).order = (s.order n).order
  bounded : s.bounded → e.1.bounded
  rest : e.2 = [] → s.allReported → e.1.allReported

theorem Kept0.steady {s t : State} (k : Kept0 s t) (b : t.backlog = s.backlog) : Steady s t :=
  ⟨k.pending, b, k.settings, k.control, k.clock, k.statement, k.order, k.bounded⟩

theorem Steady.refl (s : State) : Steady s s := (Kept0.refl s).steady rfl

theorem Steady.trans {s t u : State} (a : Steady s t) (b : Steady t u) : Steady s u :=
  ⟨b.pending.trans a.pending, b.backlog.trans a.backlog, b.settings.trans a.settings, b.control.trans a.control,
    b.clock.trans a.clock, b.statement.trans a.statement, fun n => (b.order n).trans (a.order n), b.bounded ∘ a.bounded⟩

theorem allReported_congr {s t : State} (h : t.channels = s.channels) (r : s.allReported) : t.allReported := fun c => by
  rw [← r c]
  simp only [State.unreported, State.currentSlot, State.channel, State.order, h]
  rfl

theorem settingsInRange_congr {s t : State} (hs : t.settings = s.settings) (hc : t.control = s.control)
    (h : s.settingsInRange) : t.settingsInRange := by
  obtain ⟨working, bank1, bank2, write, newest⟩ := h
  constructor <;> simp only [hs, hc] <;> assumption

theorem times_of_unclocked {l : List Act} (h : l.all Act.unclocked = true) : ∀ a ∈ l, a.timeInRange := fun a mem =>
  timeInRange_of_unclocked (List.all_eq_true.mp h a mem)

/-- An effect that changes no owned record. -/
theorem Lawful.steady {i : Instr} {s : State} {e : Effect} (k : Steady s e.1) (words : e.2.all Act.unclocked = true)
    (rest : e.2 = [] → s.allReported → e.1.allReported) : Lawful i s e where
  pending := k.pending
  backlog := k.backlog
  settings _ := k.settings
  locked h := by rw [k.control, k.settings]; exact ⟨h, rfl⟩
  inRange := settingsInRange_congr k.settings k.control
  clock _ := ⟨k.clock, words⟩
  clockInRange h := by rw [k.clock]; exact h
  times := times_of_unclocked words
  statement _ := k.statement
  order _ := k.order
  bounded := k.bounded
  rest := rest

theorem Lawful.nil {i : Instr} (s : State) : Lawful i s (s, []) := .steady (.refl s) rfl fun _ => id

/-- An effect whose change keeps what `Kept` names, and that hands on no word only where the channels stand. -/
theorem Lawful.quiet {i : Instr} {s : State} {e : Effect} (q : Quiet s e) (b : e.1.backlog = s.backlog)
    (rest : e.2 = [] → e.1.channels = s.channels) : Lawful i s e :=
  .steady (q.kept.toKept0.steady b) (unclocked_of_inner q.inner) fun h => allReported_congr (rest h)

/-- A part of the state replaced that no command owns, and the channels as they were. -/
theorem Lawful.still {i : Instr} {s t : State} (k : Steady s t) (channels : t.channels = s.channels) :
    Lawful i s (t, []) := .steady k rfl fun _ => allReported_congr channels

/-- The settings replaced by a request that owns them. -/
theorem Lawful.store {i : Instr} {s : State} {e : Effect} {x : Settings} (owner : i.requestCode ∈ settingCodes)
    (inRange : s.settings.inRange → x.inRange) (locked : s.control.frozen = true → x.locked = s.settings.locked)
    (k : Steady (s.putSettings x) e.1) (words : e.2.all Act.unclocked = true)
    (rest : e.2 = [] → s.allReported → e.1.allReported) : Lawful i s e where
  pending := k.pending
  backlog := k.backlog
  settings h := absurd owner h
  locked h := ⟨by rw [k.control]; exact h, by rw [k.settings]; exact locked h⟩
  inRange h := settingsInRange_congr k.settings k.control ⟨inRange h.working, h.bank1, h.bank2, h.write, h.newest⟩
  clock _ := ⟨k.clock, words⟩
  clockInRange h := by rw [k.clock]; exact h
  times := times_of_unclocked words
  statement _ := k.statement
  order _ := k.order
  bounded h := k.bounded ⟨h.moves, h.places, h.slots, h.errors⟩
  rest := rest

/-- The phase controller's record replaced, frozen not cleared and every image in range. -/
theorem Lawful.control {i : Instr} {s : State} {e : Effect} {x : PhaseUnit}
    (frozen : s.control.frozen = true → x.frozen = true)
    (images : s.settingsInRange → (s.putControl x).settingsInRange) (state : e.1 = s.putControl x)
    (words : e.2.all Act.unclocked = true) : Lawful i s e where
  pending := by rw [state]; rfl
  backlog := by rw [state]; rfl
  settings _ := by rw [state]; rfl
  locked h := by rw [state]; exact ⟨frozen h, rfl⟩
  inRange h := by rw [state]; exact images h
  clock _ := ⟨by rw [state]; rfl, words⟩
  clockInRange h := by rw [state]; exact h
  times := times_of_unclocked words
  statement _ := by rw [state]; rfl
  order _ n := by rw [state]; rfl
  bounded h := by rw [state]; exact ⟨h.moves, h.places, h.slots, h.errors⟩
  rest _ r := by rw [state]; exact allReported_congr rfl r

end Sys2Proof.Machine
end

section
/-!
The effects of the blocks' commands are lawful.
-/

namespace Sys2Proof.Machine

/-! ## The updates of one record -/

theorem Steady.putHolder (s : State) (h : HolderId) (x : Holder) : Steady s (s.putHolder h x) :=
  ⟨rfl, rfl, rfl, rfl, rfl, rfl, fun _ => rfl, fun b => ⟨b.moves, b.places, b.slots, b.errors⟩⟩

theorem Steady.putStock (s : State) (x : StockUnit) : Steady s (s.putStock x) :=
  ⟨rfl, rfl, rfl, rfl, rfl, rfl, fun _ => rfl, fun b => ⟨b.moves, b.places, b.slots, b.errors⟩⟩

theorem Steady.putValve (s : State) (v : ValveId) (x : Valve) : Steady s (s.putValve v x) :=
  ⟨rfl, rfl, rfl, rfl, rfl, rfl, fun _ => rfl, fun b => ⟨b.moves, b.places, b.slots, b.errors⟩⟩

theorem Steady.putSelector (s : State) (x : Selector) : Steady s (s.putSelector x) :=
  ⟨rfl, rfl, rfl, rfl, rfl, rfl, fun _ => rfl, fun b => ⟨b.moves, b.places, b.slots, b.errors⟩⟩

theorem Steady.putChannel (s : State) (c : ChannelId) (x : Channel) : Steady s (s.putChannel c x) :=
  ⟨rfl, rfl, rfl, rfl, rfl, rfl, fun _ => rfl, fun b => ⟨b.moves, b.places, b.slots, b.errors⟩⟩

theorem Steady.putDistrict (s : State) (d : DistrictId) (x : District) : Steady s (s.putDistrict d x) :=
  ⟨rfl, rfl, rfl, rfl, rfl, rfl, fun _ => rfl, fun b => ⟨b.moves, b.places, b.slots, b.errors⟩⟩

theorem Steady.putHalf (s : State) (i : HalfId) (x : Half) : Steady s (s.putHalf i x) :=
  ⟨rfl, rfl, rfl, rfl, rfl, rfl, fun _ => rfl, fun b => ⟨b.moves, b.places, b.slots, b.errors⟩⟩

theorem Steady.putValves {s : State} {x : ValveUnit} (h : x.queue.length ≤ s.valves.queue.length) :
    Steady s (s.putValves x) :=
  ⟨rfl, rfl, rfl, rfl, rfl, rfl, fun _ => rfl, fun b => ⟨Nat.le_trans h b.moves, b.places, b.slots, b.errors⟩⟩

theorem Steady.putAccounts {s : State} {x : AccountUnit} (statement : x.statement = s.accounts.statement)
    (book : x.book.length = s.accounts.book.length) : Steady s (s.putAccounts x) :=
  ⟨rfl, rfl, rfl, rfl, rfl, statement, fun _ => rfl, fun b => ⟨b.moves, b.places, book ▸ b.slots, b.errors⟩⟩

theorem Steady.foldl {α : Type} {f : State → α → State} (r : ∀ t x, Steady t (f t x)) (l : List α) (s : State) :
    Steady s (l.foldl f s) := by
  induction l generalizing s with
  | nil => exact .refl s
  | cons x l ih => exact (r s x).trans (ih _)

theorem Quiet.steady {s : State} {e : Effect} (q : Quiet s e) (b : e.1.backlog = s.backlog) : Steady s e.1 :=
  q.kept.toKept0.steady b

section
variable {i : Instr}

/-! ## The valve unit -/

theorem moveRequest_channels (r : Requester) (v : ValveId) (t : Limit) (s : State) :
    (moveRequest r v t s).2.1.channels = s.channels := by
  obtain ⟨x, h⟩ := moveRequest_valves r v t s
  rw [h, State.channels_putValves]

theorem moveRequest_lawful (r : Requester) (v : ValveId) (t : Limit) (s : State) :
    Lawful i s (moveRequest r v t s).2 :=
  .quiet (moveRequest_quiet r v t s) (aside_moveRequest r v t s).1 fun _ => moveRequest_channels r v t s

theorem recordSwitch_steady (v : ValveId) (which : Limit) (made : Bool) (s : State) :
    Steady s (recordSwitch v which made s) := by
  cases which <;> exact .putValve s v _

theorem beginReport_steady (s : State) : Steady s (beginReport s).1 :=
  (beginReport_quiet s).steady (aside_beginReport s).1

theorem unclocked_append {l m : List Act} :
    (l ++ m).all Act.unclocked = true ↔ l.all Act.unclocked = true ∧ m.all Act.unclocked = true := by
  rw [List.all_append, Bool.and_eq_true]

/-- The end of a drive is always told. -/
theorem driveEndWords_ne_nil (d : Drive) (failed : Bool) (s : State) : driveEndWords d failed s ≠ [] := by
  simp [driveEndWords]

theorem completeDrive_lawful (d : Drive) (s : State) : Lawful i s (completeDrive d s) :=
  .quiet (completeDrive_quiet d s) (aside_completeDrive d s).1 fun h => absurd h (driveEndWords_ne_nil d false _)

theorem failDrive_lawful (d : Drive) (s : State) : Lawful i s (failDrive d s) :=
  .steady ((Steady.putValve s d.valve _).trans (.putValves (Nat.le_refl _))) (unclocked_of_inner (failDrive_inner d s))
    fun h => absurd h (driveEndWords_ne_nil d true _)

theorem disagreeFault_lawful (v : ValveId) (which : Limit) (s : State) : Lawful i s (disagreeFault v which s) :=
  .steady (((Steady.putValve s v _).trans (.putValves (dropEntry_length _ _))).trans (beginReport_steady _))
    (unclocked_of_inner (disagreeFault_inner v which s)) fun h => absurd h (by simp [disagreeFault])

/-- An effect on a state that the command has already changed in nothing owned. -/
theorem Lawful.after {s t : State} {e : Effect} (k : Steady s t) (channels : t.channels = s.channels)
    (l : Lawful i t e) : Lawful i s e where
  pending := l.pending.trans k.pending
  backlog := l.backlog.trans k.backlog
  settings h := (l.settings h).trans k.settings
  locked h := by
    have := l.locked (by rw [k.control]; exact h)
    rwa [k.settings] at this
  inRange h := l.inRange (settingsInRange_congr k.settings k.control h)
  clock h := ⟨(l.clock h).1.trans k.clock, (l.clock h).2⟩
  clockInRange h := l.clockInRange (by rw [k.clock]; exact h)
  times := l.times
  statement h := (l.statement h).trans k.statement
  order h n := (l.order h n).trans (k.order n)
  bounded := l.bounded ∘ k.bounded
  rest h r := l.rest h (allReported_congr channels r)

theorem recordSwitch_channels (v : ValveId) (which : Limit) (made : Bool) (s : State) :
    (recordSwitch v which made s).channels = s.channels := by
  cases which <;> rfl

theorem switchMade_lawful (v : ValveId) (which : Limit) (s : State) : Lawful i s (switchMade v which s) := by
  simp only [switchMade]
  refine .after (recordSwitch_steady v which true s) (recordSwitch_channels v which true s) ?_
  split
  · exact .nil _
  split
  · split
    · exact completeDrive_lawful _ _
    · exact .nil _
  split
  · exact .still (.putValve _ v _) rfl
  split
  · exact .nil _
  · exact disagreeFault_lawful v which _

theorem travelExpired_lawful (s : State) : Lawful i s (travelExpired s) := by
  unfold travelExpired
  split
  · exact failDrive_lawful _ s
  · exact .nil s

theorem beginReport_channels (s : State) : (beginReport s).1.channels = s.channels := by
  unfold beginReport
  split <;> rfl

theorem clearFault_lawful (v : ValveId) (s : State) : Lawful i s (clearFault v s) := by
  have words := unclocked_of_inner (clearFault_inner v s)
  revert words
  simp only [clearFault]
  split
  · exact fun _ => .nil s
  split
  · exact fun _ => .still (.putValve s v _) rfl
  · exact fun words => .steady ((Steady.putValve s v _).trans (beginReport_steady _)) words
      fun _ => allReported_congr (beginReport_channels _)

/-! ## The stock unit -/

theorem releaseIsolation_steady (h : HolderId) (s : State) : Steady s (releaseIsolation h s).1 :=
  (releaseIsolation_quiet h s).steady (aside_releaseIsolation h s).1

theorem enterHolderFault_lawful (h : HolderId) (cause : HolderFault) (s : State) :
    Lawful i s (enterHolderFault h cause s) := by
  have words := unclocked_of_inner (enterHolderFault_inner h cause s)
  revert words
  simp only [enterHolderFault]
  split
  · exact fun _ => .nil s
  · refine fun words => .steady ?_ words fun h => absurd h (by simp)
    split
    · exact (Steady.putHolder s h _).trans (releaseIsolation_steady h _)
    · exact .putHolder s h _

theorem setCondition_steady (s : State) : Steady s (setCondition s) :=
  (setCondition_kept s).toKept0.steady (aside_setCondition s).1

theorem takeReading_lawful (h : HolderId) (content : Nat) (s : State) : Lawful i s (takeReading h content s) := by
  have words := unclocked_of_inner (takeReading_inner h content s)
  revert words
  simp only [takeReading]
  split
  · exact fun _ => .nil s
  split
  · exact fun _ => enterHolderFault_lawful h _ s
  · exact fun words => .steady ((Steady.putHolder s h _).trans (setCondition_steady _)) words
      fun h => absurd h (by simp)

theorem silenceExpired_lawful (h : HolderId) (s : State) : Lawful i s (silenceExpired h s) := by
  simp only [silenceExpired]
  split
  · exact enterHolderFault_lawful h _ s
  · exact .nil s

theorem claimRequest_steady (k : Claim) (vs : List ValveId) (s : State) : Steady s (claimRequest k vs s).2.1 :=
  (claimRequest_quiet k vs s).steady (aside_claimRequest k vs s).1

theorem isolate_lawful (h : HolderId) (s : State) : Lawful i s (isolate h s) := by
  have freed := unclocked_of_inner (claimRequest_quiet (.isolation h) [inletValve h] s).inner
  have changed (x : Holder) := (claimRequest_steady (.isolation h) [inletValve h] s).trans (.putHolder _ h x)
  simp only [isolate]
  split
  · exact .steady (changed _) (unclocked_append.mpr ⟨freed, rfl⟩) fun h => absurd h (by simp)
  · exact .steady (changed _) (unclocked_append.mpr ⟨freed, rfl⟩) fun h => absurd h (by simp)

theorem returnToService_lawful (h : HolderId) (s : State) : Lawful i s (returnToService h s) :=
  .steady ((Steady.putHolder s h _).trans (releaseIsolation_steady h _))
    (unclocked_append.mpr ⟨unclocked_of_inner (releaseIsolation_quiet h _).inner, rfl⟩)
    fun h => absurd h (by simp [returnToService])

theorem clearHolder_lawful (h : HolderId) (s : State) : Lawful i s (clearHolder h s) :=
  .steady (.putHolder s h _) rfl fun h => absurd h (by simp [clearHolder])

theorem endRelease_lawful {notices : List Act} (words : notices.all Act.unclocked = true) (s : State) :
    Lawful i s (endRelease notices s) :=
  .steady (.putStock s _) (unclocked_append.mpr ⟨words, rfl⟩) fun h => absurd h (by simp [endRelease])

theorem releaseExpired_lawful (s : State) : Lawful i s (releaseExpired s) := by
  unfold releaseExpired
  split
  · exact endRelease_lawful rfl s
  · exact .nil s

theorem dwellExpired_lawful (s : State) : Lawful i s (dwellExpired s) := by
  unfold dwellExpired
  split
  · exact .steady (.putSelector s _) rfl fun h => absurd h (by simp)
  · exact .nil s

/-! ## The channel unit -/

/-- An order that ends always asks its closes. -/
theorem endOrder_of_no_words {c : ChannelId} {k : OrderStatus} {cause : EndCause} {s : State}
    (h : (endOrder c k cause s).2 = []) : (endOrder c k cause s).1 = s := by
  revert h
  unfold endOrder
  split
  · exact fun _ => rfl
  simp only
  split
  · exact fun h => absurd h (by simp)
  · exact fun _ => rfl

theorem endOrder_lawful (c : ChannelId) (k : OrderStatus) (cause : EndCause) (s : State) :
    Lawful i s (endOrder c k cause s) :=
  .quiet (endOrder_quiet c k cause s) (aside_endOrder c k cause s).1 fun h => by rw [endOrder_of_no_words h]

theorem pathExpired_lawful (c : ChannelId) (s : State) : Lawful i s (pathExpired c s) := by
  unfold pathExpired
  repeat' split
  · exact endOrder_lawful c _ _ s
  · exact .nil s
  · exact .nil s

theorem limitExpired_lawful (c : ChannelId) (s : State) : Lawful i s (limitExpired c s) := by
  unfold limitExpired
  repeat' split
  · exact endOrder_lawful c _ _ s
  · exact .nil s
  · exact .nil s

theorem waitExpired_lawful (c : ChannelId) (s : State) : Lawful i s (waitExpired c s) := by
  unfold waitExpired
  repeat' split
  · exact endOrder_lawful c _ _ s
  · exact .nil s
  · exact .nil s

theorem takeHold_lawful (c : ChannelId) (s : State) : Lawful i s (takeHold c s) := by
  refine .quiet (takeHold_quiet c s) (aside_takeHold c s).1 ?_
  unfold takeHold
  split
  · exact fun _ => rfl
  · exact fun h => absurd h (by simp)

theorem takeResume_lawful (c : ChannelId) (s : State) : Lawful i s (takeResume c s) := by
  refine .quiet (takeResume_quiet c s) (aside_takeResume c s).1 ?_
  unfold takeResume
  split
  · exact fun _ => rfl
  · exact fun h => absurd h (by simp)

/-- A channel changed that is not left with another current slot than it had, nor with less reported. -/
theorem unreported_putChannel {s : State} {c : ChannelId} {x : Channel}
    (h : x.current = none ∨ x.current = (s.channel c).current ∧ x.reported = (s.channel c).reported)
    (r : s.allReported) : (s.putChannel c x).allReported := by
  intro d
  by_cases e : c = d
  · subst e
    have rd := r c
    simp only [State.unreported, State.currentSlot, State.channel_putChannel] at rd ⊢
    rcases h with h | ⟨hc, hr⟩
    · simp [h]
    · simpa [hc, hr] using rd
  · have rd := r d
    simp only [State.unreported, State.currentSlot, State.channel_putChannel, if_neg e] at rd ⊢
    exact rd

theorem putChannel_lawful {s : State} {c : ChannelId} {x : Channel}
    (h : x.current = none ∨ x.current = (s.channel c).current ∧ x.reported = (s.channel c).reported) :
    Lawful i s (s.putChannel c x, []) := .steady (.putChannel s c x) rfl fun _ => unreported_putChannel h

theorem stopAfter_lawful (c : ChannelId) (s : State) : Lawful i s (stopAfter c s).1 := by
  simp only [stopAfter]
  split
  · exact .nil s
  · exact putChannel_lawful (.inl rfl)
  · exact .nil s
  · exact putChannel_lawful (.inr ⟨rfl, rfl⟩)
  · exact putChannel_lawful (.inr ⟨rfl, rfl⟩)

/-- An order ended after a change of its channel's state alone. -/
theorem endOrder_putChannel_lawful {s : State} {c : ChannelId} {x : Channel} (k : OrderStatus) (cause : EndCause)
    (hc : x.current = (s.channel c).current) (hr : x.reported = (s.channel c).reported) :
    Lawful i s (endOrder c k cause (s.putChannel c x)) := by
  have q := endOrder_quiet c k cause (s.putChannel c x)
  refine .steady ((Steady.putChannel s c x).trans (q.steady (aside_endOrder c k cause _).1))
    (unclocked_of_inner q.inner) fun h r => ?_
  rw [endOrder_of_no_words h]
  exact unreported_putChannel (.inr ⟨hc, hr⟩) r

theorem stopAtOnce_lawful (c : ChannelId) (s : State) : Lawful i s (stopAtOnce c s).1 := by
  simp only [stopAtOnce]
  split
  · exact .nil s
  · exact putChannel_lawful (.inl rfl)
  · exact .nil s
  · exact endOrder_putChannel_lawful _ _ rfl rfl
  · exact endOrder_putChannel_lawful _ _ rfl rfl

/-! ## The district unit -/

theorem State.outletOf_congr {s t : State} (h : t.settings = s.settings) (d : DistrictId) :
    t.outletOf d = s.outletOf d := by
  rw [State.outletOf, State.outletOf, h]

theorem loadOutput_channels (d : DistrictId) (s : State) : (loadOutput d s).channels = s.channels := by
  unfold loadOutput
  split <;> rfl

theorem setDistrictState_channels (d : DistrictId) (k : DistrictState) (s : State) :
    (setDistrictState d k s).channels = s.channels := loadOutput_channels _ _

theorem findSetpoint_channels (d : DistrictId) (s : State) : (findSetpoint d s).channels = s.channels := by
  simp only [findSetpoint]
  split
  · split
    · exact loadOutput_channels _ _
    · rfl
  · rfl

theorem releaseClaims_channels (k : Claim) (vs : List ValveId) (s : State) :
    (releaseClaims k vs s).1.channels = s.channels := by
  simp only [releaseClaims]
  split
  · rfl
  · exact keeps_foldl State.channels (fun t v => State.channels_putClaim t v .unclaimed) _ s

theorem beginMove_lawful {d : DistrictId} {k : DistrictState} {freed : List Act} (h : freed.all Act.inner = true)
    {s t : State} (before : Steady s t) : Lawful i s (beginMove d k freed t).2 :=
  .steady (before.trans ((beginMove_quiet d k h t).steady (aside_beginMove d k freed t).1))
    (unclocked_of_inner (beginMove_quiet d k h t).inner) fun h => absurd h (by simp [beginMove])

theorem openDistrict_lawful (d : DistrictId) (p : OutletId) (s : State) : Lawful i s (openDistrict d p s).2 := by
  unfold openDistrict
  split
  iterate 5 exact .nil s
  · split
    · exact beginMove_lawful rfl (.refl s)
    · exact .nil s
  · have steady := claimRequest_steady (.district d) [districtValve p] s
    have inner := (claimRequest_quiet (.district d) [districtValve p] s).inner
    split
    next claimed => rw [claimed] at steady inner; exact beginMove_lawful inner steady
    iterate 3 exact .nil s

theorem enterShut_lawful (d : DistrictId) (s : State) : Lawful i s (enterShut d s) := by
  refine .quiet (enterShut_quiet d s) (aside_enterShut d s).1 ?_
  simp only [enterShut]
  split
  · exact fun h => absurd h (by simp)
  · exact fun _ => rfl

theorem shutDistrict_lawful (d : DistrictId) (s : State) : Lawful i s (shutDistrict d s).2 := by
  simp only [shutDistrict]
  split
  · exact .nil s
  split
  · exact .nil s
  · exact .nil s
  · exact enterShut_lawful d s
  iterate 4 exact beginMove_lawful rfl (.refl s)

theorem findSetpoint_steady (d : DistrictId) (s : State) : Steady s (findSetpoint d s) :=
  (findSetpoint_kept d s).toKept0.steady (backlog_findSetpoint d s)

theorem holdSetpoint_lawful (d : DistrictId) (held : Option Nat) (s : State) : Lawful i s (holdSetpoint d held s, []) :=
  .still ((Steady.putDistrict s d _).trans (findSetpoint_steady d _)) (findSetpoint_channels d _)

theorem qualified_channels (d : DistrictId) (side : Side) (sample setpoint : Nat) (s : State) :
    (qualified d side sample setpoint s).1.channels = s.channels := by
  unfold qualified
  split
  · simp only [enterWarn]
    split <;> rfl
  · exact setDistrictState_channels _ _ s
  · rfl

theorem judgeSample_channels (d : DistrictId) (value : Nat) (s : State) :
    (judgeSample d value s).1.channels = s.channels := by
  simp only [judgeSample]
  repeat' split
  all_goals first | rfl | exact qualified_channels _ _ _ _ _

theorem takeSample_lawful (p : OutletId) (value : Nat) (s : State) : Lawful i s (takeSample p value s) := by
  unfold takeSample
  split
  · exact .nil s
  · exact .after (.putDistrict s _ _) rfl
      (.quiet (judgeSample_quiet _ _ _) (aside_judgeSample _ _ _).1 fun _ => judgeSample_channels _ _ _)

theorem qualifyExpired_lawful (d : DistrictId) (s : State) : Lawful i s (qualifyExpired d s) := by
  refine .quiet (qualifyExpired_quiet d s) (aside_qualifyExpired d s).1 fun _ => ?_
  simp only [qualifyExpired]
  repeat' split
  all_goals first | rfl | exact qualified_channels _ _ _ _ _

theorem lockoutExpired_lawful (d : DistrictId) (s : State) : Lawful i s (lockoutExpired d s) := by
  refine .quiet (lockoutExpired_quiet d s) (aside_lockoutExpired d s).1 fun _ => ?_
  simp only [lockoutExpired]
  split <;> rfl

theorem repeatExpired_lawful (d : DistrictId) (s : State) : Lawful i s (repeatExpired d s) := by
  refine .quiet (repeatExpired_quiet d s) (aside_repeatExpired d s).1 fun _ => ?_
  simp only [repeatExpired]
  split <;> rfl

/-! ## The account unit -/

theorem countPulse_steady (k : MeterId) (weight : Nat) (s : State) : Steady s (countPulse k weight s) := by
  unfold countPulse
  split
  · exact .refl s
  · exact .putHalf s _ _

theorem countPulse_channels (k : MeterId) (weight : Nat) (s : State) :
    (countPulse k weight s).channels = s.channels := by
  unfold countPulse
  split <;> rfl

theorem contractPulse_steady (k : MeterId) (weight : Nat) (s : State) : Steady s (contractPulse k weight s).1 := by
  simp only [contractPulse]
  split
  · exact .refl s
  split
  · exact (Steady.putAccounts rfl rfl).trans (.putAccounts rfl rfl)
  · exact .putAccounts rfl rfl

theorem contractPulse_channels (k : MeterId) (weight : Nat) (s : State) :
    (contractPulse k weight s).1.channels = s.channels := by
  simp only [contractPulse]
  repeat' split
  all_goals rfl

theorem takePulse_lawful (k : MeterId) (s : State) : Lawful i s (takePulse k s) := by
  have words := unclocked_of_inner (takePulse_inner k s)
  revert words
  simp only [takePulse]
  split
  · exact fun _ => .nil s
  · exact fun words => .steady ((countPulse_steady k _ s).trans (contractPulse_steady k _ _)) words
      fun _ => allReported_congr ((contractPulse_channels k _ _).trans (countPulse_channels k _ s))

theorem putSlot_steady (s : State) (place : Nat) (x : Slot) : Steady s (s.putSlot place x) :=
  .putAccounts rfl List.length_set

theorem discrepancyWords_unclocked (was : Bool) (x : Slot) : (discrepancyWords was x).all Act.unclocked = true :=
  unclocked_of_inner (discrepancyWords_inner was x)

theorem amendSlot_lawful (place : Nat) (x : Slot) (columns : Vector Nat 12) (s : State) :
    Lawful i s (amendSlot place x columns s) := by
  refine .steady ((putSlot_steady s place _).trans (.putAccounts rfl rfl)) ?_ fun _ => allReported_congr rfl
  refine unclocked_append.mpr ⟨discrepancyWords_unclocked _ _, ?_⟩
  repeat' split
  all_goals rfl

end

end Sys2Proof.Machine
end

section
/-!
The setting requests are lawful: they keep the settings in range, and the locked ones once frozen (R198).
-/

namespace Sys2Proof.Machine

/-! ## The setting requests keep the settings in range, and what FREEZE locks (R15 to R198) -/

section
variable {i : Instr}

theorem vector_set_get {α : Type} {n : Nat} (v : Vector α n) (k j : Fin n) (x : α) :
    (v.set k.val x k.isLt)[j] = if k = j then x else v[j] := by
  simp only [Fin.getElem_fin, Vector.getElem_set, Fin.ext_iff]

/-- A vector with one entry replaced keeps what every entry has. -/
theorem forall_vector_set {α : Type} {n : Nat} {P : α → Prop} {v : Vector α n} {k : Fin n} {x : α} (new : P x)
    (old : ∀ j : Fin n, P v[j]) (j : Fin n) : P (v.set k.val x k.isLt)[j] := by
  rw [vector_set_get]
  split
  · exact new
  · exact old j

theorem field_lt (body : List Byte) (off len : Nat) : field body off len < 256 ^ len := by
  have bound : ∀ (l : List Byte) (n : Nat), l.foldl (fun n b => 256 * n + b.toNat) n < (n + 1) * 256 ^ l.length := by
    intro l
    induction l with
    | nil => intro n; simp
    | cons b l ih =>
      intro n
      have step := ih (256 * n + b.toNat)
      have small : 256 * n + b.toNat + 1 ≤ (n + 1) * 256 := by have := b.isLt; omega
      calc _ < (256 * n + b.toNat + 1) * 256 ^ l.length := step
        _ ≤ (n + 1) * 256 * 256 ^ l.length := Nat.mul_le_mul_right _ small
        _ = (n + 1) * 256 ^ (l.length + 1) := by rw [Nat.mul_assoc, Nat.pow_succ, Nat.mul_comm 256]
  have h := bound ((body.drop off).take len) 0
  have short : ((body.drop off).take len).length ≤ len := by rw [List.length_take]; exact Nat.min_le_left _ _
  calc field body off len < 256 ^ ((body.drop off).take len).length := by simpa [field, ofBytes] using h
    _ ≤ 256 ^ len := Nat.pow_le_pow_right (by omega) short

/-! ### SET HOLDER -/

theorem holderInRange_of_check {body : List Byte} {h : HolderId} {new : HolderSettings} {s : State}
    (read : holderSettingsOf body = some new) (passed : setHolderCheck h new s = .ok) : holderInRange new = true := by
  have limits : (if new.configured then holderSettingsOk new else marginOk new) = true := by
    refine Decidable.byContradiction fun bad => ?_
    simp only [setHolderCheck, Bool.eq_false_iff.mpr bad] at passed
    cases passed
  unfold holderInRange
  cases configured : new.configured with
  | true => simpa [configured] using limits
  | false =>
    have margin : marginOk new = true := by simpa [configured] using limits
    unfold holderSettingsOf at read
    split at read
    · cases read
    · cases read
      cases configured
    · cases read
      simp [margin]

theorem limits_of_check {h : HolderId} {new : HolderSettings} {s : State} (passed : setHolderCheck h new s = .ok)
    (frozen : s.control.frozen = true) : limitsChange (s.holderSettings h) new = false := by
  refine Decidable.byContradiction fun change => ?_
  revert passed
  simp only [setHolderCheck, frozen, eq_true_of_ne_false change, Bool.and_self, if_true]
  repeat' split
  all_goals nofun

/-- The limits of the holders stand where those of the one holder replaced do. -/
theorem locked_putHolderSettings {x : Settings} {h : HolderId} {new : HolderSettings}
    (same : limitsChange x.holders[h] new = false) :
    ({ x with holders := x.holders.set h.val new h.isLt } : Settings).locked = x.locked := by
  simp only [limitsChange, Bool.or_eq_false_iff, decide_eq_false_iff_not, Decidable.not_not] at same
  obtain ⟨⟨capacity, crown⟩, low⟩ := same
  have map : (x.holders.set h.val new h.isLt).map (fun y => (y.capacity, y.crownStop, y.lowStop))
      = x.holders.map fun y => (y.capacity, y.crownStop, y.lowStop) := by
    ext1 j hj
    simp only [Vector.getElem_map, Vector.getElem_set]
    split
    next e => subst e; simp only [capacity, crown, low]; rfl
    next => rfl
  simp only [Settings.locked, map]

theorem rejudgeGuards_steady (h : HolderId) (s : State) : Steady s (rejudgeGuards h s).1 := by
  simp only [rejudgeGuards]
  split
  · exact .refl s
  · exact .putHolder s h _

theorem rejudgeGuards_unclocked (h : HolderId) (s : State) : (rejudgeGuards h s).2.all Act.unclocked = true := by
  simp only [rejudgeGuards]
  split
  · rfl
  · refine unclocked_append.mpr ⟨unclocked_of_inner (guardWords_inner _ _ _ _), ?_⟩
    split <;> rfl

theorem rejudgeGuards_channels (h : HolderId) (s : State) : (rejudgeGuards h s).1.channels = s.channels := by
  simp only [rejudgeGuards]
  split <;> rfl

theorem storeHolder_lawful {h : HolderId} {new : HolderSettings} {s : State} {body : List Byte}
    (owner : i.requestCode ∈ settingCodes) (read : holderSettingsOf body = some new)
    (passed : setHolderCheck h new s = .ok) : Lawful i s (storeHolder h new s) := by
  have changed : ∃ t, (storeHolder h new s).1 = t ∧
      Steady (s.putSettings { s.settings with holders := s.settings.holders.set h.val new h.isLt }) t
      ∧ t.channels = s.channels ∧ (storeHolder h new s).2.all Act.unclocked = true := by
    refine ⟨_, rfl, ?_⟩
    simp only [storeHolder]
    split
    · split
      · exact ⟨rejudgeGuards_steady h _, rejudgeGuards_channels h _, rejudgeGuards_unclocked h _⟩
      · exact ⟨.refl _, rfl, rfl⟩
    split
    · exact ⟨.refl _, rfl, rfl⟩
    · split
      · exact ⟨(Steady.putValve _ _ _).trans (.putHolder _ h _), rfl, rfl⟩
      · exact ⟨.putHolder _ h _, rfl, rfl⟩
  obtain ⟨t, state, steady, channels, words⟩ := changed
  refine .store owner ?_ (fun frozen => locked_putHolderSettings (limits_of_check passed frozen))
    (state ▸ steady) words fun _ => allReported_congr (state ▸ channels)
  intro r
  have holders := forall_vector_set (P := fun y => holderInRange y = true) (k := h) (holderInRange_of_check read passed)
    r.holders
  exact { r with holders }

/-! ### SET LADDER -/

theorem judgeStock_channels (s : State) : (judgeStock s).1.channels = s.channels := by
  simp only [judgeStock, setCondition]
  split <;> rfl

theorem judgeStock_steady (s : State) : Steady s (judgeStock s).1 := (judgeStock_quiet s).steady (aside_judgeStock s).1

theorem storeLadder_lawful {body : List Byte} {s : State} (owner : i.requestCode ∈ settingCodes)
    (passed : setLadderCheck { critical := field body 0 2, reserve := field body 2 2, crown := field body 4 2 } s
      = .ok) :
    Lawful i s (storeLadder { critical := field body 0 2, reserve := field body 2 2, crown := field body 4 2 } s) := by
  have crown := field_lt body 4 2
  unfold setLadderCheck at passed
  split at passed
  · cases passed
  next ascend =>
    split at passed
    · cases passed
    next free =>
      rw [Decidable.not_not] at ascend
      refine .store (x := { s.settings with ladder := _ }) owner ?_ ?_ (judgeStock_steady _) ?_
        fun _ => allReported_congr (judgeStock_channels _)
      · intro r
        have ladder : ladderInRange
            { critical := field body 0 2, reserve := field body 2 2, crown := field body 4 2 } = true := by
          simp only [ladderInRange, Bool.and_eq_true, decide_eq_true_eq]
          exact ⟨ascend, by omega⟩
        exact { r with ladder }
      · intro frozen
        simp only [frozen, Bool.true_and, decide_eq_true_eq, Decidable.not_not] at free
        simp only [Settings.locked, free]
      · refine unclocked_append.mpr ⟨unclocked_of_inner (judgeStock_quiet _).inner, ?_⟩
        split <;> rfl

/-! ### The setting requests without further effect -/

/-- Settings replaced with nothing handed on. -/
theorem putSettings_lawful {s : State} {x : Settings} (owner : i.requestCode ∈ settingCodes)
    (inRange : s.settings.inRange → x.inRange) (locked : s.control.frozen = true → x.locked = s.settings.locked) :
    Lawful i s (s.putSettings x, []) :=
  .store owner inRange locked (.refl _) rfl fun _ => allReported_congr rfl

theorem storeEntry_lawful {e : EntryId} {x : SupplyEntry} {body : List Byte} (s : State)
    (owner : i.requestCode ∈ settingCodes) (read : supplyEntryOf body = some x) : Lawful i s (storeEntry e x s) := by
  refine .store (x := { s.settings with supply := s.settings.supply.set e.val x e.isLt }) owner
    (fun r => { r with supply := forall_vector_set (P := fun y => entryInRange y = true) ?_ r.supply }) (fun _ => rfl)
    (.refl _) ?_ fun _ => allReported_congr rfl
  · have low := field_lt body 2 2
    have high := field_lt body 4 2
    unfold supplyEntryOf at read
    split at read
    · cases read
      simp only [entryInRange, Bool.and_eq_true, decide_eq_true_eq]
      omega
    · cases read
  · simp only [storeEntry]
    split <;> rfl

theorem pair_get_put {α : Type} (p : Pair α) (c d : AB) (x : α) :
    (p.put c x).get d = if c = d then x else p.get d := by
  cases c <;> cases d <;> rfl

/-! ### The outlet map -/

theorem mapOf_distinct {body : List Byte} {new : OutletMap} (read : mapOf body = some new) :
    tableDistinct new.table = true := by
  simp only [mapOf] at read
  split at read
  · split at read
    next both => cases read; exact both.2
    next => cases read
  · cases read

theorem applyMap_quiet_words (old : OutletMap) (s : State) : (applyMap old s).2.all Act.unclocked = true := rfl

theorem storeMap_lawful {body : List Byte} {new : OutletMap} {s : State} (owner : i.requestCode ∈ settingCodes)
    (read : mapOf body = some new) (passed : setMapCheck new s = .ok) : Lawful i s (storeMap new s) := by
  have inRange (r : s.settings.inRange) : ({ s.settings with map := new } : Settings).inRange :=
    { r with map := mapOf_distinct read }
  have locked (frozen : s.control.frozen = true) :
      ({ s.settings with map := new } : Settings).locked = s.settings.locked := by
    unfold setMapCheck at passed
    split at passed
    · cases passed
    next free =>
      simp only [frozen, Bool.true_and, decide_eq_true_eq, Decidable.not_not] at free
      simp only [Settings.locked, free]
  simp only [storeMap]
  split
  · exact .store owner inRange locked ((applyMap_quiet _ _).steady (aside_applyMap _ _).1) rfl
      fun h => absurd h (by simp [applyMap])
  · exact putSettings_lawful owner inRange locked

/-! ### The districts -/

theorem putDistrictSettings_inRange {x : Settings} {d : DistrictId} {y : DistrictSettings}
    (new : districtSettingsOk y = true ∧ scheduleOk y.schedule = true) (r : x.inRange) :
    ({ x with districts := x.districts.set d.val y d.isLt } : Settings).inRange :=
  have districts := forall_vector_set (P := fun y => (districtSettingsOk y && scheduleOk y.schedule) = true) (k := d)
    (Bool.and_eq_true_iff.mpr new) r.districts
  { r with districts }

/-- A district's settings replaced, the setpoint in force found afresh or not. -/
theorem putDistrictSettings_lawful {s t : State} {d : DistrictId} {y : DistrictSettings}
    (owner : i.requestCode ∈ settingCodes)
    (new : s.settings.inRange → districtSettingsOk y = true ∧ scheduleOk y.schedule = true)
    (after : t = putDistrictSettings d y s ∨ t = findSetpoint d (putDistrictSettings d y s)) : Lawful i s (t, []) := by
  have inRange (r : s.settings.inRange) := putDistrictSettings_inRange (d := d) (new r) r
  rcases after with rfl | rfl
  · exact putSettings_lawful owner inRange fun _ => rfl
  · exact .store owner inRange (fun _ => rfl) (findSetpoint_steady d _) rfl
      fun _ => allReported_congr (findSetpoint_channels d _)

theorem districtSettingsOf_schedule {body : List Byte} {schedule : List SchedulePoint} {x : DistrictSettings}
    (read : districtSettingsOf body schedule = some x) : x.schedule = schedule := by
  unfold districtSettingsOf at read
  split at read <;> cases read
  rfl

/-! ### The contract -/

theorem recomputeTake_steady (s : State) : Steady s (recomputeTake s) := .putAccounts rfl rfl

theorem storeContract_lawful {source : Option SourceId} {body : List Byte} {s : State}
    (owner : i.requestCode ∈ settingCodes) (positive : field body 1 4 ≠ 0)
    (passed : setContractCheck source (field body 1 4) s = .ok) :
    Lawful i s (storeContract source (field body 1 4) s) := by
  have bound := field_lt body 1 4
  refine .store (x := { s.settings with source := source, cap := field body 1 4 }) owner
    (fun r => { r with cap := ⟨by simp only; omega, by simp only [Config.maxVolume]; omega⟩ }) ?_ ?_ ?_ fun _ => ?_
  · intro frozen
    unfold setContractCheck at passed
    split at passed
    · cases passed
    next free =>
      simp only [frozen, Bool.true_and, decide_eq_true_eq, Decidable.not_not] at free
      simp only [Settings.locked, free]
  · simp only [storeContract]
    split
    · exact .refl _
    · exact recomputeTake_steady _
  · simp only [storeContract]
    split <;> rfl
  · refine allReported_congr ?_
    simp only [storeContract]
    split <;> rfl

end

end Sys2Proof.Machine
end

section
/-!
The effects of the phase controller, the clock unit, the orders, the accounts and the port are lawful.
-/

namespace Sys2Proof.Machine

section
variable {i : Instr}

/-! ## The phase controller (11) -/

theorem nextGeneration_lt (newest : Option (Bank × Nat)) : nextGeneration newest < 65536 := by
  unfold nextGeneration
  split
  · exact Nat.mod_lt _ (by omega)
  · omega

/-- A bank filled with an image in range, or emptied. -/
theorem putBank_inRange {s : State} (h : s.settingsInRange) {x : Option StoredImage}
    (image : ∀ y, x = some y → y.inRange)
    (b : Bank) : (s.putControl (s.control.putBank b x)).settingsInRange := by
  cases b with
  | one => exact ⟨h.working, image, h.bank2, h.write, h.newest⟩
  | two => exact ⟨h.working, h.bank1, image, h.write, h.newest⟩

@[simp] theorem frozen_putBank (x : PhaseUnit) (b : Bank) (y : Option StoredImage) :
    (x.putBank b y).frozen = x.frozen := by
  cases b <;> rfl

theorem beginWrite_lawful (s : State) : Lawful i s (beginWrite s, []) := by
  refine .control (x := { s.control.putBank (writeBank s.control.newest) none with write := _ }) ?_ ?_ rfl rfl
  · exact fun frozen => (frozen_putBank _ _ _).trans frozen
  · intro h
    obtain ⟨working, bank1, bank2, _, newest⟩ := putBank_inRange h (x := none) nofun (writeBank s.control.newest)
    exact ⟨working, bank1, bank2, fun w e => by cases e; exact ⟨h.working, nextGeneration_lt _⟩, newest⟩

theorem failWrite_lawful (w : StoreWrite) (cause : SaveFailure) (s : State) : Lawful i s (failWrite w cause s) := by
  refine .control ?_ ?_ rfl rfl
  · exact fun frozen => (frozen_putBank _ _ _).trans frozen
  · intro h
    obtain ⟨working, bank1, bank2, _, newest⟩ := putBank_inRange h (x := none) nofun w.bank
    exact ⟨working, bank1, bank2, nofun, newest⟩

theorem endWrite_lawful (result : WriteEnd) (s : State) : Lawful i s (endWrite result s) := by
  unfold endWrite
  split
  · exact .nil s
  next w written =>
    split
    · refine .control ?_ ?_ rfl rfl
      · exact fun frozen => (frozen_putBank _ _ _).trans frozen
      · intro h
        have image := h.write w written
        obtain ⟨working, bank1, bank2, _, _⟩ :=
          putBank_inRange h (x := some w.stored) (fun y e => by cases e; exact image) w.bank
        exact ⟨working, bank1, bank2, nofun, fun x e => by cases e; exact image.2⟩
    · exact failWrite_lawful w _ s
    · split
      · exact failWrite_lawful w _ s
      · exact .nil s

/-- START and the yard stop line change the phase controller's record in neither frozen nor the store. -/
theorem putControl_lawful {s : State} {x : PhaseUnit} {l : List Act} (frozen : x.frozen = s.control.frozen)
    (bank1 : x.bank1 = s.control.bank1) (bank2 : x.bank2 = s.control.bank2) (write : x.write = s.control.write)
    (newest : x.newest = s.control.newest) (words : l.all Act.unclocked = true) : Lawful i s (s.putControl x, l) :=
  .control (fun h => frozen.trans h)
    (fun h => ⟨h.working, fun y e => h.bank1 y (bank1 ▸ e), fun y e => h.bank2 y (bank2 ▸ e),
      fun y e => h.write y (write ▸ e), fun y e => h.newest y (newest ▸ e)⟩) rfl words

theorem startPart_lawful (s : State) : Lawful i s (startPart s) := putControl_lawful rfl rfl rfl rfl rfl rfl

theorem freeze_lawful (s : State) : Lawful i s (s.putControl { s.control with frozen := true }, []) :=
  .control (x := { s.control with frozen := true }) (fun _ => rfl)
    (fun h => ⟨h.working, h.bank1, h.bank2, h.write, h.newest⟩) rfl rfl

theorem stopStockUnit_steady (s : State) : Steady s (stopStockUnit s) := by
  unfold stopStockUnit
  refine (Steady.foldl (fun t h => ?_) allHolders s).trans (.putStock _ _)
  split
  · exact .putValve t _ _
  · exact .refl t

theorem stopStockUnit_channels (s : State) : (stopStockUnit s).channels = s.channels := by
  unfold stopStockUnit
  rw [State.channels_putStock]
  refine keeps_foldl State.channels (fun t h => ?_) allHolders s
  split <;> rfl

theorem stopDistricts_steady (s : State) : Steady s (stopDistricts s) :=
  ⟨rfl, rfl, rfl, rfl, rfl, rfl, fun _ => rfl, fun b => ⟨b.moves, b.places, b.slots, b.errors⟩⟩

theorem stopValveUnit_steady (s : State) : Steady s (stopValveUnit s) := by
  unfold stopValveUnit
  exact .putValves (Nat.le_refl _)

/-- The phase and the clock as STOP leaves them. -/
def stoppedClock (s : State) : State :=
  (s.putControl { s.control with phase := .setup }).putClock { s.clock with minuteOwed := false, boundaryOwed := none }

@[simp] theorem channels_stopDistricts (s : State) : (stopDistricts s).channels = s.channels := rfl
@[simp] theorem channels_stopValveUnit (s : State) : (stopValveUnit s).channels = s.channels := rfl

/-- STOP, with the phase and the clock done first. -/
theorem stopPart_eq (s : State) :
    stopPart s = stopDistricts ((stopStockUnit (stopValveUnit (stoppedClock s))).putSelector
    { Selector.atReset with lastDecode := s.selector.lastDecode }) := rfl

/-- STOP after the phase and the clock: the units' own records alone. -/
theorem stopPart_steady (s : State) : Steady (stoppedClock s) (stopPart s) := by
  rw [stopPart_eq]
  have valves := stopValveUnit_steady (stoppedClock s)
  have stock := stopStockUnit_steady (stopValveUnit (stoppedClock s))
  have selector := Steady.putSelector (stopStockUnit (stopValveUnit (stoppedClock s)))
    { Selector.atReset with lastDecode := s.selector.lastDecode }
  exact ((valves.trans stock).trans selector).trans (stopDistricts_steady _)

theorem stopPart_channels (s : State) : (stopPart s).channels = s.channels := by
  rw [stopPart_eq, channels_stopDistricts, State.channels_putSelector, stopStockUnit_channels, channels_stopValveUnit]
  rfl

theorem stopPart_lawful (s : State) (owner : movesClock i) : Lawful i s (stopPart s, []) := by
  have k := stopPart_steady s
  have channels := stopPart_channels s
  generalize stopPart s = t at k channels ⊢
  exact
    { pending := k.pending
      backlog := k.backlog
      settings := fun _ => k.settings
      locked := fun h => ⟨by rw [k.control]; exact h, by rw [k.settings]; rfl⟩
      inRange := fun h => settingsInRange_congr k.settings k.control ⟨h.working, h.bank1, h.bank2, h.write, h.newest⟩
      clock := fun h => absurd owner h
      clockInRange := fun h => by rw [k.clock]; exact ⟨h.day, h.minute, h.second, h.start⟩
      times := fun _ mem => absurd mem List.not_mem_nil
      statement := fun _ => k.statement
      order := fun _ => k.order
      bounded := fun h => k.bounded ⟨h.moves, h.places, h.slots, h.errors⟩
      rest := fun _ => allReported_congr channels }

/-! ## The clock unit (01) -/

/-- A hand-on of the clock unit: the clock stays at its time, with one thing less owed. -/
theorem handOn_lawful {s : State} {e : Effect} (owner : movesClock i)
    (change : e = (s, []) ∨ ∃ k, k.day = s.clock.day ∧ k.minute = s.clock.minute ∧ k.second = s.clock.second ∧
      k.dayStartMinute = s.clock.dayStartMinute ∧ e.1 = s.putClock k ∧ e.2 ≠ [] ∧ e.2.all Act.unclocked = true) :
    Lawful i s e := by
  rcases change with rfl | ⟨k, day, minute, second, start, state, some_word, words⟩
  · exact .nil s
  · exact
      { pending := by rw [state]; rfl
        backlog := by rw [state]; rfl
        settings := fun _ => by rw [state]; rfl
        locked := fun h => by rw [state]; exact ⟨h, rfl⟩
        inRange := fun h => by rw [state]; exact ⟨h.working, h.bank1, h.bank2, h.write, h.newest⟩
        clock := fun h => absurd owner h
        clockInRange := fun h => by
          rw [state]
          exact ⟨day ▸ h.day, minute ▸ h.minute, second ▸ h.second, start ▸ h.start⟩
        times := times_of_unclocked words
        statement := fun _ => by rw [state]; rfl
        order := fun _ n => by rw [state]; rfl
        bounded := fun h => by rw [state]; exact ⟨h.moves, h.places, h.slots, h.errors⟩
        rest := fun h => absurd h some_word }

theorem handMinute_lawful (s : State) (owner : movesClock i) : Lawful i s (handMinute s) := by
  refine handOn_lawful owner ?_
  unfold handMinute
  split
  · exact .inr ⟨{ s.clock with minuteOwed := false }, rfl, rfl, rfl, rfl, rfl, by simp, rfl⟩
  · exact .inl rfl

theorem handBoundary_lawful (s : State) (owner : movesClock i) : Lawful i s (handBoundary s) := by
  refine handOn_lawful owner ?_
  unfold handBoundary
  split
  · split
    · exact .inr ⟨{ s.clock with boundaryOwed := none }, rfl, rfl, rfl, rfl, rfl, by simp, rfl⟩
    · exact .inl rfl
  · exact .inl rfl

/-- Words of the clock unit on the state as it stands. -/
theorem clockWords_lawful {s : State} {l : List Act} (owner : movesClock i) (some_word : l ≠ [])
    (times : ∀ a ∈ l, a.timeInRange) : Lawful i s (s, l) :=
  { Lawful.nil (i := i) s with
    clock := fun h => absurd owner h
    times := times
    rest := fun h => absurd h some_word }

theorem clock_inRange_of_check {body : List Byte} {s : State}
    (passed : setClockCheck (field body 0 2) (field body 2 2) (field body 4 1) (field body 5 2) s = .ok) :
    Act.timeInRange (.setClock (field body 0 2) (field body 2 2) (field body 4 1) (field body 5 2)) := by
  have fields : clockFieldsOk (field body 2 2) (field body 4 1) (field body 5 2) = true := by
    refine Decidable.byContradiction fun bad => ?_
    simp only [setClockCheck, Bool.eq_false_iff.mpr bad] at passed
    cases passed
  simp only [clockFieldsOk, Bool.and_eq_true, decide_eq_true_eq] at fields
  obtain ⟨⟨⟨minute, second⟩, multiple⟩, start⟩ := fields
  exact ⟨field_lt body 0 2, minute, second, multiple, start⟩

/-! ## The order table -/

/-- A slot written by the host leaves every TRANSFER reported where no channel has it current, or where what R82 looks
at in it stands. -/
theorem unreported_putOrder {s : State} {n : OrderId} {x : OrderSlot}
    (h : s.isCurrent n = false ∨ x.status = (s.order n).status ∧ x.order.kind = (s.order n).order.kind
      ∧ x.order.dest = (s.order n).order.dest) (r : s.allReported) : (s.putOrder n x).allReported := by
  intro c
  have rc := r c
  simp only [State.unreported, State.currentSlot, State.channel_putOrder_other] at rc ⊢
  cases current : (s.channel c).current with
  | none => rfl
  | some m =>
    simp only [current, Option.map_some, State.order_putOrder] at rc ⊢
    by_cases e : n = m
    · subst e
      rcases h with h | ⟨status, kind, dest⟩
      · simp only [State.isCurrent, State.currentOn, Bool.or_eq_false_iff, decide_eq_false_iff_not] at h
        cases c
        · exact absurd current h.1
        · exact absurd current h.2
      · simpa only [if_true, status, kind, dest] using rc
    · simpa only [if_neg e] using rc

theorem putOrder_lawful {s : State} {n : OrderId} {x : OrderSlot} (owner : i.requestCode ∈ [some 23, some 24, some 25])
    (h : s.isCurrent n = false ∨ x.status = (s.order n).status ∧ x.order.kind = (s.order n).order.kind
      ∧ x.order.dest = (s.order n).order.dest) : Lawful i s (s.putOrder n x, []) :=
  { Lawful.nil (i := i) s with
    inRange := fun h => ⟨h.working, h.bank1, h.bank2, h.write, h.newest⟩
    bounded := fun h => ⟨h.moves, h.places, h.slots, h.errors⟩
    order := fun other => absurd owner other
    rest := fun _ => unreported_putOrder h }

theorem closeDay_lawful (day : Nat) (s : State) (owner : i.requestCode = some 47) : Lawful i s (closeDay day s) where
  pending := rfl
  backlog := rfl
  settings _ := rfl
  locked h := ⟨h, rfl⟩
  inRange h := ⟨h.working, h.bank1, h.bank2, h.write, h.newest⟩
  clock _ := ⟨rfl, rfl⟩
  clockInRange h := h
  times := times_of_unclocked (l := [.postReady]) rfl
  statement other := absurd owner other
  order _ _ := rfl
  bounded h := ⟨h.moves, h.places, Nat.le_trans (List.length_filter_le _ _) h.slots, h.errors⟩
  rest h := absurd h (by simp [closeDay])

/-! ## The link port (10) -/

theorem Steady.putLink {s : State} {l : LinkPort} (queue : l.queue.length = s.link.queue.length)
    (errors : s.link.errors ≤ Config.countStop → l.errors ≤ Config.countStop) : Steady s (s.putLink l) :=
  ⟨rfl, rfl, rfl, rfl, rfl, rfl, fun _ => rfl, fun b => ⟨b.moves, queue ▸ b.places, b.slots, errors b.errors⟩⟩

theorem countUp_le (n : Nat) : countUp n ≤ Config.countStop := by
  unfold countUp
  split
  · assumption
  · exact Nat.le_refl _

theorem countError_steady (s : State) : Steady s (s.putLink s.link.countError) := .putLink rfl fun _ => countUp_le _

theorem refuseBusy_steady (s : State) (kind tag : Byte) : Steady s (s.putLink (s.link.refuseBusy kind tag)) := by
  unfold LinkPort.refuseBusy
  split
  · exact countError_steady s
  · exact .putLink rfl id

theorem composeReply_steady (s : State) (kind tag : Byte) (body : List Byte) :
    Steady s (s.putLink (s.link.composeReply kind tag body)) := by
  obtain ⟨_, errors, _, _, queue, _⟩ := LinkPort.composeReply_keeps s.link kind tag body
  exact .putLink queue fun h => Nat.le_trans (Nat.le_of_eq errors) h

theorem choose_steady {s : State} {l : LinkPort} (queue : l.queue.length ≤ s.link.queue.length)
    (errors : l.errors = s.link.errors) : Steady s (s.putLink l.choose) := by
  obtain ⟨_, sameErrors, _, _, _, sameQueue, _⟩ := LinkPort.choose_keeps l
  exact ⟨rfl, rfl, rfl, rfl, rfl, rfl, fun _ => rfl, fun b =>
    ⟨b.moves, Nat.le_trans (Nat.le_trans (Nat.le_of_eq sameQueue) queue) b.places, b.slots,
      Nat.le_trans (Nat.le_of_eq (sameErrors.trans errors)) b.errors⟩⟩

theorem frameGone_steady (s : State) : Steady s (s.putLink s.link.frameGone) := by
  unfold LinkPort.frameGone
  split
  · exact .refl s
  · exact choose_steady (Nat.le_refl _) rfl
  · exact choose_steady (Nat.le_refl _) rfl
  · exact choose_steady (Nat.le_refl _) rfl
  · exact choose_steady (by simp) rfl

/-! ## What a command comes to -/

/-- The three ways to a next state: a change with no word handed on, an event carried to its end, and a request with its
reply composed at the end of its event. -/
inductive Came (i : Instr) (s t : State) : Prop where
  | still (h : Lawful i s (t, []))
  | event (e : Effect) (h : Lawful i s e) (ht : t = settle e)
  | reply (e : Effect) (kind tag : Byte) (body : List Byte) (h : Lawful i s.inHand e)
      (ht : t = (settle e).putLink ((settle e).link.composeReply kind tag body))

theorem Came.of_event {s t : State} {e : Effect} (h : Lawful i s e) (ht : Machine.event e = .next t) : Came i s t := by
  cases ht
  exact .event e h rfl

theorem Came.of_link {s t : State} {l : LinkPort} (k : Steady s (s.putLink l))
    (ht : (.next (s.putLink l) : Host.Outcome State Fault Refusal) = .next t) : Came i s t := by
  cases ht
  exact .still (.still k rfl)

theorem Came.of_request {code : Nat} {tag : Byte} {owner : State → Taken} {s t : State}
    (h : Lawful i s.inHand (owner s.inHand).1) (ht : request code tag owner s = .next t) : Came i s t := by
  cases port : s.link.busy with
  | true =>
    rw [request_busy port] at ht
    exact .of_link (refuseBusy_steady s _ _) ht
  | false =>
    rw [request_free port] at ht
    cases ht
    exact .reply _ _ _ _ h rfl

theorem Lawful.sized {n : Nat} {body : List Byte} {owner : State → Taken} {s : State} (h : Lawful i s (owner s).1) :
    Lawful i s (sized n body owner s).1 := by
  unfold Machine.sized
  split
  · exact h
  · exact .nil s

theorem Came.of_sized {code n : Nat} {tag : Byte} {body : List Byte} {owner : State → Taken} {s t : State}
    (h : Lawful i s.inHand (owner s.inHand).1) (ht : request code tag (sized n body owner) s = .next t) : Came i s t :=
  .of_request h.sized ht

end

end Sys2Proof.Machine
end

section
/-!
Every command but power-on reset comes to its next state by a lawful effect.
-/

namespace Sys2Proof.Machine

/-! ## Every command, by its unit -/

section
variable {i : Instr}

/-- An owner that answers a refusal on one side of a check. -/
theorem lawful_ite {p : Prop} [Decidable p] {a b : Taken} {s : State} (ha : p → Lawful i s a.1)
    (hb : ¬p → Lawful i s b.1) :
    Lawful i s (if p then a else b).1 := by
  split
  · exact ha ‹_›
  · exact hb ‹_›

end

theorem execIdentify_came {tag : Byte} {body : List Byte} {s t : State}
    (ht : execIdentify tag body s = .next t) : Came (.identify tag body) s t := by
  refine .of_sized ?_ ht
  exact .nil _

theorem execYardStatus_came {tag : Byte} {body : List Byte} {s t : State}
    (ht : execYardStatus tag body s = .next t) : Came (.yardStatus tag body) s t := by
  refine .of_sized ?_ ht
  exact .nil _

theorem execStart_came {tag : Byte} {body : List Byte} {s t : State}
    (ht : execStart tag body s = .next t) : Came (.start tag body) s t := by
  refine .of_sized ?_ ht
  split
  · exact startPart_lawful _
  · exact .nil _

theorem execStop_came {tag : Byte} {body : List Byte} {s t : State}
    (ht : execStop tag body s = .next t) : Came (.stop tag body) s t := by
  refine .of_sized ?_ ht
  exact lawful_ite (fun _ => .nil _) fun _ => lawful_ite (fun _ => .nil _) fun _ =>
    stopPart_lawful _ (.inr (.inl rfl))

theorem execFreeze_came {tag : Byte} {body : List Byte} {s t : State}
    (ht : execFreeze tag body s = .next t) : Came (.freeze tag body) s t := by
  refine .of_sized ?_ ht
  exact freeze_lawful _

theorem execSaveSettings_came {tag : Byte} {body : List Byte} {s t : State}
    (ht : execSaveSettings tag body s = .next t) : Came (.saveSettings tag body) s t := by
  refine .of_sized ?_ ht
  exact lawful_ite (fun _ => .nil _) fun _ => beginWrite_lawful _

theorem execSetClock_came {tag : Byte} {body : List Byte} {s t : State}
    (ht : execSetClock tag body s = .next t) : Came (.setClock tag body) s t := by
  refine .of_sized ?_ ht
  simp only
  split
  next passed =>
    refine clockWords_lawful (.inl rfl) (by simp) ?_
    simp only [List.forall_mem_cons]
    exact ⟨True.intro, True.intro, clock_inRange_of_check passed, fun _ mem => absurd mem List.not_mem_nil⟩
  next => exact .nil _

theorem execSetHolder_came {tag : Byte} {body : List Byte} {s t : State}
    (ht : execSetHolder tag body s = .next t) : Came (.setHolder tag body) s t := by
  refine .of_sized ?_ ht
  split
  next read =>
    split
    next passed => exact storeHolder_lawful (by simp [Instr.requestCode, settingCodes]) read passed
    next => exact .nil _
  next => exact .nil _

theorem execReadHolder_came {tag : Byte} {body : List Byte} {s t : State}
    (ht : execReadHolder tag body s = .next t) : Came (.readHolder tag body) s t := by
  refine .of_sized ?_ ht
  split <;> exact .nil _

theorem execIsolateHolder_came {tag : Byte} {body : List Byte} {s t : State}
    (ht : execIsolateHolder tag body s = .next t) : Came (.isolateHolder tag body) s t := by
  refine .of_sized ?_ ht
  split
  · exact .nil _
  · split
    iterate 3 exact .nil _
    · split
      · exact isolate_lawful _ _
      · exact .nil _
    · exact .nil _

theorem execReturnHolder_came {tag : Byte} {body : List Byte} {s t : State}
    (ht : execReturnHolder tag body s = .next t) : Came (.returnHolder tag body) s t := by
  refine .of_sized ?_ ht
  split
  · exact .nil _
  · split
    iterate 3 exact .nil _
    · exact returnToService_lawful _ _
    · exact .nil _

theorem execClearHolderFault_came {tag : Byte} {body : List Byte} {s t : State}
    (ht : execClearHolderFault tag body s = .next t) : Came (.clearHolderFault tag body) s t := by
  refine .of_sized ?_ ht
  split
  · exact .nil _
  · split
    · exact clearHolder_lawful _ _
    iterate 2 exact .nil _

theorem execSetLadder_came {tag : Byte} {body : List Byte} {s t : State}
    (ht : execSetLadder tag body s = .next t) : Came (.setLadder tag body) s t := by
  refine .of_sized ?_ ht
  simp only
  split
  next passed => exact storeLadder_lawful (by simp [Instr.requestCode, settingCodes]) passed
  next => exact .nil _

theorem execReleaseReserve_came {tag : Byte} {body : List Byte} {s t : State}
    (ht : execReleaseReserve tag body s = .next t) : Came (.releaseReserve tag body) s t := by
  refine .of_sized ?_ ht
  refine lawful_ite (fun _ => .nil _) fun _ => lawful_ite (fun _ => .nil _) fun _ => ?_
  exact .steady (.putStock _ _) (by dsimp only; split <;> rfl) fun _ => allReported_congr rfl

theorem execWithdrawRelease_came {tag : Byte} {body : List Byte} {s t : State}
    (ht : execWithdrawRelease tag body s = .next t) : Came (.withdrawRelease tag body) s t := by
  refine .of_sized ?_ ht
  exact lawful_ite (fun _ => .nil _) fun _ => lawful_ite (fun _ => .nil _) fun _ =>
    endRelease_lawful rfl _

theorem execSetSupplyEntry_came {tag : Byte} {body : List Byte} {s t : State}
    (ht : execSetSupplyEntry tag body s = .next t) : Came (.setSupplyEntry tag body) s t := by
  refine .of_sized ?_ ht
  split
  next read => exact storeEntry_lawful _ (by simp [Instr.requestCode, settingCodes]) read
  next => exact .nil _

theorem execSetDwell_came {tag : Byte} {body : List Byte} {s t : State}
    (ht : execSetDwell tag body s = .next t) : Came (.setDwell tag body) s t := by
  refine .of_sized ?_ ht
  refine lawful_ite (fun _ => .nil _) fun inRange => ?_
  exact putSettings_lawful (by simp [Instr.requestCode, settingCodes])
    (fun r => { r with dwell := by simp only; omega }) fun _ => rfl

theorem execReadSendOut_came {tag : Byte} {body : List Byte} {s t : State}
    (ht : execReadSendOut tag body s = .next t) : Came (.readSendOut tag body) s t := by
  refine .of_sized ?_ ht
  exact .nil _

theorem execSetValve_came {tag : Byte} {body : List Byte} {s t : State}
    (ht : execSetValve tag body s = .next t) : Came (.setValve tag body) s t := by
  refine .of_sized ?_ ht
  simp only
  split
  next v _ =>
    refine lawful_ite (fun _ => .nil _) fun inRange => ?_
    refine putSettings_lawful (by simp [Instr.requestCode, settingCodes]) (fun r => ?_) fun _ => rfl
    have travel := forall_vector_set (P := fun n => 10 ≤ n ∧ n ≤ 600) (k := v) (x := field body 1 2) (by omega) r.travel
    exact { r with travel }
  next => exact .nil _

theorem execMoveValve_came {tag : Byte} {body : List Byte} {s t : State}
    (ht : execMoveValve tag body s = .next t) : Came (.moveValve tag body) s t := by
  refine .of_sized ?_ ht
  split
  · split
    · exact moveRequest_lawful _ _ _ _
    · exact .nil _
  · exact .nil _

theorem execReadValve_came {tag : Byte} {body : List Byte} {s t : State}
    (ht : execReadValve tag body s = .next t) : Came (.readValve tag body) s t := by
  refine .of_sized ?_ ht
  split <;> exact .nil _

theorem execClearValveFault_came {tag : Byte} {body : List Byte} {s t : State}
    (ht : execClearValveFault tag body s = .next t) : Came (.clearValveFault tag body) s t := by
  refine .of_sized ?_ ht
  split
  · exact clearFault_lawful _ _
  · exact .nil _

theorem execLoadOrder_came {tag : Byte} {body : List Byte} {s t : State}
    (ht : execLoadOrder tag body s = .next t) : Came (.loadOrder tag body) s t := by
  refine .of_sized ?_ ht
  refine lawful_ite (fun _ => .nil _) fun _ => ?_
  split
  · exact .nil _
  · refine lawful_ite (fun _ => .nil _) fun free => ?_
    split
    · exact .nil _
    · exact putOrder_lawful (by simp [Instr.requestCode]) (.inl (Bool.eq_false_iff.mpr free))

theorem execLinkOrder_came {tag : Byte} {body : List Byte} {s t : State}
    (ht : execLinkOrder tag body s = .next t) : Came (.linkOrder tag body) s t := by
  refine .of_sized ?_ ht
  split
  · exact lawful_ite (fun _ => .nil _) fun _ =>
      putOrder_lawful (by simp [Instr.requestCode]) (.inr ⟨rfl, rfl, rfl⟩)
  · exact .nil _

theorem execClearOrder_came {tag : Byte} {body : List Byte} {s t : State}
    (ht : execClearOrder tag body s = .next t) : Came (.clearOrder tag body) s t := by
  refine .of_sized ?_ ht
  split
  · exact lawful_ite (fun _ => .nil _) fun free =>
      putOrder_lawful (by simp [Instr.requestCode]) (.inl (Bool.eq_false_iff.mpr free))
  · exact .nil _

theorem execReadOrder_came {tag : Byte} {body : List Byte} {s t : State}
    (ht : execReadOrder tag body s = .next t) : Came (.readOrder tag body) s t := by
  refine .of_sized ?_ ht
  split <;> exact .nil _

theorem execStartChain_came {tag : Byte} {body : List Byte} {s t : State}
    (ht : execStartChain tag body s = .next t) : Came (.startChain tag body) s t := by
  refine .of_sized ?_ ht
  split
  · split
    · exact .steady (.putChannel _ _ _) rfl fun h => absurd h (List.cons_ne_nil _ _)
    · exact .nil _
  · exact .nil _

theorem execStopChannelAfter_came {tag : Byte} {body : List Byte} {s t : State}
    (ht : execStopChannelAfter tag body s = .next t) : Came (.stopChannelAfter tag body) s t := by
  refine .of_sized ?_ ht
  split
  · exact lawful_ite (fun _ => .nil _) fun _ => lawful_ite (fun _ => .nil _) fun _ => stopAfter_lawful _ _
  · exact .nil _

theorem execStopChannelAtOnce_came {tag : Byte} {body : List Byte} {s t : State}
    (ht : execStopChannelAtOnce tag body s = .next t) : Came (.stopChannelAtOnce tag body) s t := by
  refine .of_sized ?_ ht
  split
  · exact lawful_ite (fun _ => .nil _) fun _ => lawful_ite (fun _ => .nil _) fun _ => stopAtOnce_lawful _ _
  · exact .nil _

theorem execHold_came {tag : Byte} {body : List Byte} {s t : State}
    (ht : execHold tag body s = .next t) : Came (.hold tag body) s t := by
  refine .of_sized ?_ ht
  split
  · split
    · exact takeHold_lawful _ _
    · exact .nil _
  · exact .nil _

theorem execResume_came {tag : Byte} {body : List Byte} {s t : State}
    (ht : execResume tag body s = .next t) : Came (.resume tag body) s t := by
  refine .of_sized ?_ ht
  split
  · split
    · exact takeResume_lawful _ _
    · exact .nil _
  · exact .nil _

theorem execReadChannel_came {tag : Byte} {body : List Byte} {s t : State}
    (ht : execReadChannel tag body s = .next t) : Came (.readChannel tag body) s t := by
  refine .of_sized ?_ ht
  split <;> exact .nil _

theorem execSetChannel_came {tag : Byte} {body : List Byte} {s t : State}
    (ht : execSetChannel tag body s = .next t) : Came (.setChannel tag body) s t := by
  refine .of_sized ?_ ht
  simp only
  split
  next c _ =>
    refine lawful_ite (fun _ => .nil _) fun inRange => ?_
    refine putSettings_lawful (by simp [Instr.requestCode, settingCodes]) (fun r => ?_) fun _ => rfl
    have channels (d : AB) : channelInRange ((s.settings.channels.put c
        { pathTimeout := field body 1 2, holdThreshold := field body 3 4 }).get d) = true := by
      rw [pair_get_put]
      split
      · simp only [channelInRange, Bool.and_eq_true, decide_eq_true_eq]
        omega
      · exact r.channels d
    exact { r with channels }
  next => exact .nil _

theorem execSetOutletMap_came {tag : Byte} {body : List Byte} {s t : State}
    (ht : execSetOutletMap tag body s = .next t) : Came (.setOutletMap tag body) s t := by
  refine .of_sized ?_ ht
  split
  next read =>
    split
    next passed => exact storeMap_lawful (by simp [Instr.requestCode, settingCodes]) read passed
    next => exact .nil _
  next => exact .nil _

theorem execSetDistrict_came {tag : Byte} {body : List Byte} {s t : State}
    (ht : execSetDistrict tag body s = .next t) : Came (.setDistrict tag body) s t := by
  refine .of_sized ?_ ht
  split
  · exact .nil _
  next d _ =>
    split
    next x read =>
      refine lawful_ite (fun good => ?_) fun _ => .nil _
      refine putDistrictSettings_lawful (d := d) (y := x) (by simp [Instr.requestCode, settingCodes]) (fun r => ?_) ?_
      · rw [districtSettingsOf_schedule read]
        exact ⟨good, (Bool.and_eq_true_iff.mp (r.districts d)).2⟩
      · simp only [storeDistrict]
        split
        · exact .inr rfl
        · exact .inl rfl
    next => exact .nil _

theorem execSetSchedule_came {tag : Byte} {body : List Byte} {s t : State}
    (ht : execSetSchedule tag body s = .next t) : Came (.setSchedule tag body) s t := by
  refine .of_sized ?_ ht
  split
  next d _ =>
    refine lawful_ite (fun good => ?_) fun _ => .nil _
    exact putDistrictSettings_lawful (d := d)
      (y := { s.inHand.districtSettings d with schedule := pointsOf body (field body 1 1) })
      (by simp [Instr.requestCode, settingCodes]) (fun r => ⟨(Bool.and_eq_true_iff.mp (r.districts d)).1, good⟩)
      (.inr rfl)
  next => exact .nil _

theorem execOpenDistrict_came {tag : Byte} {body : List Byte} {s t : State}
    (ht : execOpenDistrict tag body s = .next t) : Came (.openDistrict tag body) s t := by
  refine .of_sized ?_ ht
  split
  · refine lawful_ite (fun _ => .nil _) fun _ => ?_
    split
    · exact .nil _
    · exact openDistrict_lawful _ _ _
  · exact .nil _

theorem execShutDistrict_came {tag : Byte} {body : List Byte} {s t : State}
    (ht : execShutDistrict tag body s = .next t) : Came (.shutDistrict tag body) s t := by
  refine .of_sized ?_ ht
  split
  · exact lawful_ite (fun _ => .nil _) fun _ => shutDistrict_lawful _ _
  · exact .nil _

theorem execHoldSetpoint_came {tag : Byte} {body : List Byte} {s t : State}
    (ht : execHoldSetpoint tag body s = .next t) : Came (.holdSetpoint tag body) s t := by
  refine .of_sized ?_ ht
  simp only
  split
  · exact lawful_ite (fun _ => holdSetpoint_lawful _ _ _) fun _ => .nil _
  · exact .nil _

theorem execReleaseSetpoint_came {tag : Byte} {body : List Byte} {s t : State}
    (ht : execReleaseSetpoint tag body s = .next t) : Came (.releaseSetpoint tag body) s t := by
  refine .of_sized ?_ ht
  split
  · exact holdSetpoint_lawful _ _ _
  · exact .nil _

theorem execReadDistrict_came {tag : Byte} {body : List Byte} {s t : State}
    (ht : execReadDistrict tag body s = .next t) : Came (.readDistrict tag body) s t := by
  refine .of_sized ?_ ht
  split <;> exact .nil _

theorem execSetMeter_came {tag : Byte} {body : List Byte} {s t : State}
    (ht : execSetMeter tag body s = .next t) : Came (.setMeter tag body) s t := by
  refine .of_sized ?_ ht
  simp only
  split
  next m _ =>
    refine lawful_ite (fun _ => .nil _) fun inRange => ?_
    refine putSettings_lawful (by simp [Instr.requestCode, settingCodes]) (fun r => ?_) fun _ => rfl
    have weights := forall_vector_set (P := fun n => 1 ≤ n ∧ n ≤ 10000) (k := m) (x := field body 1 2) (by omega)
      r.weights
    exact { r with weights }
  next => exact .nil _

theorem execSetContract_came {tag : Byte} {body : List Byte} {s t : State}
    (ht : execSetContract tag body s = .next t) : Came (.setContract tag body) s t := by
  refine .of_sized ?_ ht
  simp only
  split
  · refine lawful_ite (fun _ => .nil _) fun positive => ?_
    split
    next passed => exact storeContract_lawful (by simp [Instr.requestCode, settingCodes]) positive passed
    next => exact .nil _
  · exact .nil _

theorem execSetDiscrepancy_came {tag : Byte} {body : List Byte} {s t : State}
    (ht : execSetDiscrepancy tag body s = .next t) : Came (.setDiscrepancy tag body) s t := by
  refine .of_sized ?_ ht
  refine lawful_ite (fun _ => .nil _) fun inRange => ?_
  exact putSettings_lawful (by simp [Instr.requestCode, settingCodes])
    (fun r => { r with discrepancy := by simp only; omega }) fun _ => rfl

theorem execReadLive_came {tag : Byte} {body : List Byte} {s t : State}
    (ht : execReadLive tag body s = .next t) : Came (.readLive tag body) s t := by
  refine .of_sized ?_ ht
  exact .nil _

theorem execReadSlot_came {tag : Byte} {body : List Byte} {s t : State}
    (ht : execReadSlot tag body s = .next t) : Came (.readSlot tag body) s t := by
  refine .of_request ?_ ht
  split
  · exact .nil _
  · exact .nil _
  · split
    · exact .still (putSlot_steady _ _ _) rfl
    · exact .nil _

theorem execAmendSlot_came {tag : Byte} {body : List Byte} {s t : State}
    (ht : execAmendSlot tag body s = .next t) : Came (.amendSlot tag body) s t := by
  refine .of_sized ?_ ht
  split
  · exact .nil _
  · split
    · exact amendSlot_lawful _ _ _ _
    · exact .nil _

theorem execCloseDay_came {tag : Byte} {body : List Byte} {s t : State}
    (ht : execCloseDay tag body s = .next t) : Came (.closeDay tag body) s t := by
  refine .of_sized ?_ ht
  simp only
  split
  · exact closeDay_lawful _ _ rfl
  · exact .nil _

theorem execReadStatement_came {tag : Byte} {body : List Byte} {s t : State}
    (ht : execReadStatement tag body s = .next t) : Came (.readStatement tag body) s t := by
  refine .of_sized ?_ ht
  split <;> exact .nil _

theorem execUnknownKind_came {kind : Byte} {tag : Byte} {body : List Byte} {s t : State}
    (ht : execUnknownKind kind tag body s = .next t) : Came (.unknownKind kind tag body) s t := by
  simp only [execUnknownKind] at ht
  split at ht
  · exact .of_link (refuseBusy_steady s _ _) ht
  · exact .of_link (composeReply_steady s _ _ _) ht

theorem execFrameCheckFailed_came {s t : State}
    (ht : execFrameCheckFailed s = .next t) : Came .frameCheckFailed s t := by
  exact .of_link (countError_steady s) ht

theorem execFramingError_came {received : List Byte} {s t : State}
    (ht : execFramingError received s = .next t) : Came (.framingError received) s t := by
  simp only [execFramingError] at ht
  split at ht
  · cases ht
    exact .still (.nil s)
  · exact .of_link (countError_steady s) ht

theorem execLinkBreak_came {s t : State} (ht : execLinkBreak s = .next t) : Came .linkBreak s t := by
  exact .of_link (l := s.link.lineBroken) (choose_steady (Nat.le_refl _) rfl) ht

theorem execFrameSent_came {s t : State} (ht : execFrameSent s = .next t) : Came .frameSent s t := by
  exact .of_link (frameGone_steady s) ht

theorem execMeterPulse_came {m : MeterId} {s t : State}
    (ht : execMeterPulse m s = .next t) : Came (.meterPulse m) s t := by
  exact .of_event (takePulse_lawful m s) ht

theorem execLiftReading_came {h : HolderId} {content : BitVec 32} {s t : State}
    (ht : execLiftReading h content s = .next t) : Came (.liftReading h content) s t := by
  exact .of_event (takeReading_lawful h _ s) ht

theorem execPressureSample_came {p : OutletId} {value : Fin 1000} {s t : State}
    (ht : execPressureSample p value s = .next t) : Came (.pressureSample p value) s t := by
  exact .of_event (takeSample_lawful p _ s) ht

theorem execLimitSwitch_came {v : ValveId} {which : Limit} {s t : State}
    (ht : execLimitSwitch v which s = .next t) : Came (.limitSwitch v which) s t := by
  exact .of_event (switchMade_lawful v which s) ht

theorem execLimitSwitchBreak_came {v : ValveId} {which : Limit} {s t : State}
    (ht : execLimitSwitchBreak v which s = .next t) : Came (.limitSwitchBreak v which) s t := by
  cases ht
  exact .still (.still (recordSwitch_steady v which false s) (recordSwitch_channels v which false s))

theorem execYardStopAssertion_came {order : StopOrder} {s t : State}
    (ht : execYardStopAssertion order s = .next t) : Came (.yardStopAssertion order) s t := by
  refine .of_event (putControl_lawful (x := { s.control with stopAsserted := true }) rfl rfl rfl rfl rfl ?_) ht
  split
  · cases order <;> rfl
  · rfl

theorem execYardStopRelease_came {s t : State} (ht : execYardStopRelease s = .next t) : Came .yardStopRelease s t := by
  exact .of_event (putControl_lawful (x := { s.control with stopAsserted := false }) rfl rfl rfl rfl rfl rfl) ht

theorem execClockTick_came {s t : State} (ht : execClockTick s = .next t) : Came .clockTick s t := by
  refine .of_event (clockWords_lawful (.inr (.inr (.inl rfl))) (by simp) ?_) ht
  simp only [List.forall_mem_cons]
  exact ⟨True.intro, True.intro, True.intro, fun _ mem => absurd mem List.not_mem_nil⟩

theorem execChangeOfMinute_came {s t : State} (ht : execChangeOfMinute s = .next t) : Came .changeOfMinute s t := by
  exact .of_event (handMinute_lawful s (.inr (.inr (.inr (.inl rfl))))) ht

theorem execIntervalBoundary_came {s t : State}
    (ht : execIntervalBoundary s = .next t) : Came .intervalBoundary s t := by
  exact .of_event (handBoundary_lawful s (.inr (.inr (.inr (.inr rfl))))) ht

theorem execLiftSilenceExpiry_came {h : HolderId} {s t : State}
    (ht : execLiftSilenceExpiry h s = .next t) : Came (.liftSilenceExpiry h) s t := by
  exact .of_event (silenceExpired_lawful h s) ht

theorem execTravelTimerExpiry_came {s t : State}
    (ht : execTravelTimerExpiry s = .next t) : Came .travelTimerExpiry s t := by
  exact .of_event (travelExpired_lawful s) ht

theorem execDwellExpiry_came {s t : State} (ht : execDwellExpiry s = .next t) : Came .dwellExpiry s t := by
  exact .of_event (dwellExpired_lawful s) ht

theorem execReleaseExpired_came {s t : State} (ht : execReleaseExpired s = .next t) : Came .releaseExpired s t := by
  exact .of_event (releaseExpired_lawful s) ht

theorem execPathTimeout_came {c : ChannelId} {s t : State}
    (ht : execPathTimeout c s = .next t) : Came (.pathTimeout c) s t := by
  exact .of_event (pathExpired_lawful c s) ht

theorem execTimeLimit_came {c : ChannelId} {s t : State}
    (ht : execTimeLimit c s = .next t) : Came (.timeLimit c) s t := by
  exact .of_event (limitExpired_lawful c s) ht

theorem execWaitDurationExpiry_came {c : ChannelId} {s t : State}
    (ht : execWaitDurationExpiry c s = .next t) : Came (.waitDurationExpiry c) s t := by
  exact .of_event (waitExpired_lawful c s) ht

theorem execSettleLockoutExpiry_came {d : DistrictId} {s t : State}
    (ht : execSettleLockoutExpiry d s = .next t) : Came (.settleLockoutExpiry d) s t := by
  exact .of_event (lockoutExpired_lawful d s) ht

theorem execQualifyExpiry_came {d : DistrictId} {s t : State}
    (ht : execQualifyExpiry d s = .next t) : Came (.qualifyExpiry d) s t := by
  exact .of_event (qualifyExpired_lawful d s) ht

theorem execRepeatWindowExpiry_came {d : DistrictId} {s t : State}
    (ht : execRepeatWindowExpiry d s = .next t) : Came (.repeatWindowExpiry d) s t := by
  exact .of_event (repeatExpired_lawful d s) ht

theorem execSaveWriteEnd_came {result : WriteEnd} {s t : State}
    (ht : execSaveWriteEnd result s = .next t) : Came (.saveWriteEnd result) s t := by
  exact .of_event (endWrite_lawful result s) ht

/-- Every command but power-on reset comes to its next state in one of the three ways. -/
theorem exec_came {i : Instr} {s t : State} (h : ∀ p, i ≠ .powerOnReset p) (ht : exec i s = .next t) : Came i s t := by
  cases i with
  | powerOnReset p => exact absurd rfl (h p)
  | identify tag body => exact execIdentify_came ht
  | yardStatus tag body => exact execYardStatus_came ht
  | start tag body => exact execStart_came ht
  | stop tag body => exact execStop_came ht
  | freeze tag body => exact execFreeze_came ht
  | saveSettings tag body => exact execSaveSettings_came ht
  | setClock tag body => exact execSetClock_came ht
  | setHolder tag body => exact execSetHolder_came ht
  | readHolder tag body => exact execReadHolder_came ht
  | isolateHolder tag body => exact execIsolateHolder_came ht
  | returnHolder tag body => exact execReturnHolder_came ht
  | clearHolderFault tag body => exact execClearHolderFault_came ht
  | setLadder tag body => exact execSetLadder_came ht
  | releaseReserve tag body => exact execReleaseReserve_came ht
  | withdrawRelease tag body => exact execWithdrawRelease_came ht
  | setSupplyEntry tag body => exact execSetSupplyEntry_came ht
  | setDwell tag body => exact execSetDwell_came ht
  | readSendOut tag body => exact execReadSendOut_came ht
  | setValve tag body => exact execSetValve_came ht
  | moveValve tag body => exact execMoveValve_came ht
  | readValve tag body => exact execReadValve_came ht
  | clearValveFault tag body => exact execClearValveFault_came ht
  | loadOrder tag body => exact execLoadOrder_came ht
  | linkOrder tag body => exact execLinkOrder_came ht
  | clearOrder tag body => exact execClearOrder_came ht
  | readOrder tag body => exact execReadOrder_came ht
  | startChain tag body => exact execStartChain_came ht
  | stopChannelAfter tag body => exact execStopChannelAfter_came ht
  | stopChannelAtOnce tag body => exact execStopChannelAtOnce_came ht
  | hold tag body => exact execHold_came ht
  | resume tag body => exact execResume_came ht
  | readChannel tag body => exact execReadChannel_came ht
  | setChannel tag body => exact execSetChannel_came ht
  | setOutletMap tag body => exact execSetOutletMap_came ht
  | setDistrict tag body => exact execSetDistrict_came ht
  | setSchedule tag body => exact execSetSchedule_came ht
  | openDistrict tag body => exact execOpenDistrict_came ht
  | shutDistrict tag body => exact execShutDistrict_came ht
  | holdSetpoint tag body => exact execHoldSetpoint_came ht
  | releaseSetpoint tag body => exact execReleaseSetpoint_came ht
  | readDistrict tag body => exact execReadDistrict_came ht
  | setMeter tag body => exact execSetMeter_came ht
  | setContract tag body => exact execSetContract_came ht
  | setDiscrepancy tag body => exact execSetDiscrepancy_came ht
  | readLive tag body => exact execReadLive_came ht
  | readSlot tag body => exact execReadSlot_came ht
  | amendSlot tag body => exact execAmendSlot_came ht
  | closeDay tag body => exact execCloseDay_came ht
  | readStatement tag body => exact execReadStatement_came ht
  | unknownKind kind tag body => exact execUnknownKind_came ht
  | frameCheckFailed => exact execFrameCheckFailed_came ht
  | framingError received => exact execFramingError_came ht
  | linkBreak => exact execLinkBreak_came ht
  | frameSent => exact execFrameSent_came ht
  | meterPulse m => exact execMeterPulse_came ht
  | liftReading h content => exact execLiftReading_came ht
  | pressureSample p value => exact execPressureSample_came ht
  | limitSwitch v which => exact execLimitSwitch_came ht
  | limitSwitchBreak v which => exact execLimitSwitchBreak_came ht
  | yardStopAssertion order => exact execYardStopAssertion_came ht
  | yardStopRelease => exact execYardStopRelease_came ht
  | clockTick => exact execClockTick_came ht
  | changeOfMinute => exact execChangeOfMinute_came ht
  | intervalBoundary => exact execIntervalBoundary_came ht
  | liftSilenceExpiry h => exact execLiftSilenceExpiry_came ht
  | travelTimerExpiry => exact execTravelTimerExpiry_came ht
  | dwellExpiry => exact execDwellExpiry_came ht
  | releaseExpired => exact execReleaseExpired_came ht
  | pathTimeout c => exact execPathTimeout_came ht
  | timeLimit c => exact execTimeLimit_came ht
  | waitDurationExpiry c => exact execWaitDurationExpiry_came ht
  | settleLockoutExpiry d => exact execSettleLockoutExpiry_came ht
  | qualifyExpiry d => exact execQualifyExpiry_came ht
  | repeatWindowExpiry d => exact execRepeatWindowExpiry_came ht
  | saveWriteEnd result => exact execSaveWriteEnd_came ht

end Sys2Proof.Machine
end

section
/-!
What every step keeps.
-/

namespace Sys2Proof.Machine

/-! ## From the effect of a command to its next state -/

/-- What an effect and the words that follow from it make of the records that only commands own. -/
structure Settles (e : Effect) (t : State) : Prop where
  words : WordKept e.1 t
  clockSound : e.1.clockSound → (∀ a ∈ e.2, a.timeInRange) → t.clockSound
  clock : e.1.backlog = [] → e.2.all Act.unclocked = true → t.clock = e.1.clock
  allReported : (e.1.backlog = [] → e.2 = [] → e.1.allReported) → t.backlog = [] → t.allReported

theorem Settles.still (t : State) : Settles (t, []) t :=
  ⟨.refl t, fun sound _ => sound, fun _ _ => rfl, fun rest done => rest done rfl⟩

theorem Settles.settle (e : Effect) : Settles e (settle e) :=
  ⟨settle_wordKept e, settle_clockSound, fun rest words => (settle_kept0 rest words).clock, unreported_settle⟩

theorem Settles.composeReply {e : Effect} {t : State} (h : Settles e t) (kind tag : Byte) (body : List Byte) :
    Settles e (t.putLink (t.link.composeReply kind tag body)) where
  words := by
    refine h.words.trans ⟨rfl, rfl, rfl, rfl, rfl, fun _ => rfl, ?_⟩
    exact (composeReply_steady t kind tag body).bounded
  clockSound sound times := by
    obtain ⟨clock, backlog⟩ := h.clockSound sound times
    exact ⟨clock, backlog⟩
  clock := h.clock
  allReported rest done := allReported_congr rfl (h.allReported rest done)

theorem Lawful.of_inHand {i : Instr} {s : State} {e : Effect} (h : Lawful i s.inHand e) : Lawful i s e where
  pending := h.pending
  backlog := h.backlog
  settings := h.settings
  locked := h.locked
  inRange r := h.inRange (settingsInRange_congr (s := s) rfl rfl r)
  clock := h.clock
  clockInRange := h.clockInRange
  times := h.times
  statement := h.statement
  order := h.order
  bounded b := h.bounded ⟨b.moves, b.places, b.slots, b.errors⟩
  rest words r := h.rest words (allReported_congr (t := s.inHand) rfl r)

/-- The next state of a command is what its effect settles to. -/
theorem Came.settles {i : Instr} {s t : State} (h : Came i s t) : ∃ e, Lawful i s e ∧ Settles e t := by
  cases h with
  | still h => exact ⟨_, h, .still t⟩
  | event e h ht => exact ⟨e, h, ht ▸ .settle e⟩
  | reply e kind tag body h ht => exact ⟨e, h.of_inHand, ht ▸ (Settles.settle e).composeReply kind tag body⟩

theorem exec_settles {i : Instr} {s t : State} (h : ∀ p, i ≠ .powerOnReset p) (ht : exec i s = .next t) :
    ∃ e, Lawful i s e ∧ Settles e t := (exec_came h ht).settles

theorem WordKept.settingsInRange {s t : State} (k : WordKept s t) (h : s.settingsInRange) : t.settingsInRange where
  working := by rw [k.settings]; exact h.working
  bank1 := by rw [k.control]; exact h.bank1
  bank2 := by rw [k.control]; exact h.bank2
  newest := by rw [k.control]; exact h.newest
  write w hw := by
    have sameStored : some w.stored = s.control.write.map (·.stored) := by rw [← k.write, hw]; rfl
    obtain ⟨w', hw', sameImage⟩ := Option.map_eq_some_iff.mp sameStored.symm
    rw [← sameImage]
    exact h.write w' hw'

/-! ## Power-on reset -/

theorem powerUp_pending (p : PowerUp) (s : State) : (s.powerUp p).pending = s.pending := by
  simp only [State.powerUp]
  split <;> rfl

theorem powerUp_backlog (p : PowerUp) (s : State) : (s.powerUp p).backlog = [] := by
  simp only [State.powerUp]
  split <;> rfl

theorem powerUp_control (p : PowerUp) (s : State) : (s.powerUp p).control = controlAtPowerUp p s.control := by
  simp only [State.powerUp]
  split <;> rfl

theorem powerUp_clock (p : PowerUp) (s : State) : (s.powerUp p).clock = clockAtPowerUp p s.clock := by
  simp only [State.powerUp]
  split <;> rfl

theorem powerUp_channels (p : PowerUp) (s : State) : (s.powerUp p).channels = State.reset.channels := by
  simp only [State.powerUp]
  split <;> rfl

theorem powerUp_settings (p : PowerUp) (s : State) : (s.powerUp p).settings
    = ((loadedBank (s.powerUp p).control.bank1 (s.powerUp p).control.bank2).map fun l => l.2.image).getD
        Settings.blank := by
  simp only [State.powerUp]
  split <;> rfl

theorem reset_allReported : State.reset.allReported := fun c => by cases c <;> rfl

theorem powerUp_allReported (p : PowerUp) (s : State) : (s.powerUp p).allReported :=
  allReported_congr (powerUp_channels p s) reset_allReported

theorem afterSeconds_inRange {k : ClockUnit} (h : k.inRange) (n : Nat) : (k.afterSeconds n).inRange := by
  obtain ⟨_, _, _, start⟩ := h
  refine ⟨Nat.mod_lt _ (by omega), ?_, ?_, start⟩ <;> simp only [ClockUnit.afterSeconds] <;> omega

theorem reset_clock_inRange : State.reset.clock.inRange := by constructor <;> decide

theorem clockAtPowerUp_inRange {k : ClockUnit} (h : k.inRange) (p : PowerUp) : (clockAtPowerUp p k).inRange := by
  unfold clockAtPowerUp
  split
  · exact afterSeconds_inRange h _
  · exact reset_clock_inRange

theorem blank_inRange : Settings.blank.inRange := by
  constructor
  case channels => exact fun c => by cases c <;> decide
  all_goals decide

/-- The bank that is loaded is one of the two. -/
theorem loadedBank_eq_some {one two : Option StoredImage} {l : Bank × StoredImage} (h : loadedBank one two = some l) :
    one = some l.2 ∨ two = some l.2 := by
  unfold loadedBank at h
  split at h
  · split at h
    · cases h; exact .inl rfl
    · cases h; exact .inr rfl
  · cases h; exact .inl rfl
  · cases h; exact .inr rfl
  · cases h

theorem ite_none_eq_some {α : Type} {b : Bool} {x : Option α} {y : α} (h : (if b then x else none) = some y) :
    x = some y := by
  cases b
  · cases h
  · exact h

theorem powerUp_settingsInRange {p : PowerUp} {s : State} (h : s.settingsInRange) : (s.powerUp p).settingsInRange := by
  have bank1 : ∀ x, (s.powerUp p).control.bank1 = some x → x.inRange := fun x hx =>
    h.bank1 x (ite_none_eq_some (by rw [powerUp_control] at hx; exact hx))
  have bank2 : ∀ x, (s.powerUp p).control.bank2 = some x → x.inRange := fun x hx =>
    h.bank2 x (ite_none_eq_some (by rw [powerUp_control] at hx; exact hx))
  have image : ∀ l, loadedBank (s.powerUp p).control.bank1 (s.powerUp p).control.bank2 = some l → l.2.inRange :=
    fun l hl => (loadedBank_eq_some hl).elim (bank1 _) (bank2 _)
  refine ⟨?_, bank1, bank2, fun w hw => ?_, fun x hx => ?_⟩
  · rw [powerUp_settings]
    cases loaded : loadedBank (s.powerUp p).control.bank1 (s.powerUp p).control.bank2 with
    | none => exact blank_inRange
    | some l => exact (image l loaded).1
  · rw [powerUp_control] at hw
    cases hw
  · have newest : (s.powerUp p).control.newest
        = (loadedBank (s.powerUp p).control.bank1 (s.powerUp p).control.bank2).map fun l => (l.1, l.2.generation) := by
      rw [powerUp_control]; rfl
    obtain ⟨l, loaded, rfl⟩ := Option.map_eq_some_iff.mp (newest ▸ hx)
    exact (image l loaded).2

theorem powerUp_clockSound {p : PowerUp} {s : State} (h : s.clockSound) : (s.powerUp p).clockSound := by
  refine ⟨?_, ?_⟩
  · rw [powerUp_clock]
    exact clockAtPowerUp_inRange h.clock p
  · rw [powerUp_backlog]
    exact fun _ mem => absurd mem List.not_mem_nil

theorem accountsAtPowerUp_book_length (p : PowerUp) (x : AccountUnit) :
    (accountsAtPowerUp p x).book.length ≤ x.book.length := by
  unfold accountsAtPowerUp
  split
  · exact Nat.le_refl _
  · exact Nat.zero_le _

theorem powerUp_bounded {p : PowerUp} {s : State} (h : s.bounded) : (s.powerUp p).bounded := by
  simp only [State.powerUp]
  have slots := Nat.le_trans (accountsAtPowerUp_book_length p s.accounts) h.slots
  split
  · exact (Kept.notify _ _).toKept0.bounded ⟨Nat.zero_le _, Nat.zero_le _, slots, Nat.zero_le _⟩
  · exact ⟨Nat.zero_le _, Nat.zero_le _, slots, Nat.zero_le _⟩

/-! ## What every step keeps -/

theorem request_next (code : Nat) (tag : Byte) (owner : State → Taken) (s : State) :
    ∃ t, request code tag owner s = .next t := by
  cases port : s.link.busy with
  | true => exact ⟨_, request_busy port⟩
  | false => exact ⟨_, request_free port⟩

theorem execFramingError_next (received : List Byte) (s : State) : ∃ t, execFramingError received s = .next t := by
  unfold execFramingError
  split <;> exact ⟨_, rfl⟩

theorem execUnknownKind_next (kind tag : Byte) (body : List Byte) (s : State) :
    ∃ t, execUnknownKind kind tag body s = .next t := by
  unfold execUnknownKind
  split <;> exact ⟨_, rfl⟩

theorem exec_next (i : Instr) (s : State) : ∃ t, exec i s = .next t := by
  cases i with
  | identify | yardStatus | start | stop | freeze | saveSettings | setClock | setHolder | readHolder | isolateHolder
  | returnHolder | clearHolderFault | setLadder | releaseReserve | withdrawRelease | setSupplyEntry | setDwell
  | readSendOut | setValve | moveValve | readValve | clearValveFault | loadOrder | linkOrder | clearOrder | readOrder
  | startChain | stopChannelAfter | stopChannelAtOnce | hold | resume | readChannel | setChannel | setOutletMap
  | setDistrict | setSchedule | openDistrict | shutDistrict | holdSetpoint | releaseSetpoint | readDistrict | setMeter
  | setContract | setDiscrepancy | readLive | amendSlot | closeDay | readStatement =>
    exact request_next _ _ _ s
  | readSlot tag body =>
    unfold exec execReadSlot
    exact request_next _ _ _ s
  | framingError received => exact execFramingError_next received s
  | unknownKind kind tag body => exact execUnknownKind_next kind tag body s
  | _ => exact ⟨_, rfl⟩

/-- A command is power-on reset, or its effect is lawful and settles to its next state. -/
theorem exec_powerUp_or_settles {i : Instr} {s t : State} (ht : exec i s = .next t) :
    (∃ p, t = s.powerUp p) ∨ ∃ e, Lawful i s e ∧ Settles e t := by
  by_cases reset : ∃ p, i = .powerOnReset p
  · obtain ⟨p, rfl⟩ := reset
    cases ht
    exact .inl ⟨p, rfl⟩
  · exact .inr (exec_settles (not_exists.mp reset) ht)

theorem exec_pending {i : Instr} {s t : State} (ht : exec i s = .next t) : t.pending = s.pending := by
  obtain ⟨p, rfl⟩ | ⟨e, lawful, settles⟩ := exec_powerUp_or_settles ht
  · exact powerUp_pending p s
  · exact settles.words.pending.trans lawful.pending

/-- A step runs the front command, or the words left over where none waits. -/
theorem step_powerUp_or_settles {s t : State} (ht : step s = .next t) :
    (∃ p rest, t = State.powerUp p { s with pending := rest })
      ∨ ∃ i rest e, Lawful i { s with pending := rest } e ∧ Settles e t := by
  unfold step at ht
  split at ht
  next c rest _ =>
    obtain ⟨p, rfl⟩ | ⟨e, lawful, settles⟩ := exec_powerUp_or_settles ht
    · exact .inl ⟨p, rest, rfl⟩
    · exact .inr ⟨c, rest, e, lawful, settles⟩
  next =>
    cases ht
    exact .inr ⟨.frameSent, s.pending, _, .nil s, .settle _⟩

/-- Settles O15: FREEZE itself is a change of one flag, and every later command is lawful. -/
theorem freezeLocksTheLimits : Obligations.FreezeLocksTheLimits := by
  unfold Obligations.FreezeLocksTheLimits
  refine ⟨fun tag s free => ?_, fun c s t frozen other ht => ?_⟩
  · exact request_sized_taken (t := s.putControl { s.control with frozen := true }) free rfl rfl free.1
  · obtain ⟨e, lawful, settles⟩ := exec_settles other ht
    obtain ⟨stillFrozen, locked⟩ := lawful.locked frozen
    exact ⟨by rw [settles.words.control]; exact stillFrozen, by rw [settles.words.settings]; exact locked⟩

/-- Settles O58. -/
theorem stepKeepsSettingsInRange : Obligations.StepKeepsSettingsInRange := by
  unfold Obligations.StepKeepsSettingsInRange
  intro s t h ht
  obtain ⟨p, rest, rfl⟩ | ⟨i, rest, e, lawful, settles⟩ := step_powerUp_or_settles ht
  · exact powerUp_settingsInRange (settingsInRange_congr (s := s) rfl rfl h)
  · exact settles.words.settingsInRange (lawful.inRange (settingsInRange_congr (s := s) rfl rfl h))

/-- Settles O59. -/
theorem stepKeepsBoundsAndClock : Obligations.StepKeepsBoundsAndClock := by
  unfold Obligations.StepKeepsBoundsAndClock
  refine ⟨fun s t h ht => ?_, fun s t h ht => ?_⟩
  · obtain ⟨p, rest, rfl⟩ | ⟨i, rest, e, lawful, settles⟩ := step_powerUp_or_settles ht
    · exact powerUp_bounded ⟨h.moves, h.places, h.slots, h.errors⟩
    · exact settles.words.bounded (lawful.bounded ⟨h.moves, h.places, h.slots, h.errors⟩)
  · obtain ⟨p, rest, rfl⟩ | ⟨i, rest, e, lawful, settles⟩ := step_powerUp_or_settles ht
    · exact powerUp_clockSound ⟨h.clock, h.backlog⟩
    · refine settles.clockSound ⟨lawful.clockInRange h.clock, ?_⟩ lawful.times
      rw [lawful.backlog]
      exact h.backlog

/-- Settles O60. -/
theorem recordsHaveOneOwner : Obligations.RecordsHaveOneOwner := by
  unfold Obligations.RecordsHaveOneOwner
  intro i s t rest other ht
  obtain ⟨e, lawful, settles⟩ := exec_settles other ht
  refine ⟨fun h => ?_, fun setClock stop tick minute boundary => ?_, fun h => ?_, fun h n => ?_⟩
  · exact settles.words.settings.trans (lawful.settings h)
  · obtain ⟨stands, words⟩ := lawful.clock fun moves => by
      rcases moves with h | h | h | h | h <;> contradiction
    exact (settles.clock (lawful.backlog.trans rest) words).trans stands
  · exact settles.words.statement.trans (lawful.statement h)
  · exact (settles.words.order n).trans (lawful.order h n)

/-- Settles O2. -/
theorem everyCommandAnswersANextState : Obligations.EveryCommandAnswersANextState := by
  unfold Obligations.EveryCommandAnswersANextState
  intro c s
  obtain ⟨t, ht⟩ := exec_next c s
  exact ⟨t, ht, exec_pending ht⟩

/-- Settles O3, by the close of the event, which looks until no TRANSFER is unreported. -/
theorem eventsEndAtRest : Obligations.EventsEndAtRest := by
  unfold Obligations.EventsEndAtRest
  rintro s t ⟨rest, noneA, noneB⟩ ht done
  have reported : s.allReported := fun c => by
    cases c
    · exact noneA
    · exact noneB
  suffices t.allReported from ⟨done, this .a, this .b⟩
  obtain ⟨p, queue, rfl⟩ | ⟨i, queue, e, lawful, settles⟩ := step_powerUp_or_settles ht
  · exact powerUp_allReported p _
  · exact settles.allReported (fun _ words => lawful.rest words (allReported_congr rfl reported)) done

/-- Settles O1. -/
theorem stepRunsTheFrontCommand : Obligations.StepRunsTheFrontCommand := by
  unfold Obligations.StepRunsTheFrontCommand
  exact fun _ _ _ => rfl

/-- Settles O57. -/
theorem resetMeetsTheInvariants : Obligations.ResetMeetsTheInvariants := by
  unfold Obligations.ResetMeetsTheInvariants
  refine ⟨⟨blank_inRange, nofun, nofun, nofun, nofun⟩, by constructor <;> decide,
    ⟨reset_clock_inRange, fun _ mem => absurd mem List.not_mem_nil⟩, ⟨rfl, rfl, rfl⟩, rfl, rfl⟩

end Sys2Proof.Machine
end

section
/-!
The read requests, bad frames and breaks (R28 to R190).
-/

namespace Sys2Proof.Machine

/-! ## Requests that change the port alone (R179) -/

section
variable {code n : Nat} {tag : Byte} {body : List Byte} {owner : State → Taken} {s : State}

theorem request_sized_answer {k : Status} (free : s.free) (length : body.length = n)
    (took : owner s.inHand = answer k s.inHand) :
    request code tag (sized n body owner) s = .next (s.answered code tag k.body) :=
  request_sized_taken free length took free.1

theorem request_sized_reading {fields : State → List Byte} (free : s.free) (length : body.length = n)
    (took : owner s.inHand = reading s.inHand fields) :
    request code tag (sized n body owner) s = .next (s.answered code tag (Status.ok.body ++ fields s.inHand)) :=
  request_still (t := s.inHand) (f := fun t => Status.ok.body ++ fields t) free ((if_pos length).trans took) free.1

end

/-! ## The read requests -/

@[simp] theorem field_singleton (n : Byte) : field [n] 0 1 = n.toNat := by simp [field, ofBytes]

section
variable {tag n : Byte} {s : State}

theorem execReadHolder_eq (free : s.free) : execReadHolder tag [n] s = .next (s.answered 9 tag
    (match numberOf 4 n.toNat with
      | some h => Status.ok.body ++ holderFields h s
      | none => Status.badField.body)) := by
  simp only [execReadHolder, field_singleton]
  cases numberOf 4 n.toNat with
  | some x => exact request_sized_reading (fields := holderFields x) free rfl rfl
  | none => exact request_sized_answer (k := .badField) free rfl rfl

theorem execReadValve_eq (free : s.free) : execReadValve tag [n] s = .next (s.answered 21 tag
    (match numberOf 20 n.toNat with
      | some v => Status.ok.body ++ valveFields v s
      | none => Status.badField.body)) := by
  simp only [execReadValve, field_singleton]
  cases numberOf 20 n.toNat with
  | some x => exact request_sized_reading (fields := valveFields x) free rfl rfl
  | none => exact request_sized_answer (k := .badField) free rfl rfl

theorem execReadOrder_eq (free : s.free) : execReadOrder tag [n] s = .next (s.answered 26 tag
    (match slotOf n.toNat with
      | some k => Status.ok.body ++ orderFields k s
      | none => Status.badField.body)) := by
  simp only [execReadOrder, field_singleton]
  cases slotOf n.toNat with
  | some x => exact request_sized_reading (fields := orderFields x) free rfl rfl
  | none => exact request_sized_answer (k := .badField) free rfl rfl

theorem execReadChannel_eq (free : s.free) : execReadChannel tag [n] s = .next (s.answered 31 tag
    (match channelOf n.toNat with
      | some c => Status.ok.body ++ channelFields c s
      | none => Status.badField.body)) := by
  simp only [execReadChannel, field_singleton]
  cases channelOf n.toNat with
  | some x => exact request_sized_reading (fields := channelFields x) free rfl rfl
  | none => exact request_sized_answer (k := .badField) free rfl rfl

theorem execReadDistrict_eq (free : s.free) : execReadDistrict tag [n] s = .next (s.answered 40 tag
    (match numberOf 6 n.toNat with
      | some d => Status.ok.body ++ districtFields d s
      | none => Status.badField.body)) := by
  simp only [execReadDistrict, field_singleton]
  cases numberOf 6 n.toNat with
  | some x => exact request_sized_reading (fields := districtFields x) free rfl rfl
  | none => exact request_sized_answer (k := .badField) free rfl rfl

theorem execReadStatement_eq (free : s.free) : execReadStatement tag [] s = .next (s.answered 48 tag
    (match s.accounts.statement with
      | some x => Status.ok.body ++ statementBytes x
      | none => Status.noSuch.body)) := by
  cases kept : s.accounts.statement with
  | some x =>
    refine request_sized_reading (fields := fun _ => statementBytes x) free rfl ?_
    simp only [State.inHand, State.accounts_putLink, kept]
  | none =>
    refine request_sized_answer (k := .noSuch) free rfl ?_
    simp only [State.inHand, State.accounts_putLink, kept]

end

/-- Settles O6: each read request reads the state in hand, and leaves it. -/
theorem readRequestsChangeOnlyThePort : Obligations.ReadRequestsChangeOnlyThePort := by
  unfold Obligations.ReadRequestsChangeOnlyThePort
  intro tag n s free
  exact ⟨request_reading free, execReadHolder_eq free, request_reading free, execReadValve_eq free,
    execReadOrder_eq free, execReadChannel_eq free, execReadDistrict_eq free, request_reading free,
    execReadStatement_eq free⟩

/-! ## Bad frames, unknown kinds and breaks (R176 to R179, R188) -/

theorem countUp_eq (n : Nat) : countUp n = if n < 65535 then n + 1 else 65535 := rfl

theorem countError_of_lt {l : LinkPort} (h : l.errors < 65535) : l.countError = { l with errors := l.errors + 1 } := by
  rw [LinkPort.countError, countUp_eq, if_pos h]

theorem countError_of_eq {l : LinkPort} (h : l.errors = 65535) : l.countError = l := by
  rw [LinkPort.countError, countUp_eq, if_neg (by omega), ← h]

theorem execFramingError_hunting {bs : List Byte} (h : Receiver.after bs = .hunting) (s : State) :
    execFramingError bs s = .next s := if_pos h

theorem execFramingError_inFrame {bs : List Byte} (h : Receiver.after bs ≠ .hunting) (s : State) :
    execFramingError bs s = .next (s.putLink s.link.countError) := if_neg h

/-- Settles O8. -/
theorem unknownKindsAndBadFrames : Obligations.UnknownKindsAndBadFrames := by
  unfold Obligations.UnknownKindsAndBadFrames
  refine ⟨fun kind tag body s free => ?_, fun s => ⟨fun below => ⟨?_, fun bs inFrame => ?_⟩,
    fun full => ⟨?_, fun bs => ?_⟩, fun bs hunting => execFramingError_hunting hunting s⟩⟩
  · exact if_neg (by simp [free.2])
  · rw [← countError_of_lt below]
    rfl
  · rw [← countError_of_lt below]
    exact execFramingError_inFrame inFrame s
  · exact congrArg (fun l => Host.Outcome.next (s.putLink l)) (countError_of_eq full)
  · by_cases hunting : Receiver.after bs = .hunting
    · exact execFramingError_hunting hunting s
    · exact (execFramingError_inFrame hunting s).trans
        (congrArg (fun l => Host.Outcome.next (s.putLink l)) (countError_of_eq full))

/-! ### What the transmitter chooses (R186) -/

section
variable {l : LinkPort}

theorem choose_sending (h : l.sending ≠ .nothing) : l.choose = l := if_pos h

theorem choose_reply (idle : l.sending = .nothing) (h : l.reply ≠ none) : l.choose = { l with sending := .reply } := by
  simp [LinkPort.choose, idle, Option.isSome_iff_ne_none.mpr h]

theorem choose_busyReply (idle : l.sending = .nothing) (noReply : l.reply = none) (h : l.busyReply ≠ none) :
    l.choose = { l with sending := .busyReply } := by
  simp [LinkPort.choose, idle, noReply, Option.isSome_iff_ne_none.mpr h]

theorem choose_lost (idle : l.sending = .nothing) (noReply : l.reply = none) (noBusy : l.busyReply = none)
    (h : l.lost ≠ none) : l.choose = { l with sending := .lost } := by
  simp [LinkPort.choose, idle, noReply, noBusy, Option.isSome_iff_ne_none.mpr h]

theorem choose_dropped (idle : l.sending = .nothing) (noReply : l.reply = none) (noBusy : l.busyReply = none)
    (noLost : l.lost = none) (h : 0 < l.dropped) :
    l.choose = { l with sending := .lost, lost := some { count := l.dropped, number := l.number }, dropped := 0,
                        number := l.number + 1 } := by
  simp [LinkPort.choose, idle, noReply, noBusy, noLost, h]

theorem choose_empty (noReply : l.reply = none) (noBusy : l.busyReply = none) (noLost : l.lost = none)
    (noDropped : l.dropped = 0) (empty : l.queue = []) : l.choose = l := by
  simp [LinkPort.choose, noReply, noBusy, noLost, noDropped, empty]

theorem choose_unnumbered {x : Notice} {rest : List Queued} (idle : l.sending = .nothing) (noReply : l.reply = none)
    (noBusy : l.busyReply = none) (noLost : l.lost = none) (noDropped : l.dropped = 0)
    (queue : l.queue = { notice := x, number := none } :: rest) :
    l.choose = { l with
      sending := .notice, queue := { notice := x, number := some l.number } :: rest, number := l.number + 1 } := by
  simp [LinkPort.choose, idle, noReply, noBusy, noLost, noDropped, queue, numberHead, headUnnumbered]

/-- A notice sent again keeps its own number (R186). -/
theorem choose_numbered {x : Notice} {n : Byte} {rest : List Queued} (idle : l.sending = .nothing)
    (noReply : l.reply = none) (noBusy : l.busyReply = none) (noLost : l.lost = none) (noDropped : l.dropped = 0)
    (queue : l.queue = { notice := x, number := some n } :: rest) : l.choose = { l with sending := .notice } := by
  simp [LinkPort.choose, idle, noReply, noBusy, noLost, noDropped, queue, numberHead, headUnnumbered]

end

/-- Settles O10. -/
theorem linkBreakDiscardsReplies : Obligations.LinkBreakDiscardsReplies := by
  unfold Obligations.LinkBreakDiscardsReplies
  intro s
  obtain ⟨baud, errors, _, reply, busyReply, _, notices⟩ :=
    LinkPort.choose_keeps { s.link with reply := none, busyReply := none, sending := .nothing }
  refine ⟨s.link.lineBroken, rfl, reply, busyReply, ?_, baud, errors, notices, fun x lost => ?_,
    fun noLost x n rest queue noDropped => ?_⟩
  · rw [LinkPort.busy, LinkPort.lineBroken, reply, busyReply]
    rfl
  · rw [LinkPort.lineBroken, choose_lost rfl rfl rfl (by rw [lost]; nofun)]
    exact ⟨lost, rfl, rfl⟩
  · have chosen : s.link.lineBroken = { s.link with reply := none, busyReply := none, sending := .notice } :=
      choose_numbered (l := { s.link with reply := none, busyReply := none, sending := .nothing })
        rfl rfl rfl noLost noDropped queue
    rw [chosen]
    exact ⟨rfl, rfl, rfl⟩

end Sys2Proof.Machine
end

section
/-!
Frames carry their request, and requests that are turned away (R177 to R181).
-/

namespace Sys2Proof

/-! ## Frames on the line (R177, R179, R181) -/

theorem requestOf_requestFrame (i : Instr) : Laws.Framed.Statement i := by
  cases i with
  | identify | yardStatus | start | stop | freeze | saveSettings | setClock | setHolder | readHolder | isolateHolder
  | returnHolder | clearHolderFault | setLadder | releaseReserve | withdrawRelease | setSupplyEntry | setDwell
  | readSendOut | setValve | moveValve | readValve | clearValveFault | loadOrder | linkOrder | clearOrder | readOrder
  | startChain | hold | resume | readChannel | setChannel | setOutletMap | setDistrict | setSchedule | openDistrict
  | shutDistrict | holdSetpoint | releaseSetpoint | readDistrict | setMeter | setContract | setDiscrepancy | readLive
  | readSlot | amendSlot | closeDay | readStatement => exact Laws.Framed.of_framed rfl rfl
  | stopChannelAfter tag body => exact Laws.Framed.stopChannelAfter tag body
  | stopChannelAtOnce tag body => exact Laws.Framed.stopChannelAtOnce tag body
  | unknownKind kind tag body => exact Laws.Framed.unknownKind kind tag body
  | _ => exact Laws.Framed.of_unframed rfl

theorem body_length_of_wellFormed {i : Instr} {f : Frame} (formed : i.wellFormed = true)
    (framed : requestFrame i = some f) : f.body.length ≤ 240 := by
  cases i with
  | identify | yardStatus | start | stop | freeze | saveSettings | setClock | setHolder | readHolder | isolateHolder
  | returnHolder | clearHolderFault | setLadder | releaseReserve | withdrawRelease | setSupplyEntry | setDwell
  | readSendOut | setValve | moveValve | readValve | clearValveFault | loadOrder | linkOrder | clearOrder | readOrder
  | startChain | hold | resume | readChannel | setChannel | setOutletMap | setDistrict | setSchedule | openDistrict
  | shutDistrict | holdSetpoint | releaseSetpoint | readDistrict | setMeter | setContract | setDiscrepancy | readLive
  | readSlot | amendSlot | closeDay | readStatement =>
    cases framed
    exact of_decide_eq_true formed
  | stopChannelAfter | stopChannelAtOnce | unknownKind =>
    cases framed
    exact of_decide_eq_true (Bool.and_eq_true_iff.mp formed).1
  | _ => cases framed

theorem be2_length (n : Nat) : (be2 n).length = 2 := rfl

theorem ofBytes_be2 {n : Nat} (h : n < 65536) : ofBytes (be2 n) = n := by
  simp only [ofBytes, be2, toByte, List.foldl_cons, List.foldl_nil, BitVec.toNat_ofNat]
  omega

/-- What the receiver makes of the bytes of a frame whose body fits. -/
theorem receiveFrame_bytes {f : Frame} (fits : f.body.length ≤ 240) : receiveFrame f.bytes = some (requestOf f) := by
  have length : (toByte f.body.length).toNat = f.body.length := by
    rw [toByte, BitVec.toNat_ofNat]
    omega
  have check : ofBytes (be2 f.check) = f.check := ofBytes_be2 (Nat.mod_lt _ (by omega))
  simp only [receiveFrame, Frame.bytes, List.cons_append, List.nil_append, ne_eq, not_true_eq_false, if_false, length,
    Nat.not_lt.mpr fits, List.length_append, be2_length, List.take_left, List.drop_left, check, if_true]

end Sys2Proof

namespace Sys2Proof.Machine

/-- Settles O4. -/
theorem goodFramesCarryTheirRequest : Obligations.GoodFramesCarryTheirRequest := by
  unfold Obligations.GoodFramesCarryTheirRequest
  intro i f formed framed
  rw [receiveFrame_bytes (body_length_of_wellFormed formed framed), requestOf_requestFrame i f formed framed]

/-! ## Requests that are turned away (R179, R180) -/

/-- The kind of the reply to a frame of a kind (R179). -/
def answerKind (kind : Byte) : Byte := if isRequestCode kind then kind + 0x40#8 else 0x7F#8

theorem exec_busy {i : Instr} {f : Frame} {s : State} (formed : i.wellFormed = true)
    (framed : requestFrame i = some f) (busy : s.link.busy = true) :
    exec i s = .next (s.putLink (s.link.refuseBusy (answerKind f.kind) f.tag)) := by
  cases i with
  | identify | yardStatus | start | stop | freeze | saveSettings | setClock | setHolder | readHolder | isolateHolder
  | returnHolder | clearHolderFault | setLadder | releaseReserve | withdrawRelease | setSupplyEntry | setDwell
  | readSendOut | setValve | moveValve | readValve | clearValveFault | loadOrder | linkOrder | clearOrder | readOrder
  | startChain | stopChannelAfter | stopChannelAtOnce | hold | resume | readChannel | setChannel | setOutletMap
  | setDistrict | setSchedule | openDistrict | shutDistrict | holdSetpoint | releaseSetpoint | readDistrict | setMeter
  | setContract | setDiscrepancy | readLive | amendSlot | closeDay | readStatement =>
    cases framed
    exact request_busy busy
  | readSlot tag body =>
    cases framed
    unfold exec execReadSlot
    exact request_busy busy
  | unknownKind kind tag body =>
    cases framed
    have unknown : isRequestCode kind = false := by
      simpa using (Bool.and_eq_true_iff.mp formed).2
    rw [answerKind, unknown]
    exact if_pos busy
  | _ => cases framed

theorem exec_badLength {i : Instr} {code n : Nat} {tag : Byte} {body : List Byte} {s : State} (free : s.free)
    (hcode : i.requestCode = some code) (hbody : i.tagAndBody = some (tag, body)) (hlength : i.bodyLength = some n)
    (other : body.length ≠ n) : exec i s = .next (s.answered code tag Status.badField.body) := by
  cases i with
  | identify | yardStatus | start | stop | freeze | saveSettings | setClock | setHolder | readHolder | isolateHolder
  | returnHolder | clearHolderFault | setLadder | releaseReserve | withdrawRelease | setSupplyEntry | setDwell
  | readSendOut | setValve | moveValve | readValve | clearValveFault | loadOrder | linkOrder | clearOrder | readOrder
  | startChain | stopChannelAfter | stopChannelAtOnce | hold | resume | readChannel | setChannel | setOutletMap
  | setDistrict | openDistrict | shutDistrict | holdSetpoint | releaseSetpoint | readDistrict | setMeter
  | setContract | setDiscrepancy | readLive | amendSlot | closeDay | readStatement =>
    cases hcode
    cases hbody
    cases hlength
    exact request_badLength free other
  | _ => cases hlength

theorem refuseBusy_of_none {l : LinkPort} (none : l.busyReply = none) (kind tag : Byte) :
    l.refuseBusy kind tag = { l with busyReply := some { kind := kind, tag := tag, body := [0x10#8] } } := by
  simp [LinkPort.refuseBusy, none]

theorem refuseBusy_of_some {l : LinkPort} (pending : l.busyReply ≠ none) (kind tag : Byte) :
    l.refuseBusy kind tag = l.countError := if_pos (Option.isSome_iff_ne_none.mpr pending)

/-- Settles O7. -/
theorem requestsAreTurnedAwayWhole : Obligations.RequestsAreTurnedAwayWhole := by
  unfold Obligations.RequestsAreTurnedAwayWhole
  refine ⟨fun i code n tag body s free hcode hbody hlength other => exec_badLength free hcode hbody hlength other,
    fun tag body s free other => request_badLength free other,
    fun i f s formed framed busy => ⟨fun none => ?_, fun pending => ?_⟩⟩
  · rw [exec_busy formed framed busy, refuseBusy_of_none none]
    rfl
  · rw [exec_busy formed framed busy, refuseBusy_of_some pending]
    rfl

end Sys2Proof.Machine
end

section
/-!
The notice queue and the transmitter (R185 to R187).
-/

namespace Sys2Proof.Machine

/-! ## The notice queue and the transmitter (R185 to R187) -/

section
variable {l : LinkPort} {n : Notice}

/-- The port with a notice taken in, before the transmitter chooses (R185). -/
def LinkPort.taken (l : LinkPort) (n : Notice) : LinkPort :=
  if l.queue.length < 32 then { l with queue := l.queue ++ [{ notice := n, number := none }] }
  else { l with dropped := countUp l.dropped }

theorem place_eq (l : LinkPort) (n : Notice) :
    l.place n = if (l.taken n).taking then l.taken n else (l.taken n).choose := rfl

theorem taken_of_room (room : l.queue.length < 32) :
    l.taken n = { l with queue := l.queue ++ [{ notice := n, number := none }] } := if_pos room

theorem taken_of_full (full : 32 ≤ l.queue.length) : l.taken n = { l with dropped := countUp l.dropped } :=
  if_neg (Nat.not_lt.mpr full)

theorem notices_place : (l.place n).notices = (l.taken n).notices := by
  rw [place_eq]
  split
  · rfl
  · exact (LinkPort.choose_keeps _).2.2.2.2.2.2

theorem taking_taken : (l.taken n).taking = l.taking := by
  unfold LinkPort.taken
  split <;> rfl

theorem place_of_taking (taking : l.taking = true) : l.place n = l.taken n := by
  rw [place_eq, taking_taken, taking]
  rfl

/-- The port when the frame being sent has gone, before the transmitter chooses (R186). -/
def LinkPort.sent (l : LinkPort) : LinkPort :=
  { l with
    reply := if l.sending = .reply then none else l.reply
    busyReply := if l.sending = .busyReply then none else l.busyReply
    lost := if l.sending = .lost then none else l.lost
    queue := if l.sending = .notice then l.queue.tail else l.queue
    sending := .nothing }

theorem frameGone_of_sending (busy : l.sending ≠ .nothing) : l.frameGone = l.sent.choose := by
  obtain ⟨baud, errors, taking, reply, busyReply, queue, dropped, number, lost, sending⟩ := l
  cases sending with
  | nothing => exact absurd rfl busy
  | _ => rfl

theorem frameGone_of_idle (idle : l.sending = .nothing) : l.frameGone = l := by simp [LinkPort.frameGone, idle]

theorem frameGone_keeps : l.frameGone.baud = l.baud ∧ l.frameGone.errors = l.errors := by
  by_cases idle : l.sending = .nothing
  · rw [frameGone_of_idle idle]
    exact ⟨rfl, rfl⟩
  · rw [frameGone_of_sending idle]
    exact ⟨(LinkPort.choose_keeps l.sent).1, (LinkPort.choose_keeps l.sent).2.1⟩

end

/-- Settles O9: a notice is taken in and the transmitter chooses, and a frame gone leaves the transmitter to choose by the
order of R186. -/
theorem noticesQueueAndAreSentInOrder : Obligations.NoticesQueueAndAreSentInOrder := by
  unfold Obligations.NoticesQueueAndAreSentInOrder
  refine ⟨fun n s => ⟨fun room => ⟨?_, fun taking => ?_⟩, fun full => ⟨?_, fun taking => ?_⟩, rfl⟩, fun s => ?_⟩
  · exact notices_place.trans (by rw [taken_of_room room]; simp [LinkPort.notices])
  · rw [State.notify, State.link_putLink, place_of_taking taking, taken_of_room room]
  · exact notices_place.trans (by rw [taken_of_full full]; rfl)
  · exact congrArg LinkPort.dropped ((place_of_taking taking).trans (taken_of_full full))
  · refine ⟨s.link.frameGone, rfl, frameGone_keeps.1, frameGone_keeps.2, frameGone_of_idle, fun busy => ?_⟩
    rw [frameGone_of_sending busy]
    obtain ⟨_, _, _, reply, busyReply, _, _⟩ := LinkPort.choose_keeps s.link.sent
    refine ⟨reply, busyReply, fun h => ?_, fun noReply h => ?_, fun noReply noBusy x h => ?_,
      fun noReply noBusy noLost h => ?_, fun noReply noBusy noLost noDropped => ⟨fun empty => ?_,
        fun x rest queue => ?_, fun x n rest queue => ?_⟩⟩
    · rw [choose_reply (l := s.link.sent) rfl h]
      exact ⟨rfl, rfl, rfl, rfl⟩
    · rw [choose_busyReply (l := s.link.sent) rfl noReply h]
      exact ⟨rfl, rfl, rfl, rfl⟩
    · rw [choose_lost (l := s.link.sent) rfl noReply noBusy (Option.ne_none_iff_exists'.mpr ⟨x, h⟩)]
      exact ⟨rfl, h, rfl, rfl, rfl⟩
    · rw [choose_dropped (l := s.link.sent) rfl noReply noBusy noLost h]
      exact ⟨rfl, rfl, rfl, rfl, rfl⟩
    · rw [choose_empty (l := s.link.sent) noReply noBusy noLost noDropped empty]
      exact ⟨rfl, empty, rfl⟩
    · rw [choose_unnumbered (l := s.link.sent) rfl noReply noBusy noLost noDropped queue]
      exact ⟨rfl, rfl, rfl⟩
    · rw [choose_numbered (l := s.link.sent) rfl noReply noBusy noLost noDropped queue]
      exact ⟨rfl, rfl, rfl⟩

end Sys2Proof.Machine
end

section
/-!
Settings without further effect, LINK ORDER and CLEAR ORDER (R37 to R160).
-/

namespace Sys2Proof.Machine

/-! ## Settings without further effect (R37, R50, R57, R80, R150, R160) -/

section
variable {tag : Byte} {body : List Byte} {s : State}

theorem execSetDwell_eq (free : s.free) (length : body.length = 2) :
    execSetDwell tag body s = .next (if 60 ≤ field body 0 2 ∧ field body 0 2 ≤ 3600
      then (s.putSettings { s.settings with dwell := field body 0 2 }).answered 17 tag Status.ok.body
      else s.answered 17 tag Status.badField.body) := by
  split
  next inRange =>
    exact request_sized_taken (t := s.putSettings { s.settings with dwell := field body 0 2 }) free length
      (if_neg (by omega)) free.1
  next outside => exact request_sized_answer free length (if_pos (by omega))

theorem execSetDiscrepancy_eq (free : s.free) (length : body.length = 4) :
    execSetDiscrepancy tag body s = .next (if field body 0 4 ≤ 100000000
      then (s.putSettings { s.settings with discrepancy := field body 0 4 }).answered 43 tag Status.ok.body
      else s.answered 43 tag Status.badField.body) := by
  split
  next inRange =>
    exact request_sized_taken (t := s.putSettings { s.settings with discrepancy := field body 0 4 }) free length
      (if_neg (by omega)) free.1
  next outside => exact request_sized_answer free length (if_pos (by omega))

theorem execSetValve_eq (free : s.free) (length : body.length = 3) :
    execSetValve tag body s = .next (match numberOf 20 (field body 0 1) with
      | some v => if 10 ≤ field body 1 2 ∧ field body 1 2 ≤ 600
          then (s.putSettings { s.settings with travel := s.settings.travel.set v.val (field body 1 2) }).answered 19
            tag Status.ok.body
          else s.answered 19 tag Status.badField.body
      | none => s.answered 19 tag Status.badField.body) := by
  unfold execSetValve
  cases numberOf 20 (field body 0 1) with
  | none => exact request_sized_answer free length rfl
  | some v =>
    dsimp only
    by_cases inRange : 10 ≤ field body 1 2 ∧ field body 1 2 ≤ 600
    · rw [if_pos inRange]
      exact request_sized_taken
        (t := s.putSettings { s.settings with travel := s.settings.travel.set v.val (field body 1 2) }) free length
        (if_neg (by omega)) free.1
    · rw [if_neg inRange]
      exact request_sized_answer free length (if_pos (by omega))

theorem execSetChannel_eq (free : s.free) (length : body.length = 7) :
    execSetChannel tag body s = .next (match channelOf (field body 0 1) with
      | some c => if 30 ≤ field body 1 2 ∧ field body 1 2 ≤ 3600 ∧ field body 3 4 ≤ 1000000
          then (s.putSettings { s.settings with
              channels := s.settings.channels.put c
                { pathTimeout := field body 1 2, holdThreshold := field body 3 4 } }).answered
            32 tag Status.ok.body
          else s.answered 32 tag Status.badField.body
      | none => s.answered 32 tag Status.badField.body) := by
  unfold execSetChannel
  cases channelOf (field body 0 1) with
  | none => exact request_sized_answer free length rfl
  | some c =>
    dsimp only
    by_cases inRange : 30 ≤ field body 1 2 ∧ field body 1 2 ≤ 3600 ∧ field body 3 4 ≤ 1000000
    · rw [if_pos inRange]
      exact request_sized_taken
        (t := s.putSettings { s.settings with
          channels := s.settings.channels.put c { pathTimeout := field body 1 2, holdThreshold := field body 3 4 } })
        free length (if_neg (by omega)) free.1
    · rw [if_neg inRange]
      exact request_sized_answer free length (if_pos (by omega))

theorem execSetMeter_eq (free : s.free) (length : body.length = 3) :
    execSetMeter tag body s = .next (match numberOf 11 (field body 0 1) with
      | some m => if 1 ≤ field body 1 2 ∧ field body 1 2 ≤ 10000
          then (s.putSettings { s.settings with weights := s.settings.weights.set m.val (field body 1 2) }).answered 41
            tag Status.ok.body
          else s.answered 41 tag Status.badField.body
      | none => s.answered 41 tag Status.badField.body) := by
  unfold execSetMeter
  cases numberOf 11 (field body 0 1) with
  | none => exact request_sized_answer free length rfl
  | some m =>
    dsimp only
    by_cases inRange : 1 ≤ field body 1 2 ∧ field body 1 2 ≤ 10000
    · rw [if_pos inRange]
      exact request_sized_taken
        (t := s.putSettings { s.settings with weights := s.settings.weights.set m.val (field body 1 2) }) free length
        (if_neg (by omega)) free.1
    · rw [if_neg inRange]
      exact request_sized_answer free length (if_pos (by omega))

theorem supplyEntryOf_eq {h : HolderId} {k : EntryClass} (named : numberOf 4 (field body 1 1) = some h)
    (cls : classOf (field body 6 1) = some k) :
    supplyEntryOf body = some { holder := h, low := field body 2 2, high := field body 4 2, cls := k } := by
  simp only [supplyEntryOf, named, cls]

theorem supplyEntryOf_eq_none (bad : numberOf 4 (field body 1 1) = none ∨ classOf (field body 6 1) = none) :
    supplyEntryOf body = none := by
  unfold supplyEntryOf
  split
  next h k named cls => simp [named, cls] at bad
  next => rfl

theorem execSetSupplyEntry_badField (free : s.free) (length : body.length = 7)
    (bad : numberOf 8 (field body 0 1) = none ∨ supplyEntryOf body = none) :
    execSetSupplyEntry tag body s = .next (s.answered 16 tag Status.badField.body) := by
  refine request_sized_answer free length ?_
  split
  next e x named entry => simp [named, entry] at bad
  next => rfl

end

/-- Settles O22. -/
theorem settingsAreStored : Obligations.SettingsAreStored := by
  unfold Obligations.SettingsAreStored
  refine ⟨fun tag body s free => ⟨execSetDwell_eq free, execSetValve_eq free, execSetChannel_eq free,
    execSetMeter_eq free, execSetDiscrepancy_eq free⟩, fun tag body s free length => ⟨fun bad => ?_, fun bad => ?_,
      fun bad => ?_, fun e h k number holder cls => ⟨fun setup => ?_, fun run => ?_⟩⟩⟩
  · exact execSetSupplyEntry_badField free length (.inl bad)
  · exact execSetSupplyEntry_badField free length (.inr (supplyEntryOf_eq_none (.inl bad)))
  · exact execSetSupplyEntry_badField free length (.inr (supplyEntryOf_eq_none (.inr bad)))
  · refine request_sized_taken (t := s.putSettings _) free length ?_ free.1
    have words : (if s.inHand.running then [Act.decodeTrigger] else []) = [] := if_neg (by simp [State.running, setup])
    simp only [number, supplyEntryOf_eq holder cls, storeEntry, words]
    rfl
  · refine request_quiet (e := storeEntry e _ s.inHand) free ?_ free.1 ?_
    · simp only [sized, if_pos length, number, supplyEntryOf_eq holder cls]
    · have words : (if s.inHand.running then [Act.decodeTrigger] else []) = [Act.decodeTrigger] :=
        if_pos (by simp [State.running, run])
      rw [storeEntry, words]
      rfl

/-! ## LINK ORDER and CLEAR ORDER (R79) -/

/-- Settles O36. -/
theorem linkAndClearOrders : Obligations.LinkAndClearOrders := by
  unfold Obligations.LinkAndClearOrders
  intro tag a b s free
  have first : field [a, b] 0 1 = a.toNat := field_singleton a
  have second : field [a, b] 1 1 = b.toNat := field_singleton b
  refine ⟨?_, ?_⟩
  · simp only [exec, execLinkOrder, first, second]
    cases slotOf a.toNat with
    | none => exact request_sized_answer free rfl rfl
    | some n =>
      cases nextOf b.toNat with
      | none => exact request_sized_answer free rfl rfl
      | some next =>
        dsimp only
        split
        next empty => exact request_sized_answer free rfl (if_pos empty)
        next present =>
          exact request_sized_taken
            (t := s.putOrder n { s.order n with order := { (s.order n).order with next := next } }) free rfl
            (if_neg present) free.1
  · simp only [exec, execClearOrder, field_singleton]
    cases slotOf a.toNat with
    | none => exact request_sized_answer free rfl rfl
    | some n =>
      dsimp only
      have current : s.inHand.isCurrent n = true
          ↔ (s.channel .a).current = some n ∨ (s.channel .b).current = some n := by
        simp only [State.isCurrent, State.currentOn, Bool.or_eq_true, decide_eq_true_eq]
        rfl
      split
      next h => exact request_sized_answer free rfl (if_pos (current.mpr h))
      next h =>
        exact request_sized_taken (t := s.putOrder n OrderSlot.empty) free rfl (if_neg (mt current.mp h)) free.1

end Sys2Proof.Machine
end

section
/-!
The setpoint in force (R123 to R126), SET DISTRICT and the held setpoints (R120, R125).
-/

namespace Sys2Proof.Machine

/-! ## The setpoint in force (R123, R124, R126, R139) -/

section
variable {d : DistrictId} {s : State} {p : OutletId}

@[simp] theorem outletOf_putDistrict (e : DistrictId) (x : District) : (s.putDistrict e x).outletOf d = s.outletOf d :=
  rfl

@[simp] theorem outletOf_putOutput (q : OutletId) (n : Nat) : (s.putOutput q n).outletOf d = s.outletOf d := rfl

@[simp] theorem districtSettings_putDistrict (e : DistrictId) (x : District) :
    (s.putDistrict e x).districtSettings d = s.districtSettings d := rfl

@[simp] theorem districtSettings_putOutput (q : OutletId) (n : Nat) :
    (s.putOutput q n).districtSettings d = s.districtSettings d := rfl

theorem findSetpoint_of_off (off : s.control.phase = .setup ∨ s.outletOf d = none) : findSetpoint d s = s := by
  unfold findSetpoint
  refine if_neg ?_
  rcases off with setup | none
  · simp [State.running, setup]
  · simp [none]

/-- Where the value stays, or is not loaded, the row is all that changes. -/
theorem findSetpoint_of_same (run : s.control.phase = .run) (outlet : s.outletOf d = some p)
    (same : (s.district d).inForce.map (·.value) = some (s.setpointNow d).value ∨ (s.district d).state.loaded = false) :
    findSetpoint d s = s.putDistrict d { s.district d with inForce := some (s.setpointNow d) } := by
  simp only [findSetpoint, running_eq_true run, outlet, Option.isSome_some, Bool.and_self, if_true]
  refine if_neg fun changed => ?_
  rcases same with same | notLoaded
  · exact changed.1 same
  · exact Bool.false_ne_true (notLoaded.symm.trans changed.2)

/-- Another value loads the governor and restarts the lockout in LIVE and WARN. -/
theorem findSetpoint_of_changed (run : s.control.phase = .run) (outlet : s.outletOf d = some p)
    (changed : (s.district d).inForce.map (·.value) ≠ some (s.setpointNow d).value)
    (loaded : (s.district d).state.loaded = true) :
    findSetpoint d s = ((s.putDistrict d { s.district d with inForce := some (s.setpointNow d) }).putOutput p
      (s.setpointNow d).value).putDistrict d { s.district d with
        inForce := some (s.setpointNow d), qualify := none
        lockout := if (s.districtSettings d).lockout = 0 then none else some (s.districtSettings d).lockout } := by
  simp only [findSetpoint, running_eq_true run, outlet, Option.isSome_some, Bool.and_self, if_true]
  rw [if_pos ⟨changed, loaded⟩]
  simp [startLockout, loadOutput, outlet, loaded]

theorem findSetpoint_inForce (run : s.control.phase = .run) (outlet : s.outletOf d = some p) :
    ((findSetpoint d s).district d).inForce = some (s.setpointNow d) := by
  by_cases same : (s.district d).inForce.map (·.value) = some (s.setpointNow d).value
  · simp [findSetpoint_of_same run outlet (.inl same)]
  · cases loaded : (s.district d).state.loaded with
    | false => simp [findSetpoint_of_same run outlet (.inr loaded)]
    | true => simp [findSetpoint_of_changed run outlet same loaded]

@[simp] theorem loadOutput_district (d e : DistrictId) (s : State) : (loadOutput d s).district e = s.district e := by
  unfold loadOutput
  split <;> simp

theorem findSetpoint_district_other {e : DistrictId} (other : e ≠ d) :
    (findSetpoint d s).district e = s.district e := by
  have off : ¬d = e := fun same => other same.symm
  unfold findSetpoint
  split
  · dsimp only
    split <;> simp [startLockout, off]
  · rfl

theorem loaded_iff (k : DistrictState) : k.loaded = true ↔ k = .live ∨ k = .warn := by
  simp [DistrictState.loaded]

theorem setpointNow_of_critical (critical : s.stock.condition = .critical) :
    s.setpointNow d = { value := s.settings.districts[d].economy, row := 1 } := by
  simp [State.setpointNow, setpointRow, critical, State.districtSettings]

theorem setpointNow_of_held {n : Nat} (usual : s.stock.condition ≠ .critical) (held : (s.district d).held = some n) :
    s.setpointNow d = { value := n, row := 2 } := by
  simp [State.setpointNow, setpointRow, usual, held]

theorem setpointNow_of_saving (held : (s.district d).held = none)
    (saving : s.stock.condition = .reserve ∧ s.settings.districts[d].economyOn = true ∧ s.stock.release = none) :
    s.setpointNow d = { value := s.settings.districts[d].economy, row := 3 } := by
  obtain ⟨reserve, economy, release⟩ := saving
  simp only [State.setpointNow, setpointRow, held, reserve, release, State.districtSettings, economy]
  rfl

theorem setpointNow_of_scheduled (usual : s.stock.condition ≠ .critical) (held : (s.district d).held = none)
    (spending : ¬(s.stock.condition = .reserve ∧ s.settings.districts[d].economyOn = true ∧ s.stock.release = none)) :
    s.setpointNow d = { value := scheduledAt s.settings.districts[d].schedule s.clock.minute, row := 4 } := by
  simp only [State.setpointNow, setpointRow, usual, if_false, held, State.districtSettings, Option.isSome_eq_false_iff,
    Option.isNone_iff_eq_none, spending]

end

/-- Settles O46, by the rows of R123 and by whether the value in force changes. -/
theorem setpointFollowsTheTable : Obligations.SetpointFollowsTheTable := by
  unfold Obligations.SetpointFollowsTheTable
  refine fun d s => ⟨findSetpoint_of_off, fun p run outlet => ?_⟩
  intro y t found critical saving
  have inForce : (t.district d).inForce = some (s.setpointNow d) := findSetpoint_inForce run outlet
  have row : ∀ n r, s.setpointNow d = { value := n, row := r } → found n r := fun n r h =>
    inForce.trans (congrArg some h)
  refine ⟨fun h => row _ _ (setpointNow_of_critical h), fun n h held => row _ _ (setpointNow_of_held h held),
    fun _ held econ => row _ _ (setpointNow_of_saving held econ),
    fun h held notEcon => row _ _ (setpointNow_of_scheduled h held notEcon), fun old new hold hnew differs state => ?_,
    fun old new hold hnew same => ?_, fun e other => findSetpoint_district_other other⟩
  · cases inForce.symm.trans hnew
    have after := findSetpoint_of_changed run outlet (by simpa [hold] using differs) ((loaded_iff _).mpr state)
    change (findSetpoint d s).districts.outputs[p] = _ ∧ ((findSetpoint d s).district d).qualify = _
      ∧ ((findSetpoint d s).district d).lockout = _
    rw [after, State.district_putDistrict, if_pos rfl]
    exact ⟨(State.outputs_putOutput _ p p _).trans (if_pos rfl), rfl, rfl⟩
  · cases inForce.symm.trans hnew
    have after := findSetpoint_of_same run outlet (.inl (by simp [hold, same]))
    simp [t, after]

/-! ## SET DISTRICT, HOLD SETPOINT and RELEASE SETPOINT (R120, R125) -/

section
variable {tag : Byte} {body : List Byte} {s : State} {d : DistrictId}

theorem setpointOk_iff (n : Nat) : setpointOk n = true ↔ 10 ≤ n ∧ n ≤ 600 := by
  simp [setpointOk]

theorem districtSettingsOk_iff (x : DistrictSettings) : districtSettingsOk x = true ↔
    10 ≤ x.economy ∧ x.economy ≤ 600 ∧ 1 ≤ x.lowMargin ∧ x.lowMargin ≤ 200 ∧ 1 ≤ x.highMargin ∧ x.highMargin ≤ 200
      ∧ x.lockout ≤ 600 ∧ x.qualify ≤ 60 ∧ x.repeatWindow ≤ 1800 := by
  simp only [districtSettingsOk, Bool.and_eq_true, setpointOk_iff, decide_eq_true_eq, and_assoc]

theorem holdSetpoint_inHand (d : DistrictId) (held : Option Nat) (s : State) :
    holdSetpoint d held s.inHand = (holdSetpoint d held s).inHand :=
  findSetpoint_inHand d (s.putDistrict d { s.district d with held := held })

theorem storeDistrict_inHand (d : DistrictId) (x : DistrictSettings) (s : State) :
    storeDistrict d x s.inHand = (storeDistrict d x s).inHand := by
  have found := findSetpoint_inHand d (putDistrictSettings d x s)
  unfold storeDistrict
  rw [apply_ite State.inHand, ← found]
  rfl

@[simp] theorem backlog_storeDistrict (d : DistrictId) (x : DistrictSettings) (s : State) :
    (storeDistrict d x s).backlog = s.backlog := by
  simp only [storeDistrict]
  split <;> simp [putDistrictSettings]

theorem execHoldSetpoint_eq (free : s.free) (length : body.length = 3) :
    execHoldSetpoint tag body s = .next (match numberOf 6 (field body 0 1) with
      | some d => if 10 ≤ field body 1 2 ∧ field body 1 2 ≤ 600
          then (holdSetpoint d (some (field body 1 2)) s).answered 38 tag Status.ok.body
          else s.answered 38 tag Status.badField.body
      | none => s.answered 38 tag Status.badField.body) := by
  unfold execHoldSetpoint
  cases numberOf 6 (field body 0 1) with
  | none => exact request_sized_answer free length rfl
  | some d =>
    dsimp only
    by_cases inRange : 10 ≤ field body 1 2 ∧ field body 1 2 ≤ 600
    · rw [if_pos inRange]
      refine request_sized_taken free length ?_ (by simp [holdSetpoint, free.1])
      rw [if_pos ((setpointOk_iff _).mpr inRange), holdSetpoint_inHand]
    · rw [if_neg inRange]
      exact request_sized_answer free length (if_neg (mt (setpointOk_iff _).mp inRange))

theorem execReleaseSetpoint_eq (free : s.free) (length : body.length = 1) :
    execReleaseSetpoint tag body s = .next (match numberOf 6 (field body 0 1) with
      | some d => (holdSetpoint d none s).answered 39 tag Status.ok.body
      | none => s.answered 39 tag Status.badField.body) := by
  unfold execReleaseSetpoint
  cases numberOf 6 (field body 0 1) with
  | none => exact request_sized_answer free length rfl
  | some d =>
    refine request_sized_taken free length ?_ (by simp [holdSetpoint, free.1])
    exact congrArg (fun t => taken .ok (t, [])) (holdSetpoint_inHand d none s)

theorem execSetDistrict_badField (free : s.free) (length : body.length = 14)
    (bad : ∀ d x, numberOf 6 (field body 0 1) = some d →
      districtSettingsOf body (s.districtSettings d).schedule = some x → districtSettingsOk x = false) :
    execSetDistrict tag body s = .next (s.answered 34 tag Status.badField.body) := by
  refine request_sized_answer free length ?_
  split
  next => rfl
  next d number =>
    split
    next x read => exact if_neg (by simp [bad d x number read])
    next => rfl

theorem execSetDistrict_ok {x : DistrictSettings} (free : s.free) (length : body.length = 14)
    (number : numberOf 6 (field body 0 1) = some d)
    (read : districtSettingsOf body (s.districtSettings d).schedule = some x) (inRange : districtSettingsOk x = true) :
    execSetDistrict tag body s = .next ((storeDistrict d x s).answered 34 tag Status.ok.body) := by
  refine request_sized_taken free length ?_ ?_
  · have readInHand : districtSettingsOf body (s.inHand.districtSettings d).schedule = some x := read
    simp only [number, readInHand, if_pos inRange, storeDistrict_inHand]
  · rw [backlog_storeDistrict, free.1]

end

/-- Settles O44. -/
theorem districtSettingsAndHeldSetpoints : Obligations.DistrictSettingsAndHeldSetpoints := by
  unfold Obligations.DistrictSettingsAndHeldSetpoints
  refine ⟨fun tag body s free length => ⟨fun bad => ?_, fun d number => ⟨fun bad => ?_, fun on flag => ?_⟩⟩,
    fun tag body s free => ⟨execHoldSetpoint_eq free, execReleaseSetpoint_eq free⟩⟩
  · exact execSetDistrict_badField free length fun d x number => nomatch bad.symm.trans number
  · refine execSetDistrict_badField free length fun d x _ read => ?_
    simp [districtSettingsOf, bad] at read
  · intro old new inRange stored
    have read : districtSettingsOf body (s.districtSettings d).schedule = some new := by
      simp only [districtSettingsOf, flag]
      rfl
    refine ⟨fun outside => ?_, fun good changed => ?_, fun good sameEconomy sameOn => ?_⟩
    · refine execSetDistrict_badField free length fun e x named readAs => ?_
      cases number.symm.trans named
      cases read.symm.trans readAs
      exact Bool.eq_false_iff.mpr (mt (districtSettingsOk_iff new).mp outside)
    · refine (execSetDistrict_ok free length number read ((districtSettingsOk_iff new).mpr good)).trans ?_
      have found : storeDistrict d new s = findSetpoint d stored := if_pos changed
      rw [found]
    · refine (execSetDistrict_ok free length number read ((districtSettingsOk_iff new).mpr good)).trans ?_
      have stands : storeDistrict d new s = stored := if_neg fun changed => changed.elim (· sameEconomy) (· sameOn)
      rw [stands]

end Sys2Proof.Machine
end

section
/-!
Power-on reset (R192).
-/

namespace Sys2Proof.Machine

/-! ## Power-on reset (R192; R7, R11, R34, R58, R77, R80, R119, R135, R172, R176) -/

section
variable (p : PowerUp) (s : State)

theorem powerUp_stock : (s.powerUp p).stock = State.reset.stock := by
  simp only [State.powerUp]
  split <;> rfl

theorem powerUp_selector : (s.powerUp p).selector = Selector.atReset := by
  simp only [State.powerUp]
  split <;> rfl

theorem powerUp_valves : (s.powerUp p).valves = { State.reset.valves with
    table := Vector.ofFn fun i => Valve.atReset (p.openMade.getLsb i) (p.closedMade.getLsb i) } := by
  simp only [State.powerUp]
  split <;> rfl

theorem powerUp_districts : (s.powerUp p).districts = State.reset.districts := by
  simp only [State.powerUp]
  split <;> rfl

theorem powerUp_accounts : (s.powerUp p).accounts = { accountsAtPowerUp p s.accounts with
    take := (s.powerUp p).sumTake, takeDay := (s.powerUp p).clock.day } := by
  simp only [State.powerUp]
  split <;> rfl

theorem powerUp_link : (s.powerUp p).link = if p.stopAsserted
    then ({ State.reset.link with baud := baudOf p } : LinkPort).place .yardStop
    else { State.reset.link with baud := baudOf p } := by
  simp only [State.powerUp]
  split <;> rfl

theorem powerUp_holder (h : HolderId) : (s.powerUp p).holder h = Holder.atReset := by
  simp [State.holder, powerUp_stock, State.reset]

theorem powerUp_valve (v : ValveId) :
    (s.powerUp p).valve v = Valve.atReset (p.openMade.getLsb v) (p.closedMade.getLsb v) := by
  simp [State.valve, powerUp_valves]

theorem powerUp_order (n : OrderId) : (s.powerUp p).order n = OrderSlot.empty := by
  simp [State.order, powerUp_channels, State.reset]

theorem powerUp_channel (c : ChannelId) : (s.powerUp p).channel c = Channel.idle := by
  rw [State.channel, powerUp_channels]
  cases c <;> rfl

theorem powerUp_district (d : DistrictId) : (s.powerUp p).district d = District.atReset := by
  simp [State.district, powerUp_districts, State.reset]

theorem powerUp_half (i : HalfId) : (s.powerUp p).half i = Half.empty := by
  rw [State.half, powerUp_accounts, accountsAtPowerUp]
  cases i <;> split <;> rfl

theorem powerUp_output (o : OutletId) : (s.powerUp p).districts.outputs[o] = 0 := by
  simp [powerUp_districts, State.reset]

theorem powerUp_gapPending : (s.powerUp p).accounts.gapPending = true := by
  rw [powerUp_accounts, accountsAtPowerUp]
  split <;> rfl

theorem powerUp_cut : (s.powerUp p).accounts.cut = false := by
  rw [powerUp_accounts, accountsAtPowerUp]
  split <;> rfl

theorem powerUp_port : (s.powerUp p).link.baud = baudOf p ∧ (s.powerUp p).link.errors = 0
    ∧ (s.powerUp p).link.reply = none ∧ (s.powerUp p).link.busyReply = none ∧ (s.powerUp p).link.dropped = 0
    ∧ (s.powerUp p).link.lost = none := by
  rw [powerUp_link]
  split <;> exact ⟨rfl, rfl, rfl, rfl, rfl, rfl⟩

theorem powerUp_notices : (s.powerUp p).link.notices = if p.stopAsserted then [.yardStop] else [] := by
  rw [powerUp_link]
  split <;> rfl

end

theorem loadedBank_later {x y : StoredImage} (h : dayLater x.generation y.generation = true) :
    loadedBank (some x) (some y) = some (.one, x) := if_pos h

/-- Of two generations at most one is the later. -/
theorem loadedBank_earlier {x y : StoredImage} (h : dayLater y.generation x.generation = true) :
    loadedBank (some x) (some y) = some (.two, y) := by
  refine if_neg ?_
  simp only [dayLater, decide_eq_true_eq] at h ⊢
  omega

/-- Settles O11. -/
theorem powerOnResetLoadsAndResets : Obligations.PowerOnResetLoadsAndResets := by
  unfold Obligations.PowerOnResetLoadsAndResets
  refine ⟨fun p s => ⟨s.powerUp p, rfl, ?_⟩, fun p s => ⟨s.powerUp p, rfl, ?_⟩⟩
  · have newest : ∀ l, loadedBank (if p.bank1Holds then s.control.bank1 else none)
        (if p.bank2Holds then s.control.bank2 else none) = l →
        (s.powerUp p).settings = (l.map fun l => l.2.image).getD Settings.blank
          ∧ (s.powerUp p).control.loaded = l.isSome
          ∧ (s.powerUp p).control.newest = l.map fun l => (l.1, l.2.generation) := by
      rintro l rfl
      rw [powerUp_settings, powerUp_control]
      exact ⟨rfl, rfl, rfl⟩
    rw [powerUp_control]
    refine ⟨rfl, rfl, rfl, rfl, rfl, rfl, ?_⟩
    rw [← powerUp_control]
    refine ⟨fun x y hx hy later => ?_, fun x y hx hy later => ?_, fun x hx hy => ?_, fun y hx hy => ?_, fun hx hy => ?_⟩
    · exact newest (some (.one, x)) (by rw [hx, hy, loadedBank_later later])
    · exact newest (some (.two, y)) (by rw [hx, hy, loadedBank_earlier later])
    · exact newest (some (.one, x)) (by rw [hx, hy]; rfl)
    · exact newest (some (.two, y)) (by rw [hx, hy]; rfl)
    · exact newest none (by rw [hx, hy]; rfl)
  · refine ⟨powerUp_pending p s, powerUp_backlog p s, powerUp_holder p s, by rw [powerUp_stock]; rfl,
      by rw [powerUp_stock]; rfl, powerUp_selector p s, powerUp_valve p s, by rw [powerUp_valves]; rfl,
      by rw [powerUp_valves]; rfl, by rw [powerUp_valves]; rfl, powerUp_order p s, powerUp_channel p s,
      by rw [powerUp_channels]; rfl, powerUp_district p s, powerUp_output p s, powerUp_half p s, ?_⟩
    rw [powerUp_clock]
    refine ⟨powerUp_gapPending p s, powerUp_cut p s, fun holds => ?_, fun lost => ?_, by rw [powerUp_accounts],
      by rw [powerUp_accounts, powerUp_clock], fun holds => ?_, fun lost => ?_, ?_⟩
    · rw [powerUp_accounts, accountsAtPowerUp, if_pos holds]
      exact ⟨rfl, rfl, rfl, rfl⟩
    · rw [powerUp_accounts, accountsAtPowerUp, if_neg (Bool.eq_false_iff.mp lost)]
      exact ⟨rfl, rfl, rfl, rfl⟩
    · rw [clockAtPowerUp, if_pos holds]
      exact ⟨rfl, rfl⟩
    · rw [clockAtPowerUp, if_neg (Bool.eq_false_iff.mp lost)]
      exact ⟨rfl, rfl, rfl, rfl, rfl⟩
    · obtain ⟨baud, errors, reply, busyReply, dropped, lost⟩ := powerUp_port p s
      refine ⟨errors, reply, busyReply, dropped, lost, powerUp_notices p s, fun three => ?_, fun three two one => ?_,
        fun three two one => ?_, fun three two one => ?_, fun three two one => ?_⟩
      all_goals simp [baud, baudOf, *]

end Sys2Proof.Machine
end

section
/-!
Words one after another: whole events by their words.
-/

namespace Sys2Proof.Machine

/-! ## Words one after another -/

/-- Whether a word is a trigger that an event at the stock unit may merge into its last word (R41). -/
def Act.triggers : Act → Bool
  | .decodeTrigger | .stockTold => true
  | _ => false

theorem mergedInto_eq (a : Act) (rest : List Act) : a.mergedInto rest = (a.triggers && rest.any Act.endsStock) := by
  cases a <;> rfl

/-- In `k` words the words `l`, with what follows from them, take the state `s` to `t`, the words `m` being left;
`told` says whether the last word of an event at the stock unit waits behind them. -/
def Steps (k : Nat) (told : Bool) (l : List Act) (s : State) (m : List Act) (t : State) : Prop :=
  ∀ (n : Nat) (rest : List Act), rest.any Act.endsStock = told → run (n + k) (l ++ rest) s = run n (m ++ rest) t

/-- The words `l`, with all that follows from them, take the state `s` to `t`. -/
abbrev Takes (k : Nat) (told : Bool) (l : List Act) (s t : State) : Prop := Steps k told l s [] t

section
variable {j k : Nat} {told : Bool} {a : Act} {l m r : List Act} {s t u : State}

theorem Steps.refl (told : Bool) (l : List Act) (s : State) : Steps 0 told l s l s := fun _ _ _ => rfl

theorem Steps.nil (told : Bool) (s : State) : Takes 0 told [] s s := .refl told [] s

/-- A word that is not merged into a later one, with the words that it hands on. -/
theorem Steps.cons (single : (a.triggers && (told || l.any Act.endsStock)) = false) (effect : handle a s = (t, m))
    (after : Steps k told (m ++ l) t r u) : Steps (k + 1) told (a :: l) s r u := by
  intro n rest waits
  have merged : a.mergedInto (l ++ rest) = false := by
    rw [mergedInto_eq, List.any_append, waits, Bool.or_comm]
    exact single
  rw [← Nat.add_assoc, List.cons_append, run_cons merged, effect, ← List.append_assoc]
  exact after n rest waits

/-- A trigger that is merged into a later word (R41). -/
theorem Steps.merged (merged : (a.triggers && (told || l.any Act.endsStock)) = true) (after : Steps k told l s r u) :
    Steps (k + 1) told (a :: l) s r u := by
  intro n rest waits
  have isMerged : a.mergedInto (l ++ rest) = true := by
    rw [mergedInto_eq, List.any_append, waits, Bool.or_comm]
    exact merged
  rw [← Nat.add_assoc, List.cons_append, run_merged isMerged]
  exact after n rest waits

/-- The words in front, and then those behind. -/
theorem Steps.append (first : Takes j (told || m.any Act.endsStock) l s t) (second : Steps k told m t r u) :
    Steps (k + j) told (l ++ m) s r u := by
  intro n rest waits
  rw [← Nat.add_assoc, List.append_assoc, first (n + k) (m ++ rest) (by rw [List.any_append, waits, Bool.or_comm])]
  exact second n rest waits

/-- The close of an event with every TRANSFER reported (R82). -/
theorem handle_eventClose (a : s.unreported .a = none) (b : s.unreported .b = none) :
    handle .eventClose s = (s, []) := by
  simp only [handle, eventClose, a, b]

theorem settle_eq_run (rest : s.backlog = []) (words : l ≠ []) :
    settle (s, l) = run Config.eventWords (l ++ [.eventClose]) s := by
  have same : { s with backlog := [] } = s := by rw [← rest]
  simp [settle, rest, same, words]

/-- Words that take the state to one with every TRANSFER reported are a whole event. -/
theorem Steps.settle (h : Takes k false l s t) (few : k < 4095) (rest : s.backlog = []) (words : l ≠ [])
    (a : t.unreported .a = none) (b : t.unreported .b = none) : settle (s, l) = t := by
  have close : Takes 1 false [.eventClose] t t := .cons rfl (handle_eventClose a b) (.nil _ _)
  have whole := (h.append close) (4095 - k) [] rfl
  rw [settle_eq_run rest words, ← List.append_nil (l ++ _), show Config.eventWords = 4095 - k + (1 + k) by
    simp only [Config.eventWords]; omega]
  rw [whole]
  cases left : 4095 - k with
  | zero => omega
  | succ n => rfl

theorem Steps.settle_eq (h : Steps k false l s m t) (few : k ≤ 4096) (rest : s.backlog = []) (words : l ≠ []) :
    Machine.settle (s, l) = run (4096 - k) (m ++ [.eventClose]) t := by
  rw [settle_eq_run rest words, show Config.eventWords = 4096 - k + k by simp only [Config.eventWords]; omega]
  exact h (4096 - k) [.eventClose] rfl

/-- Words that come to inner ones. -/
theorem Steps.settle_kept (h : Steps k false l s m t) (few : k ≤ 4096) (rest : s.backlog = []) (words : l ≠ [])
    (inner : m.all Act.inner = true) : Kept t (Machine.settle (s, l)) := by
  rw [h.settle_eq few rest words]
  refine run_kept _ _ _ ?_
  rw [List.all_append, inner]
  rfl

/-- Words that come to words other than the clock unit's own. -/
theorem Steps.settle_kept0 (h : Steps k false l s m t) (few : k ≤ 4096) (rest : s.backlog = []) (words : l ≠ [])
    (unclocked : m.all Act.unclocked = true) : Kept0 t (Machine.settle (s, l)) := by
  rw [h.settle_eq few rest words]
  refine run_kept0 _ _ _ ?_
  rw [List.all_append, unclocked]
  rfl

theorem Steps.notice (n : Notice) (s : State) : Takes 1 told [.notice n] s (s.notify n) := .cons rfl rfl (.nil _ _)

end

/-! ### Who is current, and so what has still to be reported (R82) -/

theorem unreported_congr {s t : State} (h : t.channels = s.channels) (c : ChannelId) :
    t.unreported c = s.unreported c := by
  simp only [State.unreported, State.currentSlot, State.channel, State.order, h]
  rfl

theorem unreported_of_none {s : State} {c : ChannelId} (h : (s.channel c).current = none) : s.unreported c = none := by
  simp [State.unreported, State.currentSlot, h]

/-- One notice is a whole event. -/
theorem settle_notice {s : State} {n : Notice} (rest : s.atRest) : settle (s, [.notice n]) = s.notify n :=
  (Steps.notice n s).settle (by omega) rest.1 (List.cons_ne_nil _ _) rest.2.1 rest.2.2

end Sys2Proof.Machine
end

section
/-!
SAVE SETTINGS and the end of its write (R199, R200).
-/

namespace Sys2Proof.Machine

/-! ## SAVE SETTINGS and the end of its write (R199, R200) -/

section
variable {tag : Byte} {s : State} {w : StoreWrite} {b : Bank} {x : PhaseUnit} {i : Option StoredImage}

theorem putBank_eq : x.putBank b i = { x with
    bank1 := if b = .one then i else x.bank1, bank2 := if b = .two then i else x.bank2 } := by
  cases b <;> rfl

/-- The write that SAVE SETTINGS begins. -/
def State.newWrite (s : State) : StoreWrite :=
  { stored := { generation := nextGeneration s.control.newest, image := s.settings }
    bank := writeBank s.control.newest, left := 2 }

theorem beginWrite_eq : beginWrite s = s.putControl { s.control with
    write := some s.newWrite
    bank1 := if s.newWrite.bank = .one then none else s.control.bank1
    bank2 := if s.newWrite.bank = .two then none else s.control.bank2 } := by
  simp only [beginWrite, putBank_eq]
  rfl

theorem execSaveSettings_busy (free : s.free) (writing : s.control.write ≠ none) :
    execSaveSettings tag [] s = .next (s.answered 6 tag Status.busy.body) :=
  request_sized_answer free rfl (if_pos (Option.isSome_iff_ne_none.mpr writing))

theorem execSaveSettings_accepted (free : s.free) (idle : s.control.write = none) :
    execSaveSettings tag [] s = .next ((beginWrite s).answered 6 tag Status.accepted.body) :=
  request_sized_taken free rfl (if_neg (by simp [State.inHand, idle])) free.1

theorem failWrite_eq (cause : SaveFailure) : failWrite w cause s = (s.putControl { s.control with
    bank1 := if w.bank = .one then none else s.control.bank1
    bank2 := if w.bank = .two then none else s.control.bank2, write := none }, [.notice (.saveFailed cause)]) := by
  simp only [failWrite, putBank_eq]

theorem atRest_putControl (h : s.atRest) (x : PhaseUnit) : (s.putControl x).atRest := h

end

/-- Settles O16. -/
theorem saveSettingsWritesTheStore : Obligations.SaveSettingsWritesTheStore := by
  unfold Obligations.SaveSettingsWritesTheStore
  refine ⟨fun tag s free => ⟨execSaveSettings_busy free, fun idle => ⟨s.newWrite, rfl, rfl, ?_, ?_, ?_, ?_⟩⟩,
    fun s w rest writing => ?_, fun r s rest idle => ?_⟩
  · intro none
    simp [State.newWrite, none, nextGeneration, writeBank]
  · intro g newest
    simp [State.newWrite, newest, nextGeneration, writeBank]
  · intro g newest
    simp [State.newWrite, newest, nextGeneration, writeBank]
  · rw [← beginWrite_eq]
    exact execSaveSettings_accepted free idle
  · intro bank1 bank2 failed
    have fails : ∀ cause, event (failWrite w cause s) = .next (failed cause) := fun cause => by
      rw [failWrite_eq, event, settle_notice (atRest_putControl rest _)]
    refine ⟨?_, ?_, fun due => ?_, fun early => ?_⟩
    · simp only [exec, execSaveWriteEnd, endWrite, writing, putBank_eq]
      rw [event, settle_notice (atRest_putControl rest _)]
    · simp only [exec, execSaveWriteEnd, endWrite, writing]
      exact fails .mismatch
    · simp only [exec, execSaveWriteEnd, endWrite, writing, due, if_true]
      exact fails .timeout
    · simp only [exec, execSaveWriteEnd, endWrite, writing, early, if_false]
      exact event_still rest.1
  · simp only [exec, execSaveWriteEnd, endWrite, idle]
    exact event_still rest

end Sys2Proof.Machine
end

section
/-!
What the clock owes, and one second (R8 to R10).
-/

namespace Sys2Proof.Machine

/-! ## What the clock owes, and one second (R8 to R10) -/

section
variable {s : State}

theorem handle_handMinute_owed (run : s.control.phase = .run) (owed : s.clock.minuteOwed = true) :
    handle .handMinute s = (s.putClock { s.clock with minuteOwed := false }, [.findSetpoints, .minuteToChannels]) :=
  if_pos (by simp [running_eq_true run, owed])

theorem handle_handMinute_idle (idle : s.control.phase = .setup ∨ s.clock.minuteOwed = false) :
    handle .handMinute s = (s, []) := by
  refine if_neg ?_
  rcases idle with setup | none
  · simp [running_eq_false setup]
  · simp [none]

theorem handle_handBoundary_owed {b : Boundary} (run : s.control.phase = .run) (owed : s.clock.boundaryOwed = some b) :
    handle .handBoundary s = (s.putClock { s.clock with boundaryOwed := none }, [.boundary b]) := by
  simp [handle, handBoundary, owed, running_eq_true run]

theorem handle_handBoundary_idle (idle : s.control.phase = .setup ∨ s.clock.boundaryOwed = none) :
    handle .handBoundary s = (s, []) := by
  simp only [handle, handBoundary]
  rcases idle with setup | none
  · simp only [running_eq_false setup]
    split <;> rfl
  · simp [none]

theorem secondPasses_channel (c : ChannelId) : (secondPasses s).channel c = (s.channel c).second := by
  cases c <;> rfl

theorem secondPasses_unreported (c : ChannelId) : (secondPasses s).unreported c = s.unreported c := by
  simp only [State.unreported, State.currentSlot, secondPasses_channel]
  rfl

theorem secondPasses_holder (h : HolderId) : (secondPasses s).holder h = (s.holder h).second := by
  simp [State.holder, secondPasses, State.timersSecond]

theorem secondPasses_district (d : DistrictId) : (secondPasses s).district d = (s.district d).second := by
  simp [State.district, secondPasses, State.timersSecond]

theorem secondPasses_clock : (secondPasses s).clock = s.clock.second1 s.running := rfl

theorem second1_of_lt {k : ClockUnit} (early : k.second < 59) (inRun : Bool) :
    k.second1 inRun = { k with second := k.second + 1 } := if_pos early

theorem second1_of_ge {k : ClockUnit} (late : 59 ≤ k.second) (inRun : Bool) :
    k.second1 inRun =
      let minute := if k.minute < 1439 then k.minute + 1 else 0
      let dayStart := decide (minute = k.dayStartMinute)
      let day := if dayStart then (k.day + 1) % 65536 else k.day
      { k with
        second := 0, minute := minute, day := day, minuteOwed := inRun
        boundaryOwed := if inRun && decide (minute % 30 = 0) then
          some { ending := k.interval, dayStart := dayStart
                 beginning := { day := day, index := intervalIndex minute k.dayStartMinute } } else none } :=
  if_neg (Nat.not_lt.mpr late)

theorem execClockTick_of_nothing_owed (rest : s.atRest) (minute : s.clock.minuteOwed = false)
    (boundary : s.clock.boundaryOwed = none) : execClockTick s = .next (secondPasses s) := by
  have words : Takes 3 false [.handBoundary, .handMinute, .secondPasses] s (secondPasses s) :=
    .cons rfl (handle_handBoundary_idle (.inr boundary)) <| .cons rfl (handle_handMinute_idle (.inr minute)) <|
      .cons rfl rfl (.nil _ _)
  refine congrArg Host.Outcome.next (words.settle (by omega) rest.1 (List.cons_ne_nil _ _) ?_ ?_)
  · exact (secondPasses_unreported .a).trans rest.2.1
  · exact (secondPasses_unreported .b).trans rest.2.2

end

/-- Settles O18. -/
theorem clockTickCountsOneSecond : Obligations.ClockTickCountsOneSecond := by
  unfold Obligations.ClockTickCountsOneSecond
  intro s rest minuteOwed boundaryOwed
  refine ⟨secondPasses s, execClockTick_of_nothing_owed rest minuteOwed boundaryOwed, fun early => ?_, fun late => ?_,
    secondPasses_holder, rfl, rfl, rfl, fun d left driving => ?_, fun idle => ?_, rfl, rfl, rfl, secondPasses_channel,
    secondPasses_district, rfl, rfl, rfl, rfl, rfl⟩
  · rw [secondPasses_clock, second1_of_lt early]
  · rw [secondPasses_clock, second1_of_ge late]
  · simp only [secondPasses, State.timersSecond, State.valves_putClock, driving, Main.second]
  · simp only [secondPasses, State.timersSecond, State.valves_putClock, idle, Main.second]
    rw [← idle]

end Sys2Proof.Machine
end

section
/-!
The decode and the dwell timer (R38, R39, R50).
-/

namespace Sys2Proof.Machine

/-! ## The decode (R38, R39) -/

theorem usable_iff (s : State) (h : HolderId) : s.usable h = true ↔
    s.settings.holders[h].configured = true ∧ (s.holder h).state = .service ∧ (s.holder h).atLow = false ∧
      (s.valve (outletValve h)).fault = .noFault ∧ ∀ c, (s.channel c).reported ≠ some h := by
  have both : (∀ c, (s.channel c).reported ≠ some h)
      ↔ (s.channel .a).reported ≠ some h ∧ (s.channel .b).reported ≠ some h :=
    ⟨fun all => ⟨all .a, all .b⟩, fun ⟨a, b⟩ c => by cases c <;> assumption⟩
  rw [both]
  simp only [State.usable, State.holderSettings, Bool.and_eq_true, decide_eq_true_eq, Bool.not_eq_true',
    decide_eq_false_iff_not, and_assoc]

/-- The first element that satisfies a predicate, by its place. -/
theorem find?_map_eq_some_iff {α β : Type} {n : Nat} (v : Vector α n) (p : α → Bool) (f : α → β) (y : β) :
    (v.toList.find? p).map f = some y
      ↔ ∃ i : Fin n, p v[i] = true ∧ f v[i] = y ∧ ∀ j : Fin n, j.val < i.val → ¬p v[j] = true := by
  simp only [Option.map_eq_some_iff, List.find?_eq_some_iff_getElem, Vector.length_toList, Vector.getElem_toList,
    Fin.getElem_fin]
  constructor
  · rintro ⟨x, ⟨holds, i, bound, rfl, first⟩, rfl⟩
    exact ⟨⟨i, bound⟩, holds, rfl, fun j before => by simpa using first j.val before⟩
  · rintro ⟨i, holds, rfl, first⟩
    exact ⟨v[i], ⟨holds, i.val, i.isLt, rfl, fun j before => by simpa using first ⟨j, by omega⟩ before⟩, rfl⟩

theorem find?_map_eq_none_iff {α β : Type} {n : Nat} (v : Vector α n) (p : α → Bool) (f : α → β) :
    (v.toList.find? p).map f = none ↔ ∀ i : Fin n, ¬p v[i] = true := by
  rw [Option.map_eq_none_iff, List.find?_eq_none, Fin.forall_iff]
  simp only [Vector.mem_toList_iff, Vector.mem_iff_getElem]
  exact ⟨fun h i bound => h _ ⟨i, bound, rfl⟩, fun h x ⟨i, bound, e⟩ => e ▸ h i bound⟩

theorem entryGives_iff (s : State) (except : Option HolderId) (x : SupplyEntry) : s.entryGives except x = true ↔
    x.low ≤ x.high ∧ (x.cls = .ordinary ∨ s.stock.release ≠ none ∨ s.stock.condition = .critical) ∧
      x.low * 1000 ≤ s.yardStock ∧ s.yardStock ≤ x.high * 1000 + 999 ∧ s.usable x.holder = true ∧
      except ≠ some x.holder := by
  have eligible : s.classEligible x.cls = true
      ↔ x.cls = .ordinary ∨ s.stock.release ≠ none ∨ s.stock.condition = .critical := by
    cases x.cls <;> simp [State.classEligible, Option.isSome_iff_ne_none]
  simp only [State.entryGives, Bool.and_eq_true, decide_eq_true_eq, Bool.not_eq_true', decide_eq_false_iff_not,
    eligible, and_assoc]

/-- Settles O29. -/
theorem decodeTakesTheFirstEntry : Obligations.DecodeTakesTheFirstEntry := by
  unfold Obligations.DecodeTakesTheFirstEntry
  refine ⟨usable_iff, fun s except => ?_⟩
  intro gives
  have same : ∀ e : EntryId, s.entryGives except s.settings.supply[e] = true ↔ gives e := fun e => entryGives_iff s _ _
  constructor
  · intro h
    rw [State.decode, find?_map_eq_some_iff]
    simp only [same]
  · rw [State.decode, find?_map_eq_none_iff]
    simp only [same]

/-! ## The dwell timer (R50) -/

section
variable {s : State} {c n : HolderId}

theorem dwellExpired_idle (idle : s.control.phase = .setup ∨ s.selector.dwell ≠ some 0) :
    dwellExpired s = (s, []) := by
  refine if_neg ?_
  rcases idle with setup | early
  · simp [running_eq_false setup]
  · simp [due, early]

theorem dwellExpired_due (run : s.control.phase = .run) (expired : s.selector.dwell = some 0) :
    dwellExpired s = (s.putSelector { s.selector with dwell := none }, [.decodeTrigger]) :=
  if_pos (by simp [running_eq_true run, due, expired])

theorem decode_putSelector (x : Selector) (except : Option HolderId) :
    (s.putSelector x).decode except = s.decode except := rfl

theorem usable_putSelector (x : Selector) (h : HolderId) : (s.putSelector x).usable h = s.usable h := rfl

theorem unreported_putSelector (x : Selector) (k : ChannelId) : (s.putSelector x).unreported k = s.unreported k := rfl

/-- A trigger in STEADY with the condition known decodes and acts on the result (R41, R42). -/
theorem handle_decodeTrigger_steady (run : s.control.phase = .run) (steady : s.selector.state = .steady)
    (current : s.selector.current = some c) (known : s.stock.condition ≠ .unknown) :
    handle .decodeTrigger s = actSteady c (s.decode none) (s.noteDecode (s.decode none)) := by
  simp [handle, decodeTrigger, running_eq_true run, steady, current, known]

theorem actSteady_same : actSteady c (some c) s = (s.putSelector { s.selector with waiting := none }, []) := if_pos rfl

/-- Another result begins a DECODED changeover where neither the dwell nor a pin holds it back (R42). -/
theorem actSteady_other (other : n ≠ c) (dwell : s.selector.dwell = none) (pin : s.selector.pin = none) :
    actSteady c (some n) s = beginChange .decoded n none s := by
  simp [actSteady, other, dwell, pin]

theorem beginChange_eq (kind : ChangeKind) (serves : Option ChannelId) (pin : s.selector.pin = none)
    (current : s.selector.current = some c) :
    beginChange kind n serves s = (s.putSelector { s.selector with
        state := .changeover, waiting := none, pin := none
        change := some { kind := kind, old := some c, new := some n, closing := [toClose c], step := .openingNew,
                         serves := serves, openWait := .unasked } },
      [.notice (.changeoverBegun kind (some c) (some n)), .askOpenNew]) := by
  simp [beginChange, pin, current, pinLostWords]

end

/-- Settles O30. -/
theorem dwellExpiryDecodes : Obligations.DwellExpiryDecodes := by
  unfold Obligations.DwellExpiryDecodes
  intro s rest stopped
  refine ⟨fun idle => ?_, fun run expired => ?_⟩
  · exact (congrArg event (dwellExpired_idle idle)).trans (event_still rest.1)
  · have begins : exec .dwellExpiry s = event (stopped, [.decodeTrigger]) :=
      congrArg event (dwellExpired_due run expired)
    rw [begins]
    refine ⟨event_quiet rest.1 rfl, fun c steady current known => ?_⟩
    have decoded : handle .decodeTrigger stopped = actSteady c (s.decode none) (stopped.noteDecode (s.decode none)) :=
      handle_decodeTrigger_steady run steady current known
    refine ⟨fun same => ?_, fun n result other pin => ?_⟩
    · rw [same, actSteady_same] at decoded
      have words : Takes 1 false [.decodeTrigger] stopped _ := .cons rfl decoded (.nil _ _)
      exact congrArg Host.Outcome.next (words.settle (by omega) rest.1 (List.cons_ne_nil _ _) rest.2.1 rest.2.2)
    · have opens := beginChange_eq (s := stopped.noteDecode (some n)) (n := n) .decoded none pin current
      rw [result, actSteady_other (s := stopped.noteDecode (some n)) other rfl pin, opens] at decoded
      have words : Steps 2 false [.decodeTrigger] stopped [.askOpenNew] _ :=
        .cons rfl decoded (.cons rfl rfl (.refl _ _ _))
      refine ⟨_, rfl, Kept.trans ?_ (words.settle_kept (by omega) rest.1 (List.cons_ne_nil _ _) rfl)⟩
      exact Kept.putSelector (stopped.notify _) _

end Sys2Proof.Machine
end

section
/-!
SET HOLDER (R15).
-/

namespace Sys2Proof.Machine

/-! ## SET HOLDER (R15) -/

section
variable {tag : Byte} {body : List Byte} {s : State} {h : HolderId} {new : HolderSettings}

theorem holderSettings_stored (s : State) (h : HolderId) (new : HolderSettings) :
    (s.putSettings { s.settings with holders := s.settings.holders.set h.val new h.isLt }).holderSettings h = new := by
  simp [State.holderSettings]

/-- The new limits lie in range (R15). -/
def HolderSettings.fits (new : HolderSettings) : Prop :=
  if new.configured then holderSettingsOk new = true else marginOk new = true

theorem fits_iff (new : HolderSettings) :
    new.fits ↔ (if new.configured then holderSettingsOk new else marginOk new) = true := by
  unfold HolderSettings.fits
  split <;> rfl

theorem limitsChange_iff (old new : HolderSettings) : limitsChange old new = true ↔
    new.capacity ≠ old.capacity ∨ new.crownStop ≠ old.crownStop ∨ new.lowStop ≠ old.lowStop := by
  simp only [limitsChange, Bool.or_eq_true, decide_eq_true_eq, or_assoc]

theorem setHolderCheck_eq_badField (outside : ¬new.fits) : setHolderCheck h new s = .badField := by
  rw [fits_iff, Bool.not_eq_true] at outside
  simp [setHolderCheck, outside]

/-- The checks after the ranges. -/
theorem setHolderCheck_of_fits (inRange : new.fits) : setHolderCheck h new s =
    if s.control.phase = .run ∧ new.configured ≠ s.settings.holders[h].configured then .wrongPhase
    else if s.control.frozen = true ∧ (new.capacity ≠ s.settings.holders[h].capacity
        ∨ new.crownStop ≠ s.settings.holders[h].crownStop ∨ new.lowStop ≠ s.settings.holders[h].lowStop) then .frozen
    else if s.control.phase = .run ∧ new.configured = true ∧ ∃ n, (s.holder h).content = some n ∧ new.capacity < n then
      .badField
    else .ok := by
  have inRange := (fits_iff new).mp inRange
  have above : ((s.holder h).content.any fun n => decide (new.capacity < n)) = true
      ↔ ∃ n, (s.holder h).content = some n ∧ new.capacity < n := by
    cases (s.holder h).content <;> simp
  simp only [setHolderCheck, inRange, Bool.not_true, Bool.false_eq_true, if_false, State.running, Bool.and_eq_true,
    decide_eq_true_eq, limitsChange_iff, above, and_assoc]
  rfl

theorem holderSettingsOf_eq_none (bad : flagOf (field body 1 1) = none) : holderSettingsOf body = none := by
  simp [holderSettingsOf, bad]

theorem execSetHolder_badField (free : s.free) (length : body.length = 20)
    (bad : numberOf 4 (field body 0 1) = none ∨ flagOf (field body 1 1) = none) :
    execSetHolder tag body s = .next (s.answered 8 tag Status.badField.body) := by
  refine request_sized_answer free length ?_
  split
  next h new number read =>
    rcases bad with none | bad
    · exact nomatch none.symm.trans number
    · exact nomatch (holderSettingsOf_eq_none bad).symm.trans read
  next => rfl

section
variable (free : s.free) (length : body.length = 20) (number : numberOf 4 (field body 0 1) = some h)
  (read : holderSettingsOf body = some new)
include free length number read

theorem execSetHolder_refused {k : Status} (check : setHolderCheck h new s = k) (refused : k ≠ .ok) :
    execSetHolder tag body s = .next (s.answered 8 tag k.body) := by
  have checkInHand : setHolderCheck h new s.inHand = k := check
  refine request_sized_answer free length ?_
  simp only [number, read, checkInHand]

theorem execSetHolder_still {t : State} (check : setHolderCheck h new s = .ok)
    (stored : storeHolder h new s.inHand = (t.inHand, [])) (still : t.backlog = []) :
    execSetHolder tag body s = .next (t.answered 8 tag Status.ok.body) := by
  have checkInHand : setHolderCheck h new s.inHand = .ok := check
  refine request_sized_taken free length ?_ still
  simp only [number, read, checkInHand, stored]

theorem execSetHolder_quiet {t : State} {l : List Act} (check : setHolderCheck h new s = .ok)
    (stored : storeHolder h new s.inHand = (t.inHand, l)) (still : t.backlog = []) (inner : l.all Act.inner = true) :
    ∃ u, execSetHolder tag body s = .next u ∧ Kept (t.answered 8 tag Status.ok.body) u := by
  have checkInHand : setHolderCheck h new s.inHand = .ok := check
  refine request_quiet (e := (t.inHand, l)) free ?_ still inner
  simp only [sized, if_pos length, number, read, checkInHand, stored]

end

/-- The settings of a holder replaced. -/
def State.withHolder (s : State) (h : HolderId) (new : HolderSettings) : State :=
  s.putSettings { s.settings with holders := s.settings.holders.set h.val new }

theorem storeHolder_of_same (setup : s.control.phase = .setup)
    (same : new.configured = s.settings.holders[h].configured) : storeHolder h new s = (s.withHolder h new, []) := by
  simp only [storeHolder, running_eq_false setup, Bool.false_eq_true, if_false]
  exact if_pos same

theorem storeHolder_of_unclaimed (setup : s.control.phase = .setup)
    (other : new.configured ≠ s.settings.holders[h].configured)
    (claim : (s.valve (inletValve h)).claim ≠ .isolation h) :
    storeHolder h new s = ((s.withHolder h new).putHolder h Holder.atReset, []) := by
  simp only [storeHolder, running_eq_false setup, Bool.false_eq_true, if_false]
  refine (if_neg other).trans ?_
  rw [State.valve_putSettings_other, if_neg claim]
  rfl

theorem storeHolder_of_claimed (setup : s.control.phase = .setup)
    (other : new.configured ≠ s.settings.holders[h].configured)
    (claim : (s.valve (inletValve h)).claim = .isolation h) : storeHolder h new s
      = (((s.withHolder h new).putClaim (inletValve h) .unclaimed).putHolder h Holder.atReset, []) := by
  simp only [storeHolder, running_eq_false setup, Bool.false_eq_true, if_false]
  refine (if_neg other).trans ?_
  rw [State.valve_putSettings_other, if_pos claim]
  rfl

theorem storeHolder_of_run (run : s.control.phase = .run) : storeHolder h new s
    = if new.configured then rejudgeGuards h (s.withHolder h new) else (s.withHolder h new, []) := by
  simp only [storeHolder, running_eq_true run, if_true]
  rfl

theorem rejudgeGuards_of_none (none : (s.holder h).content = none) : rejudgeGuards h s = (s, []) := by
  simp [rejudgeGuards, none]

theorem rejudgeGuards_of_some {n : Nat} (content : (s.holder h).content = some n) :
    ∃ l, rejudgeGuards h s = (s.putHolder h (judgedHolder (s.holderSettings h) (s.holder h) n), l)
      ∧ l.all Act.inner = true := by
  simp only [rejudgeGuards, content]
  refine ⟨_, rfl, ?_⟩
  rw [List.all_append, guardWords_inner]
  split <;> rfl

end

/-- Settles O23, by the branches of the checks and of what is stored. -/
theorem setHolderStoresOrRefuses : Obligations.SetHolderStoresOrRefuses := by
  unfold Obligations.SetHolderStoresOrRefuses
  intro tag body s free length
  refine ⟨execSetHolder_badField free length, fun h new number read => ?_⟩
  intro old inRange phase locked above stored
  have fitting : inRange → setHolderCheck h new s = _ := setHolderCheck_of_fits
  have passes : inRange → ¬phase → ¬locked → ¬above → setHolderCheck h new s = .ok := fun fits right open' below => by
    rw [fitting fits, if_neg right, if_neg open', if_neg below]
  refine ⟨fun outside => ?_, fun fits wrong => ?_, fun fits right frozen => ?_, fun fits right open' high => ?_,
    fun fits open' setup same => ?_, fun fits open' setup other claim => ?_, fun fits open' setup other claim => ?_,
    fun fits right open' below run => ⟨fun unknown => ?_, fun n configured content => ?_⟩⟩
  · exact execSetHolder_refused free length number read (setHolderCheck_eq_badField outside) nofun
  · exact execSetHolder_refused free length number read ((fitting fits).trans (if_pos wrong)) nofun
  · refine execSetHolder_refused free length number read ((fitting fits).trans ?_) nofun
    rw [if_neg right, if_pos frozen]
  · refine execSetHolder_refused free length number read ((fitting fits).trans ?_) nofun
    rw [if_neg right, if_neg open', if_pos high]
  · exact execSetHolder_still (t := stored) free length number read (passes fits (by simp [phase, setup]) open'
      (by simp [above, setup])) (storeHolder_of_same setup same) free.1
  · exact execSetHolder_still (t := stored.putHolder h Holder.atReset) free length number read
      (passes fits (by simp [phase, setup]) open' (by simp [above, setup])) (storeHolder_of_unclaimed setup other claim)
      free.1
  · exact execSetHolder_still (t := (stored.putClaim (inletValve h) .unclaimed).putHolder h Holder.atReset) free length
      number read (passes fits (by simp [phase, setup]) open' (by simp [above, setup]))
      (storeHolder_of_claimed setup other claim) free.1
  · refine execSetHolder_still (t := stored) free length number read (passes fits right open' below) ?_ free.1
    rw [storeHolder_of_run (s := s.inHand) run]
    rcases unknown with off | none
    · rw [off]
      rfl
    · rw [rejudgeGuards_of_none (s := s.inHand.withHolder h new) none]
      exact ite_self _
  · obtain ⟨l, judged, inner⟩ := rejudgeGuards_of_some (s := s.inHand.withHolder h new) (h := h) content
    refine execSetHolder_quiet (l := l) free length number read (passes fits right open' below) ?_ free.1 inner
    rw [storeHolder_of_run (s := s.inHand) run, configured, if_pos rfl, judged, State.withHolder, holderSettings_stored]
    rfl

end Sys2Proof.Machine
end

section
/-!
Holder faults, RETURN HOLDER and CLEAR HOLDER FAULT (R21 to R27).
-/

namespace Sys2Proof.Machine

/-! ## Holder faults (R21, R22) -/

section
variable {s : State} {h : HolderId}

/-- A holder in FAULT, as R22 records it. -/
def State.faulted (s : State) (h : HolderId) (cause : HolderFault) : State :=
  s.putHolder h { s.holder h with
    state := .fault, cause := some cause, content := none, silence := none, closeWait := .nothing }

/-- Besides the record of the holder only its isolation claim changes. -/
theorem enterHolderFault_kept (cause : HolderFault) (sound : (s.holder h).state ≠ .fault) :
    Kept (s.faulted h cause) (enterHolderFault h cause s).1 := by
  simp only [enterHolderFault, if_neg sound]
  split
  · exact (releaseIsolation_quiet h _).kept
  · exact .refl _

theorem settle_enterHolderFault (cause : HolderFault) (rest : s.backlog = []) (sound : (s.holder h).state ≠ .fault) :
    Kept (s.faulted h cause) (settle (enterHolderFault h cause s)) :=
  (enterHolderFault_kept cause sound).trans
    (settle_kept (by rw [(aside_enterHolderFault ..).1, rest]) (enterHolderFault_inner h cause s))

theorem takeReading_above {n : Nat} (run : s.control.phase = .run)
    (configured : s.settings.holders[h].configured = true)
    (sound : (s.holder h).state ≠ .fault) (above : s.settings.holders[h].capacity < n) :
    takeReading h n s = enterHolderFault h .liftRange s := by
  refine (if_neg ?_).trans (if_pos above)
  simpa [running_eq_true run, sound, State.holderSettings] using configured

theorem silenceExpired_due (run : s.control.phase = .run) (expired : (s.holder h).silence = some 0)
    (active : (s.holder h).state = .service ∨ (s.holder h).state = .isolating) :
    silenceExpired h s = enterHolderFault h .liftSilent s :=
  if_pos (by simp [running_eq_true run, due, expired, active])

theorem silenceExpired_idle (idle : s.control.phase = .setup ∨ (s.holder h).silence ≠ some 0
    ∨ (s.holder h).state = .isolated ∨ (s.holder h).state = .fault) : silenceExpired h s = (s, []) := by
  refine if_neg ?_
  rcases idle with setup | early | isolated | fault
  · simp [running_eq_false setup]
  · simp [due, early]
  · simp [isolated]
  · simp [fault]

end

/-- Settles O25. -/
theorem holderFaultsAreEntered : Obligations.HolderFaultsAreEntered := by
  unfold Obligations.HolderFaultsAreEntered
  intro h w s rest old faulted
  refine ⟨fun run configured sound above => ?_, fun run expired active => ?_, fun idle => ?_⟩
  · refine ⟨_, congrArg event (takeReading_above run configured sound above), ?_⟩
    exact settle_enterHolderFault .liftRange rest sound
  · refine ⟨_, congrArg event (silenceExpired_due run expired active), ?_⟩
    refine settle_enterHolderFault .liftSilent rest fun fault => ?_
    rcases active with service | isolating
    · exact nomatch service.symm.trans fault
    · exact nomatch isolating.symm.trans fault
  · exact (congrArg event (silenceExpired_idle idle)).trans (event_still rest)

/-- A request of the right length whose taking hands on inner words. -/
theorem request_sized_quiet {code n : Nat} {tag : Byte} {body : List Byte} {owner : State → Taken} {s t : State}
    {e : Effect} {k : Status} (free : s.free) (length : body.length = n) (took : owner s.inHand = taken k e)
    (state : Kept t.inHand e.1) (rest : e.1.backlog = []) (inner : e.2.all Act.inner = true) :
    ∃ u, request code tag (sized n body owner) s = .next u ∧ Kept (t.answered code tag k.body) u := by
  obtain ⟨u, hu, kept⟩ := request_quiet (code := code) (tag := tag) (owner := sized n body owner) free
    ((if_pos length).trans took) rest inner
  exact ⟨u, hu, (state.answered code tag k.body).trans kept⟩

/-! ## RETURN HOLDER and CLEAR HOLDER FAULT (R23, R27) -/

section
variable {tag n : Byte} {s : State} {h : HolderId}

theorem holderCheck_noSuch (blank : s.settings.holders[h].configured = false) : holderCheck h s = .noSuch :=
  if_pos (by simpa [State.holderSettings] using blank)

theorem holderCheck_wrongPhase (configured : s.settings.holders[h].configured = true)
    (setup : s.control.phase = .setup) : holderCheck h s = .wrongPhase := by
  refine (if_neg ?_).trans (if_pos ?_)
  · simpa [State.holderSettings] using configured
  · simp [running_eq_false setup]

theorem holderCheck_ok (configured : s.settings.holders[h].configured = true)
    (run : s.control.phase = .run) : holderCheck h s = .ok := by
  refine (if_neg ?_).trans (if_neg ?_)
  · simpa [State.holderSettings] using configured
  · simp [running_eq_true run]

theorem execReturnHolder_badField (free : s.free) (outside : numberOf 4 n.toNat = none) :
    execReturnHolder tag [n] s = .next (s.answered 11 tag Status.badField.body) := by
  refine request_sized_answer free rfl ?_
  simp only [field_singleton, outside]

theorem execClearHolderFault_badField (free : s.free) (outside : numberOf 4 n.toNat = none) :
    execClearHolderFault tag [n] s = .next (s.answered 12 tag Status.badField.body) := by
  refine request_sized_answer free rfl ?_
  simp only [field_singleton, outside]

section
variable (free : s.free) (number : numberOf 4 n.toNat = some h)
include free number

theorem execReturnHolder_unchecked {k : Status} (check : holderCheck h s = k)
    (refused : k = .noSuch ∨ k = .wrongPhase) :
    execReturnHolder tag [n] s = .next (s.answered 11 tag k.body) := by
  have checkInHand : holderCheck h s.inHand = k := check
  refine request_sized_answer free rfl ?_
  rcases refused with rfl | rfl <;> simp only [field_singleton, number, checkInHand]

theorem execClearHolderFault_unchecked {k : Status} (check : holderCheck h s = k)
    (refused : k = .noSuch ∨ k = .wrongPhase) :
    execClearHolderFault tag [n] s = .next (s.answered 12 tag k.body) := by
  have checkInHand : holderCheck h s.inHand = k := check
  refine request_sized_answer free rfl ?_
  rcases refused with rfl | rfl <;> simp only [field_singleton, number, checkInHand]

variable (check : holderCheck h s = .ok)
include check

/-- What RETURN HOLDER answers in the states in which it changes nothing. -/
theorem execReturnHolder_answer {k : Status} (answers : (s.holder h).state = .fault ∧ k = .faulted
    ∨ (s.holder h).state = .isolating ∧ k = .inUse ∨ (s.holder h).state = .service ∧ k = .ok) :
    execReturnHolder tag [n] s = .next (s.answered 11 tag k.body) := by
  have checkInHand : holderCheck h s.inHand = .ok := check
  refine request_sized_answer free rfl ?_
  rcases answers with ⟨state, rfl⟩ | ⟨state, rfl⟩ | ⟨state, rfl⟩ <;>
    simp only [field_singleton, number, checkInHand, show (s.inHand.holder h).state = _ from state]

theorem execReturnHolder_isolated (state : (s.holder h).state = .isolated) :
    ∃ t, execReturnHolder tag [n] s = .next t ∧ Kept ((s.putHolder h { s.holder h with
      state := .service, silence := some s.settings.holders[h].silence }).answered 11 tag Status.ok.body) t := by
  have checkInHand : holderCheck h s.inHand = .ok := check
  have isolated : (s.inHand.holder h).state = .isolated := state
  refine request_sized_quiet (e := returnToService h s.inHand) free rfl ?_ (releaseIsolation_quiet h _).kept ?_ ?_
  · simp only [field_singleton, number, checkInHand, isolated]
  · rw [(aside_returnToService ..).1]
    exact free.1
  · exact (List.all_append ..).trans (Bool.and_eq_true_iff.mpr ⟨(releaseIsolation_quiet h _).inner, rfl⟩)

theorem execClearHolderFault_sound (sound : (s.holder h).state ≠ .fault) :
    execClearHolderFault tag [n] s = .next (s.answered 12 tag Status.ok.body) := by
  have checkInHand : holderCheck h s.inHand = .ok := check
  have soundInHand : (s.inHand.holder h).state ≠ .fault := sound
  refine request_sized_answer free rfl ?_
  simp only [field_singleton, number, checkInHand]

theorem execClearHolderFault_fault (state : (s.holder h).state = .fault) :
    ∃ t, execClearHolderFault tag [n] s = .next t ∧ Kept ((s.putHolder h { s.holder h with
      state := .service, cause := none, content := none, sinceReading := none,
      silence := some s.settings.holders[h].silence }).answered 12 tag Status.ok.body) t := by
  have checkInHand : holderCheck h s.inHand = .ok := check
  have fault : (s.inHand.holder h).state = .fault := state
  refine request_sized_quiet (e := clearHolder h s.inHand) free rfl ?_ (.refl _) free.1 rfl
  simp only [field_singleton, number, checkInHand, fault]

end

end

/-- Settles O27. -/
theorem holdersReturnToService : Obligations.HoldersReturnToService := by
  unfold Obligations.HoldersReturnToService
  intro tag n s free back clear
  refine ⟨fun outside => ⟨execReturnHolder_badField free outside, execClearHolderFault_badField free outside⟩,
    fun h number => ⟨fun blank => ?_, fun configured setup => ?_, fun configured run => ?_⟩⟩
  · have check := holderCheck_noSuch blank
    exact ⟨execReturnHolder_unchecked free number check (.inl rfl),
      execClearHolderFault_unchecked free number check (.inl rfl)⟩
  · have check := holderCheck_wrongPhase configured setup
    exact ⟨execReturnHolder_unchecked free number check (.inr rfl),
      execClearHolderFault_unchecked free number check (.inr rfl)⟩
  · have check := holderCheck_ok configured run
    exact ⟨fun fault => execReturnHolder_answer free number check (.inl ⟨fault, rfl⟩),
      execClearHolderFault_sound free number check,
      fun isolating => execReturnHolder_answer free number check (.inr (.inl ⟨isolating, rfl⟩)),
      fun service => execReturnHolder_answer free number check (.inr (.inr ⟨service, rfl⟩)),
      execReturnHolder_isolated free number check, execClearHolderFault_fault free number check⟩

end Sys2Proof.Machine
end

section
/-!
SET LADDER and the reserve release (R30 to R33).
-/

namespace Sys2Proof.Machine

/-! ## SET LADDER (R30, R31) -/

section
variable {tag : Byte} {body : List Byte} {s : State} {new : Ladder}

/-- The ladder lines replaced. -/
def State.withLadder (s : State) (new : Ladder) : State := s.putSettings { s.settings with ladder := new }

theorem setLadderCheck_badField (falls : ¬(new.critical ≤ new.reserve ∧ new.reserve ≤ new.crown)) :
    setLadderCheck new s = .badField := if_pos falls

theorem setLadderCheck_frozen (ascends : new.critical ≤ new.reserve ∧ new.reserve ≤ new.crown)
    (locked : s.control.frozen = true ∧ new ≠ s.settings.ladder) : setLadderCheck new s = .frozen := by
  refine (if_neg (not_not_intro ascends)).trans (if_pos ?_)
  simp [locked.1, locked.2]

theorem setLadderCheck_ok (ascends : new.critical ≤ new.reserve ∧ new.reserve ≤ new.crown)
    (unlocked : ¬(s.control.frozen = true ∧ new ≠ s.settings.ladder)) : setLadderCheck new s = .ok := by
  refine (if_neg (not_not_intro ascends)).trans (if_neg ?_)
  simpa using unlocked

/-- The condition that is judged and stays hands on nothing. -/
theorem judgeStock_of_same (same : s.control.phase = .setup ∨ s.conditionNow = s.stock.condition) :
    judgeStock s = (s, []) := by
  have stands : setCondition s = s := by
    unfold setCondition
    rcases same with setup | same
    · simp [running_eq_false setup]
    · rw [same]
      exact ite_self _
  simp [judgeStock, stands, conditionWords]

theorem storeLadder_of_same
    (same : s.control.phase = .setup ∨ (s.withLadder new).conditionNow = s.stock.condition) :
    storeLadder new s = (s.withLadder new, []) := by
  have judged : judgeStock (s.withLadder new) = (s.withLadder new, []) := judgeStock_of_same same
  simp only [storeLadder]
  rw [show judgeStock (s.putSettings { s.settings with ladder := new }) = _ from judged]
  exact congrArg (Prod.mk _) (if_pos rfl)

theorem storeLadder_state : (storeLadder new s).1 = setCondition (s.withLadder new) := rfl

theorem storeLadder_inner : (storeLadder new s).2.all Act.inner = true := by
  refine (List.all_append ..).trans (Bool.and_eq_true_iff.mpr ⟨(judgeStock_quiet _).inner, ?_⟩)
  split <;> rfl

section
variable (free : s.free) (length : body.length = 6)
include free length

theorem execSetLadder_refused {k : Status} (refused : k ≠ .ok) (check : setLadderCheck
      { critical := field body 0 2, reserve := field body 2 2, crown := field body 4 2 } s = k) :
    execSetLadder tag body s = .next (s.answered 13 tag k.body) := by
  refine request_sized_answer free length ?_
  simp only [show setLadderCheck { critical := field body 0 2, reserve := field body 2 2, crown := field body 4 2 }
    s.inHand = k from check]

theorem execSetLadder_kept (new : Ladder)
    (read : { critical := field body 0 2, reserve := field body 2 2, crown := field body 4 2 } = new)
    (check : setLadderCheck new s = .ok) :
    ∃ t, execSetLadder tag body s = .next t ∧ Kept ((s.withLadder new).answered 13 tag Status.ok.body) t := by
  refine request_sized_quiet (e := storeLadder new s.inHand) free length ?_ (setCondition_kept _) ?_ storeLadder_inner
  · simp only [read, show setLadderCheck new s.inHand = .ok from check]
  · rw [storeLadder_state, (aside_setCondition ..).1]
    exact free.1

theorem execSetLadder_still (new : Ladder)
    (read : { critical := field body 0 2, reserve := field body 2 2, crown := field body 4 2 } = new)
    (check : setLadderCheck new s = .ok)
    (same : s.control.phase = .setup ∨ (s.withLadder new).conditionNow = s.stock.condition) :
    execSetLadder tag body s = .next ((s.withLadder new).answered 13 tag Status.ok.body) := by
  refine request_sized_taken free length ?_ free.1
  simp only [read, show setLadderCheck new s.inHand = .ok from check]
  rw [storeLadder_of_same (s := s.inHand) same]
  rfl

end
end

/-! ## The reserve release (R32, R33) -/

section
variable {tag : Byte} {body : List Byte} {s : State}

/-- The release timer set. -/
def State.withRelease (s : State) (left : Option Nat) : State := s.putStock { s.stock with release := left }

section
variable (free : s.free) (length : body.length = 2)
include free length

theorem execReleaseReserve_badField (outside : ¬(15 ≤ field body 0 2 ∧ field body 0 2 ≤ 240)) :
    execReleaseReserve tag body s = .next (s.answered 14 tag Status.badField.body) :=
  request_sized_answer free length (if_pos (by omega))

variable (inRange : 15 ≤ field body 0 2 ∧ field body 0 2 ≤ 240)
include inRange

theorem execReleaseReserve_wrongPhase (setup : s.control.phase = .setup) :
    execReleaseReserve tag body s = .next (s.answered 14 tag Status.wrongPhase.body) :=
  request_sized_answer free length ((if_neg (by omega)).trans (if_pos (by
    simp [running_eq_false (s := s.inHand) setup])))

theorem execReleaseReserve_again (run : s.control.phase = .run) (active : s.stock.release ≠ none) :
    execReleaseReserve tag body s
      = .next ((s.withRelease (some (field body 0 2 * 60))).answered 14 tag Status.ok.body) := by
  refine request_sized_taken free length ?_ free.1
  refine (if_neg (by omega)).trans ((if_neg (by simp [running_eq_true (s := s.inHand) run])).trans ?_)
  rw [if_pos (show s.inHand.stock.release.isSome = true from Option.isSome_iff_ne_none.mpr active)]
  rfl

theorem execReleaseReserve_new (run : s.control.phase = .run) (inactive : s.stock.release = none) :
    ∃ t, execReleaseReserve tag body s = .next t
      ∧ Kept ((s.withRelease (some (field body 0 2 * 60))).answered 14 tag Status.ok.body) t := by
  refine request_sized_quiet
    (e := (s.inHand.withRelease (some (field body 0 2 * 60)), [.findSetpoints, .decodeTrigger])) free length ?_
    (.refl _) free.1 rfl
  refine (if_neg (by omega)).trans ((if_neg (by simp [running_eq_true (s := s.inHand) run])).trans ?_)
  rw [if_neg (by simp [State.inHand, inactive])]
  rfl

end

section
variable (free : s.free)
include free

theorem execWithdrawRelease_wrongPhase (setup : s.control.phase = .setup) :
    execWithdrawRelease tag [] s = .next (s.answered 15 tag Status.wrongPhase.body) :=
  request_sized_answer free rfl (if_pos (by simp [running_eq_false (s := s.inHand) setup]))

theorem execWithdrawRelease_inactive (run : s.control.phase = .run) (inactive : s.stock.release = none) :
    execWithdrawRelease tag [] s = .next (s.answered 15 tag Status.ok.body) :=
  request_sized_answer free rfl ((if_neg (by simp [running_eq_true (s := s.inHand) run])).trans (if_pos (by
    simp [State.inHand, inactive])))

theorem execWithdrawRelease_active (run : s.control.phase = .run) (active : s.stock.release ≠ none) :
    ∃ t, execWithdrawRelease tag [] s = .next t ∧ Kept ((s.withRelease none).answered 15 tag Status.ok.body) t :=
  request_sized_quiet (e := endRelease [] s.inHand) free rfl
    ((if_neg (by simp [running_eq_true (s := s.inHand) run])).trans (if_neg (by simpa [State.inHand] using active)))
    (.refl _) free.1 rfl

end

theorem releaseExpired_due (run : s.control.phase = .run) (expired : s.stock.release = some 0) :
    releaseExpired s = endRelease [.notice .releaseExpired] s := if_pos (by simp [running_eq_true run, due, expired])

theorem releaseExpired_idle (idle : s.control.phase = .setup ∨ s.stock.release ≠ some 0) :
    releaseExpired s = (s, []) := by
  refine if_neg ?_
  rcases idle with setup | early
  · simp [running_eq_false setup]
  · simp [due, early]

/-- The notice of an expiry goes first, and then words that `Kept` covers. -/
theorem settle_endRelease_notice (rest : s.backlog = []) :
    Kept ((s.withRelease none).notify .releaseExpired) (settle (endRelease [.notice .releaseExpired] s)) := by
  have words : Steps 1 false [.notice .releaseExpired, .findSetpoints, .decodeTrigger] (s.withRelease none)
      [.findSetpoints, .decodeTrigger] ((s.withRelease none).notify .releaseExpired) := .cons rfl rfl (.refl _ _ _)
  exact words.settle_kept (by omega) rest (List.cons_ne_nil _ _) rfl

end

/-- Settles O28. -/
theorem ladderAndRelease : Obligations.LadderAndRelease := by
  unfold Obligations.LadderAndRelease
  refine ⟨fun tag body s free length => ?_, fun tag body s free => ⟨fun length => ?_, ?_⟩⟩
  · intro new ascends locked stored refusal
    refine ⟨fun falls => ?_, fun ascends frozen => ?_, fun ascends unlocked => ⟨?_, fun same => ?_⟩⟩
    · exact execSetLadder_refused free length nofun (setLadderCheck_badField falls)
    · exact execSetLadder_refused free length nofun (setLadderCheck_frozen ascends frozen)
    · obtain ⟨t, ht, kept⟩ := execSetLadder_kept (tag := tag) free length new rfl (setLadderCheck_ok ascends unlocked)
      exact ⟨t, ht, kept.toKept0⟩
    · exact execSetLadder_still free length new rfl (setLadderCheck_ok ascends unlocked) same
  · exact ⟨execReleaseReserve_badField free length, execReleaseReserve_wrongPhase free length,
      execReleaseReserve_again free length, execReleaseReserve_new free length⟩
  · exact ⟨execWithdrawRelease_wrongPhase free, execWithdrawRelease_inactive free, execWithdrawRelease_active free,
      fun run expired => ⟨_, congrArg event (releaseExpired_due run expired), settle_endRelease_notice free.1⟩,
      fun idle => (congrArg event (releaseExpired_idle idle)).trans (event_still free.1)⟩

end Sys2Proof.Machine
end

section
/-!
LOAD ORDER.
-/

namespace Sys2Proof.Machine

/-! ## LOAD ORDER (R78, R183) -/

section
variable {body : List Byte} {s : State} {next : Option OrderId} {h m : HolderId} {d : Disposition} {n : Nat}

theorem namedHolder_eq (number : numberOf 4 n = some h) (configured : s.settings.holders[h].configured = true) :
    s.namedHolder n = some h := by
  simp only [State.namedHolder, number, State.holderSettings, configured, if_true]

theorem namedHolder_of_outside (outside : numberOf 4 n = none) : s.namedHolder n = none := by
  simp only [State.namedHolder, outside]

theorem namedHolder_of_blank (number : numberOf 4 n = some h) (blank : s.settings.holders[h].configured = false) :
    s.namedHolder n = none := by
  simp only [State.namedHolder, number, State.holderSettings, blank, Bool.false_eq_true, if_false]

section
variable (onwards : nextOf (field body 14 1) = some next)
include onwards

theorem orderOf_receive (kind : field body 1 1 = 1) (plain : bitOf (field body 13 1) 0 = false)
    (dest : s.namedHolder (field body 2 1) = some h) (disposition : dispositionOf (field body 12 1) = some d)
    (fits : field body 6 4 ≤ s.settings.holders[h].crownStop) :
    orderOf body s = some { commonOrder body .receive next with
      dest := some h, target := field body 6 4, disposition := some d } := by
  have plainOrder : (commonOrder body .receive next).forceSource = false := plain
  simpa [orderOf, orderKindOf, kind, onwards, plainOrder, dest, disposition, State.holderSettings] using fits

theorem orderOf_transfer (kind : field body 1 1 = 2) (dest : s.namedHolder (field body 2 1) = some h)
    (src : s.namedHolder (field body 3 1) = some m) (other : h ≠ m)
    (disposition : dispositionOf (field body 12 1) = some d) (some' : field body 6 4 ≠ 0) :
    orderOf body s = some { commonOrder body .transfer next with
      dest := some h, src := some m, target := field body 6 4, disposition := some d } := by
  simp [orderOf, orderKindOf, kind, onwards, dest, src, disposition, other, some']

theorem orderOf_admitSource {x : SourceId} (kind : field body 1 1 = 3) (plain : bitOf (field body 13 1) 0 = false)
    (source : numberOf 4 (field body 4 1) = some x) :
    orderOf body s = some { commonOrder body .admitSource next with source := some x } := by
  have plainOrder : (commonOrder body .admitSource next).forceSource = false := plain
  simp [orderOf, orderKindOf, kind, onwards, plainOrder, source]

theorem orderOf_cut {x : SourceId} (kind : field body 1 1 = 4) (plain : bitOf (field body 13 1) 0 = false)
    (source : numberOf 4 (field body 4 1) = some x) :
    orderOf body s = some { commonOrder body .cut next with source := some x } := by
  have plainOrder : (commonOrder body .cut next).forceSource = false := plain
  simp [orderOf, orderKindOf, kind, onwards, plainOrder, source]

theorem orderOf_wait {f : TargetForm} (kind : field body 1 1 = 5) (plain : bitOf (field body 13 1) 0 = false)
    (form : formOf (field body 5 1) = some f) (fits : waitTargetOk f (field body 6 4) = true) :
    orderOf body s = some { commonOrder body .wait next with form := some f, target := field body 6 4 } := by
  have plainOrder : (commonOrder body .wait next).forceSource = false := plain
  simp [orderOf, orderKindOf, kind, onwards, plainOrder, form, fits]

end

/-! ### What R78 refuses -/

theorem orderOf_none_of_kind (outside : orderKindOf (field body 1 1) = none) : orderOf body s = none := by
  simp [orderOf, outside]

theorem orderOf_none_of_next (outside : nextOf (field body 14 1) = none) : orderOf body s = none := by
  simp [orderOf, outside]

theorem orderKindOf_eq_transfer {k : Nat} (h : orderKindOf k = some .transfer) : k = 2 := by
  unfold orderKindOf at h
  split at h <;> simp_all

theorem orderOf_none_of_force (force : bitOf (field body 13 1) 0 = true) (kind : field body 1 1 ≠ 2) :
    orderOf body s = none := by
  have forced : ∀ k next, (commonOrder body k next).forceSource = true := fun _ _ => force
  unfold orderOf
  cases named : orderKindOf (field body 1 1) with
  | none => rfl
  | some k =>
    have other : k ≠ .transfer := fun same => kind (orderKindOf_eq_transfer (same ▸ named))
    cases nextOf (field body 14 1) with
    | none => rfl
    | some next => simp [forced, other]

theorem orderOf_none_of_dest (kind : field body 1 1 = 1 ∨ field body 1 1 = 2)
    (dest : s.namedHolder (field body 2 1) = none) : orderOf body s = none := by
  unfold orderOf
  rcases kind with kind | kind <;> cases nextOf (field body 14 1) <;> simp [orderKindOf, kind, dest]

theorem orderOf_none_of_src (kind : field body 1 1 = 2) (src : s.namedHolder (field body 3 1) = none) :
    orderOf body s = none := by
  unfold orderOf
  cases nextOf (field body 14 1) <;> simp [orderKindOf, kind, src]

theorem orderOf_none_of_same (kind : field body 1 1 = 2) (same : field body 2 1 = field body 3 1) :
    orderOf body s = none := by
  cases named : s.namedHolder (field body 3 1) with
  | none => exact orderOf_none_of_src kind named
  | some h =>
    unfold orderOf
    cases nextOf (field body 14 1) <;> cases dispositionOf (field body 12 1) <;> simp [orderKindOf, kind, same, named]

theorem orderOf_none_of_high (kind : field body 1 1 = 1) (number : numberOf 4 (field body 2 1) = some h)
    (high : s.settings.holders[h].crownStop < field body 6 4) : orderOf body s = none := by
  cases configured : s.settings.holders[h].configured with
  | false => exact orderOf_none_of_dest (.inl kind) (namedHolder_of_blank number configured)
  | true =>
    have fails : (s.holderSettings h).crownStop < field body 6 4 := high
    unfold orderOf
    cases nextOf (field body 14 1) <;> cases dispositionOf (field body 12 1) <;>
      simp [orderKindOf, kind, namedHolder_eq number configured, fails]

theorem orderOf_none_of_zero (kind : field body 1 1 = 2) (zero : field body 6 4 = 0) : orderOf body s = none := by
  unfold orderOf
  cases nextOf (field body 14 1) <;> cases s.namedHolder (field body 2 1) <;> cases s.namedHolder (field body 3 1) <;>
    cases dispositionOf (field body 12 1) <;> simp [orderKindOf, kind, zero]

theorem orderOf_none_of_source (kind : field body 1 1 = 3 ∨ field body 1 1 = 4)
    (source : numberOf 4 (field body 4 1) = none) : orderOf body s = none := by
  unfold orderOf
  rcases kind with kind | kind <;> cases nextOf (field body 14 1) <;> simp [orderKindOf, kind, source]

theorem orderOf_none_of_wait {f : TargetForm} (kind : field body 1 1 = 5) (form : formOf (field body 5 1) = some f)
    (outside : waitTargetOk f (field body 6 4) = false) : orderOf body s = none := by
  unfold orderOf
  cases nextOf (field body 14 1) <;> simp [orderKindOf, kind, form, outside]

/-! ### The request -/

theorem loadEncodingOk_of_le (kind : field body 1 1 ≤ 5)
    (disposition : field body 1 1 = 1 ∨ field body 1 1 = 2 → field body 12 1 ≤ 2)
    (form : field body 1 1 = 5 → field body 5 1 ≤ 2) : loadEncodingOk body = true := by
  have moves : ∀ k : Nat, (!(decide (k = 1) || decide (k = 2))) = true ∨ k = 1 ∨ k = 2 := fun k => by
    simp only [Bool.not_eq_true', Bool.or_eq_false_iff, decide_eq_false_iff_not]
    omega
  simp only [loadEncodingOk, Bool.and_eq_true, Bool.or_eq_true, decide_eq_true_eq, Bool.not_eq_true',
    decide_eq_false_iff_not]
  refine ⟨⟨kind, ?_⟩, ?_⟩
  · rcases Decidable.em (field body 1 1 = 1 ∨ field body 1 1 = 2) with moves | still
    · exact .inr (disposition moves)
    · left
      simpa using still
  · rcases Decidable.em (field body 1 1 = 5) with wait | other
    · exact .inr (form wait)
    · exact .inl other

theorem le_two_of_dispositionOf {k : Nat} (h : dispositionOf k = some d) : k ≤ 2 := by
  unfold dispositionOf at h
  split at h <;> simp_all

section
variable {tag : Byte} {k : OrderId} (free : s.free) (length : body.length = 15)
include free length

theorem execLoadOrder_badField (bad : slotOf (field body 0 1) = none ∨ orderOf body s = none)
    (still : ∀ k, slotOf (field body 0 1) = some k → s.isCurrent k = false) :
    execLoadOrder tag body s = .next (s.answered 23 tag Status.badField.body) := by
  refine request_sized_answer free length ?_
  cases loadEncodingOk body with
  | false => rfl
  | true =>
    cases slot : slotOf (field body 0 1) with
    | none => rfl
    | some k =>
      have order : orderOf body s.inHand = none := bad.resolve_left (by simp [slot])
      have notCurrent : s.inHand.isCurrent k = false := still k slot
      simp only [notCurrent, order]
      rfl

variable (slot : slotOf (field body 0 1) = some k)
include slot

theorem execLoadOrder_inUse (encoded : loadEncodingOk body = true) (current : s.isCurrent k = true) :
    execLoadOrder tag body s = .next (s.answered 23 tag Status.inUse.body) := by
  have currentInHand : s.inHand.isCurrent k = true := current
  refine request_sized_answer free length ?_
  simp only [encoded, slot, currentInHand]
  rfl

theorem execLoadOrder_ok {o : Order} (encoded : loadEncodingOk body = true) (still : s.isCurrent k = false)
    (order : orderOf body s = some o) : execLoadOrder tag body s
      = .next ((s.putOrder k { OrderSlot.empty with order := o, status := .loaded }).answered 23 tag
          Status.ok.body) := by
  have stillInHand : s.inHand.isCurrent k = false := still
  have orderInHand : orderOf body s.inHand = some o := order
  refine request_sized_taken free length ?_ free.1
  simp only [encoded, slot, stillInHand, orderInHand]
  rfl

end

end

/-- Settles O35, kind by kind, and refusal by refusal. -/
theorem loadOrderStoresOrRefuses : Obligations.LoadOrderStoresOrRefuses := by
  unfold Obligations.LoadOrderStoresOrRefuses
  refine ⟨fun tag body n s free length slot => ?_, fun tag body s free length => ?_⟩
  · intro kind target force base loads
    have loaded : ∀ o, loadEncodingOk body = true → s.isCurrent n = false → orderOf body s = some o → loads o :=
      fun o encoded still order => execLoadOrder_ok free length slot encoded still order
    refine ⟨fun current low high disposition form => ?_, fun still next onwards => ⟨fun h k isKind plain number
      configured disposition fits => ?_, fun h m k isKind dest src destSet srcSet other disposition nonzero => ?_,
      fun x isKind plain source => ?_, fun x isKind plain source => ?_, fun isKind plain form fits => ?_,
      fun isKind plain form low fits => ?_⟩⟩
    · exact execLoadOrder_inUse free length slot
        (loadEncodingOk_of_le high (fun _ => disposition) (fun _ => form)) current
    · refine loaded _ (loadEncodingOk_of_le (by omega) (fun _ => le_two_of_dispositionOf disposition) (by omega)) still
        ?_
      exact orderOf_receive onwards isKind plain (namedHolder_eq number configured) disposition fits
    · refine loaded _ (loadEncodingOk_of_le (by omega) (fun _ => le_two_of_dispositionOf disposition) (by omega)) still
        ?_
      exact orderOf_transfer onwards isKind (namedHolder_eq dest destSet) (namedHolder_eq src srcSet) other disposition
        nonzero
    · refine loaded _ (loadEncodingOk_of_le (by omega) (by omega) (by omega)) still ?_
      exact orderOf_admitSource onwards isKind plain source
    · refine loaded _ (loadEncodingOk_of_le (by omega) (by omega) (by omega)) still ?_
      exact orderOf_cut onwards isKind plain source
    · refine loaded _ (loadEncodingOk_of_le (by omega) (by omega) (by omega)) still ?_
      exact orderOf_wait onwards isKind plain (f := .minute) (by rw [form]; rfl) (by simpa [waitTargetOk] using fits)
    · refine loaded _ (loadEncodingOk_of_le (by omega) (by omega) (by omega)) still ?_
      exact orderOf_wait onwards isKind plain (f := .duration) (by rw [form]; rfl)
        (by simpa [waitTargetOk] using ⟨low, fits⟩)
  · intro kind target force refused
    refine ⟨fun outside => execLoadOrder_badField free length (.inl outside) (by simp [outside]),
      fun n slot still => ?_⟩
    have refuse : orderOf body s = none → refused := fun none =>
      execLoadOrder_badField free length (.inr none) fun k other => by
        cases slot.symm.trans other
        exact still
    refine ⟨fun outside => refuse (orderOf_none_of_kind ?_), fun outside => refuse (orderOf_none_of_next outside),
      fun forced other => refuse (orderOf_none_of_force forced other),
      fun isKind outside => refuse (orderOf_none_of_dest isKind (namedHolder_of_outside outside)),
      fun h isKind number blank => refuse (orderOf_none_of_dest isKind (namedHolder_of_blank number blank)),
      fun isKind outside => refuse (orderOf_none_of_src isKind (namedHolder_of_outside outside)),
      fun m isKind number blank => refuse (orderOf_none_of_src isKind (namedHolder_of_blank number blank)),
      fun isKind same => refuse (orderOf_none_of_same isKind same),
      fun h isKind number high => refuse (orderOf_none_of_high isKind number high),
      fun isKind zero => refuse (orderOf_none_of_zero isKind zero),
      fun isKind outside => refuse (orderOf_none_of_source isKind outside),
      fun isKind form high => refuse (orderOf_none_of_wait (f := .minute) isKind (by rw [form]; rfl) ?_),
      fun isKind form zero => refuse (orderOf_none_of_wait (f := .duration) isKind (by rw [form]; rfl) ?_)⟩
    · unfold orderKindOf
      split <;> first | rfl | (exfalso; omega)
    · simpa [waitTargetOk] using high
    · simp [waitTargetOk, show field body 6 4 = 0 from zero]

end Sys2Proof.Machine
end

section
/-!
Slots read and amended, and the day's statement.
-/

namespace Sys2Proof.Machine

/-! ## Slots (R161, R162) -/

section
variable {tag : Byte} {body : List Byte} {s : State} {place : Nat} {x : Slot} {p : Interval}

theorem putSlot_self (held : s.accounts.book[place]? = some x) : s.putSlot place x = s := by
  obtain ⟨inside, rfl⟩ := List.getElem?_eq_some_iff.mp held
  rw [State.putSlot, List.set_getElem_self]
  rfl

theorem first_of_slotPlace (found : s.slotPlace p = some place) (held : s.accounts.book[place]? = some x) :
    x.first = p := by
  obtain ⟨inside, rfl⟩ := List.getElem?_eq_some_iff.mp held
  exact of_decide_eq_true (List.findIdx?_eq_some_iff_getElem.mp found).2.1

theorem Slot.checkHolds_iff (x : Slot) : x.checkHolds = true ↔ checkWord x = x.check := decide_eq_true_iff

theorem readSlot_amended (amended : x.original = false) (held : s.accounts.book[place]? = some x) :
    readSlot place x s = reading s fun _ => b1 place ++ b1 3 ++ slotRecord x := by
  simp [readSlot, checkResult, amended, putSlot_self held, reading]

theorem readSlot_good (original : x.original = true) (good : checkWord x = x.check)
    (held : s.accounts.book[place]? = some x) :
    readSlot place x s = reading s fun _ => b1 place ++ b1 1 ++ slotRecord x := by
  simp [readSlot, checkResult, original, (Slot.checkHolds_iff x).mpr good, putSlot_self held, reading]

theorem readSlot_failed (original : x.original = true) (fails : checkWord x ≠ x.check) : readSlot place x s
    = ((s.putSlot place x.amended, []), fun _ => Status.ok.body ++ (b1 place ++ b1 2 ++ slotRecord x.amended)) := by
  have failed : x.checkHolds = false := by simpa [Slot.checkHolds] using fails
  simp [readSlot, checkResult, original, failed]

theorem judgedWords_inner (same : Prop) [Decidable same] :
    (if same then [] else [Act.judgeContract]).all Act.inner = true := by
  split <;> rfl

section
variable (free : s.free)
include free

theorem execReadSlot_badField (formless : namedSlot body s = none) :
    execReadSlot tag body s = .next (s.answered 45 tag Status.badField.body) := by
  have inHand : namedSlot body s.inHand = none := formless
  refine request_still (t := s.inHand) (f := fun _ => Status.badField.body) free ?_ free.1
  simp only [inHand]
  rfl

theorem execReadSlot_unnamed (unnamed : namedSlot body s = some none) :
    execReadSlot tag body s = .next (s.answered 45 tag Status.noSuch.body) := by
  have inHand : namedSlot body s.inHand = some none := unnamed
  refine request_still (t := s.inHand) (f := fun _ => Status.noSuch.body) free ?_ free.1
  simp only [inHand]
  rfl

theorem execReadSlot_noSlot (named : namedSlot body s = some (some place)) (absent : s.accounts.book[place]? = none) :
    execReadSlot tag body s = .next (s.answered 45 tag Status.noSuch.body) := by
  have namedInHand : namedSlot body s.inHand = some (some place) := named
  have absentInHand : s.inHand.accounts.book[place]? = none := absent
  refine request_still (t := s.inHand) (f := fun _ => Status.noSuch.body) free ?_ free.1
  simp only [namedInHand, absentInHand]
  rfl

theorem execReadSlot_slot {t : State} {bytes : List Byte} (named : namedSlot body s = some (some place))
    (held : s.accounts.book[place]? = some x) (rest : t.backlog = [])
    (took : readSlot place x s.inHand = ((t.inHand, []), fun _ => bytes)) :
    execReadSlot tag body s = .next (t.answered 45 tag bytes) := by
  have namedInHand : namedSlot body s.inHand = some (some place) := named
  have heldInHand : s.inHand.accounts.book[place]? = some x := held
  refine request_still (t := t.inHand) (f := fun _ => bytes) free ?_ rest
  simp only [namedInHand, heldInHand]
  exact took

/-! ### AMEND SLOT -/

variable (length : body.length = 51)
include length

theorem execAmendSlot_noSuch (absent : s.slotPlace (intervalOf body 0) = none) :
    execAmendSlot tag body s = .next (s.answered 46 tag Status.noSuch.body) := by
  have inHand : s.inHand.slotPlace (intervalOf body 0) = none := absent
  refine request_sized_answer free length ?_
  simp only [inHand]

/-- A slot amended, the take with it where the slot is of the day of the take: what follows judges the contract. -/
theorem execAmendSlot_ok {take : Nat} (found : s.slotPlace (intervalOf body 0) = some place)
    (held : s.accounts.book[place]? = some x)
    (state : (amendSlot place x (columnsOf body) s.inHand).1 = (s.putAccounts { s.accounts with
      book := s.accounts.book.set place (x.withColumns (columnsOf body) s.settings.discrepancy),
      take := take }).inHand) :
    ∃ t, execAmendSlot tag body s = .next t ∧ Kept ((s.putAccounts { s.accounts with
      book := s.accounts.book.set place (x.withColumns (columnsOf body) s.settings.discrepancy),
      take := take }).answered 46 tag Status.ok.body) t := by
  have foundInHand : s.inHand.slotPlace (intervalOf body 0) = some place := found
  have heldInHand : s.inHand.accounts.book[place]? = some x := held
  refine request_sized_quiet (e := amendSlot place x (columnsOf body) s.inHand) free length ?_ ?_ ?_ ?_
  · simp only [foundInHand, heldInHand]
  · rw [state]
    exact .refl _
  · rw [state]
    exact free.1
  · refine List.all_append.trans (Bool.and_eq_true_iff.mpr ⟨discrepancyWords_inner _ _, ?_⟩)
    exact judgedWords_inner _

end

theorem amendSlot_otherTake {columns : Vector Nat 12}
    (other : s.settings.source = none ∨ x.first.day ≠ s.accounts.takeDay) :
    (amendSlot place x columns s).1 = s.putAccounts { s.accounts with
      book := s.accounts.book.set place (x.withColumns columns s.settings.discrepancy) } := by
  rcases other with none | other
  · simp only [amendSlot, none]
    rfl
  · simp only [amendSlot, if_neg other]
    cases s.settings.source <;> rfl

theorem capVolume_of_lt {n : Nat} (h : n < 4294967295) : capVolume n = n := if_pos h

theorem amendSlot_take {columns : Vector Nat 12} {k : SourceId} (source : s.settings.source = some k)
    (day : x.first.day = s.accounts.takeDay) (fits : s.accounts.take + columns[k.val] - x.columns[k.val] < 4294967295) :
    (amendSlot place x columns s).1 = s.putAccounts { s.accounts with
      book := s.accounts.book.set place (x.withColumns columns s.settings.discrepancy),
      take := s.accounts.take + columns[k.val] - x.columns[k.val] } := by
  simp only [amendSlot, source, if_pos day, takeAfter, capVolume_of_lt fits]
  rfl

end

/-- Settles O54: the reading of a slot by what its check gives, and the amending of one. -/
theorem slotsAreReadAndAmended : Obligations.SlotsAreReadAndAmended := by
  unfold Obligations.SlotsAreReadAndAmended
  refine ⟨fun tag body s free => ⟨execReadSlot_badField free, execReadSlot_unnamed free,
    fun place named => ⟨execReadSlot_noSlot free named, fun x held => ⟨fun amended => ?_, fun original good => ?_,
      fun original fails => ?_⟩⟩⟩, fun tag body s free length => ⟨execAmendSlot_noSuch free length,
    fun place x found held => ⟨fun other => ?_, fun k source day _ fits => ?_⟩⟩⟩
  · exact execReadSlot_slot free named held free.1 (readSlot_amended (s := s.inHand) amended held)
  · exact execReadSlot_slot free named held free.1 (readSlot_good (s := s.inHand) original good held)
  · exact execReadSlot_slot (t := s.putSlot place x.amended) free named held free.1
      (readSlot_failed (s := s.inHand) original fails)
  · rw [← first_of_slotPlace found held] at other
    exact execAmendSlot_ok free length found held (amendSlot_otherTake (s := s.inHand) other)
  · rw [← first_of_slotPlace found held] at day
    exact execAmendSlot_ok free length found held (amendSlot_take (s := s.inHand) source day fits)

/-! ## CLOSE DAY (R164 to R166) -/

section
variable {tag : Byte} {body : List Byte} {s : State}

section
variable (free : s.free) (length : body.length = 2)
include free length

theorem execCloseDay_ok (check : closeDayCheck (field body 0 2) s = .ok) :
    ∃ t, execCloseDay tag body s = .next t ∧
      Kept ((closeDay (field body 0 2) s).1.answered 47 tag Status.ok.body) t := by
  have inHand : closeDayCheck (field body 0 2) s.inHand = .ok := check
  refine request_sized_quiet (e := closeDay (field body 0 2) s.inHand) free length ?_ (.refl _) free.1 rfl
  simp only [inHand]

end

end

/-- Settles O56: the closing builds the statement, and what follows only posts behind the slots that are left. -/
theorem closeDayBuildsTheStatement : Obligations.CloseDayBuildsTheStatement := by
  unfold Obligations.CloseDayBuildsTheStatement
  intro tag body s free length check
  obtain ⟨t, ht, kept⟩ := execCloseDay_ok (tag := tag) free length check
  refine ⟨t, _, ht, ?_, kept.settings, kept.take, kept.clock, kept.book, kept.statement, rfl, rfl, rfl, fun i => ?_,
    fun i => ?_, ?_, rfl, rfl, rfl⟩
  · exact kept.reply.trans (composeReply_reply ..)
  · exact Vector.getElem_ofFn ..
  · exact Vector.getElem_ofFn ..
  · exact Nat.add_sub_of_le (List.length_filter_le ..)

end Sys2Proof.Machine
end

section
/-!
The actuator main: what waits for it and what it drives.
-/

namespace Sys2Proof.Machine

/-! ## Words, requests and notices -/

/-- The words in front, and then those behind, which end no event at the stock unit. -/
theorem Steps.followed {j k : Nat} {told : Bool} {l m r : List Act} {s t u : State} (first : Takes j told l s t)
    (second : Steps k told m t r u) (plain : m.any Act.endsStock = false) : Steps (j + k) told (l ++ m) s r u := by
  rw [Nat.add_comm j k]
  exact Steps.append (by rwa [plain, Bool.or_false]) second

/-- A request of the right length whose event ends in a known state. -/
theorem request_sized_settle {code n : Nat} {tag : Byte} {body : List Byte} {owner : State → Taken} {s t : State}
    {e : Effect} {k : Status} (free : s.free) (length : body.length = n) (took : owner s.inHand = taken k e)
    (settled : settle e = t) : request code tag (sized n body owner) s = .next (t.answered code tag k.body) := by
  rw [request_free free.2, sized, if_pos length, show s.putLink { s.link with taking := true } = s.inHand from rfl,
    took, ← settled]
  rfl

/-- What some words leave, taken on from there. -/
theorem Steps.trans {j k : Nat} {told : Bool} {l m r : List Act} {s t u : State} (first : Steps j told l s m t)
    (second : Steps k told m t r u) : Steps (j + k) told l s r u := by
  intro n rest waits
  rw [Nat.add_comm j k, ← Nat.add_assoc, first (n + k) rest waits, second n rest waits]

/-- Notices placed one after another. -/
theorem Steps.notices {told : Bool} (l : List Notice) (s : State) :
    Takes l.length told (l.map .notice) s (l.foldl State.notify s) := by
  induction l generalizing s with
  | nil => exact .nil _ _
  | cons n l ih => exact .cons rfl rfl (ih (s.notify n))

theorem notices_notify (s : State) (n : Notice) : (s.notify n).link.notices =
    if s.link.queue.length < 32 then s.link.notices ++ [n] else s.link.notices := by
  rw [State.notify, State.link_putLink, notices_place]
  rcases Nat.lt_or_ge s.link.queue.length 32 with room | full
  · rw [taken_of_room room, if_pos room]
    exact List.map_append
  · rw [taken_of_full full, if_neg (Nat.not_lt.mpr full)]
    rfl

/-! ## The actuator main and what waits for it (R61, R65, R67, R68) -/

/-- The position of a valve on its way to an end of its travel. -/
def movingTo : Limit → Position
  | .opened => .movingOpen
  | .closed => .movingClosed

theorem movingTo_eq (t : Limit) : movingTo t = if t = .opened then .movingOpen else .movingClosed := by
  cases t <;> rfl

/-- An entry put behind the move queue. -/
def State.enqueue (s : State) (e : QueueEntry) : State :=
  s.putValves { s.valves with queue := s.valves.queue ++ [e] }

/-- A drive begun (R68). -/
def State.drive (s : State) (d : Drive) : State :=
  let s1 := s.putValve d.valve { s.valve d.valve with position := movingTo d.target }
  s1.putValves { s1.valves with main := .driving d s.settings.travel[d.valve] }

@[simp] theorem channel_drive (s : State) (d : Drive) (c : ChannelId) : (s.drive d).channel c = s.channel c := rfl
@[simp] theorem order_drive (s : State) (d : Drive) (n : OrderId) : (s.drive d).order n = s.order n := rfl
@[simp] theorem district_drive (s : State) (d : Drive) (e : DistrictId) : (s.drive d).district e = s.district e := rfl
@[simp] theorem channels_drive (s : State) (d : Drive) : (s.drive d).channels = s.channels := rfl

/-- The drive that a queue entry becomes (R67). -/
def QueueEntry.drive (e : QueueEntry) : Drive :=
  { valve := e.valve, target := e.target, requesters := e.requesters, protective := false }

/-- The main is idle, and nothing waits for it. -/
structure ValveUnit.Resting (u : ValveUnit) : Prop where
  main : u.main = .idle
  protect : u.protect = []
  queue : u.queue = []

section
variable {s : State} {v : ValveId} {t : Limit} {r : Requester} {told : Bool} {e : QueueEntry} {cause : ProtectCause}

theorem driveOf_of_idle (idle : s.valves.main = .idle) : s.driveOf v = none := by
  simp only [State.driveOf, idle, Main.drive?]

theorem driven_of_idle (idle : s.valves.main = .idle) : s.driven v = false := by
  rw [State.driven, driveOf_of_idle idle]
  rfl

theorem driveOf_of_driving {d : Drive} {left : Nat} (main : s.valves.main = .driving d left) :
    s.driveOf v = if d.valve = v then some d else none := by
  simp only [State.driveOf, main, Main.drive?]

theorem driven_of_driving {d : Drive} {left : Nat} (main : s.valves.main = .driving d left) (other : d.valve ≠ v) :
    s.driven v = false := by
  rw [State.driven, driveOf_of_driving main, if_neg other]
  rfl

theorem protectEntry_of_empty (empty : s.valves.protect = []) : s.protectEntry v = none := by
  rw [State.protectEntry, empty]
  rfl

theorem queueEntry_of_empty (empty : s.valves.queue = []) : s.queueEntry v = none := by
  rw [State.queueEntry, empty]
  rfl

theorem shielded_of_undriven (protect : s.protectEntry v = none) (still : s.driven v = false) :
    s.shielded v = false := by
  have undriven : s.driveOf v = none := by simpa [State.driven] using still
  rw [State.shielded, protect, undriven]
  rfl

/-! ### Move requests -/

theorem moveRequest_done (holds : r.holdsUnder (s.valve v).claim = true) (sound : (s.valve v).fault = .noFault)
    (plain : s.shielded v = false) (still : s.driven v = false) (free : s.queueEntry v = none)
    (there : (s.valve v).position = limitPosition t) : moveRequest r v t s = (.done, s, []) := by
  have undriven : s.driveOf v = none := by simpa [State.driven] using still
  have unprotected : s.protectEntry v = none := by simpa [State.shielded, undriven] using plain
  simp [moveRequest, holds, sound, plain, undriven, unprotected, free, there]

/-- A move for which a place is free joins the queue (R61, R63). -/
theorem moveRequest_enqueue (holds : r.holdsUnder (s.valve v).claim = true) (sound : (s.valve v).fault = .noFault)
    (plain : s.shielded v = false) (still : s.driven v = false) (free : s.queueEntry v = none)
    (away : (s.valve v).position ≠ limitPosition t) (room : placesFull s.valves.queue r.cls = false) :
    moveRequest r v t s = (.accepted, s.enqueue { valve := v, target := t, requesters := [r] }, arbiterCall s) := by
  have undriven : s.driveOf v = none := by simpa [State.driven] using still
  have unprotected : s.protectEntry v = none := by simpa [State.shielded, undriven] using plain
  simp only [moveRequest, holds, sound, plain, undriven, unprotected, free, away, newEntry, room, Bool.not_true,
    Bool.false_eq_true, if_false, and_false, ne_eq, not_true, Option.isSome_none]
  rfl

theorem room_of_resting (rest : s.valves.Resting) : placesFull s.valves.queue r.cls = false := by
  rw [rest.queue]
  cases r <;> rfl

theorem shielded_of_resting (rest : s.valves.Resting) : s.shielded v = false :=
  shielded_of_undriven (protectEntry_of_empty rest.protect) (driven_of_idle rest.main)

theorem arbiterCall_of_idle (idle : s.valves.main = .idle) : arbiterCall s = [.arbiter] := if_pos idle

theorem arbiterCall_of_driving {d : Drive} {left : Nat} (main : s.valves.main = .driving d left) :
    arbiterCall s = [] := if_neg (by rw [main]; nofun)

/-- A move request where the main is idle and nothing waits for it. -/
theorem moveRequest_resting (rest : s.valves.Resting) (holds : r.holdsUnder (s.valve v).claim = true)
    (sound : (s.valve v).fault = .noFault) (away : (s.valve v).position ≠ limitPosition t) :
    moveRequest r v t s = (.accepted, s.enqueue { valve := v, target := t, requesters := [r] }, [.arbiter]) := by
  rw [moveRequest_enqueue holds sound (shielded_of_resting rest) (driven_of_idle rest.main)
    (queueEntry_of_empty rest.queue) away (room_of_resting rest), arbiterCall_of_idle rest.main]

theorem moveRequest_resting_done (rest : s.valves.Resting) (holds : r.holdsUnder (s.valve v).claim = true)
    (sound : (s.valve v).fault = .noFault) (there : (s.valve v).position = limitPosition t) :
    moveRequest r v t s = (.done, s, []) :=
  moveRequest_done holds sound (shielded_of_resting rest) (driven_of_idle rest.main) (queueEntry_of_empty rest.queue)
    there

/-! ### What the arbiter makes of them -/

theorem startDrive_of_chosen {d : Drive} (away : (s.valve d.valve).shown ≠ some d.target) :
    startDrive (s.putValves { s.valves with main := .chosen d }) = (s.drive d, []) := by
  refine (if_neg away).trans ?_
  cases target : d.target <;> simp [State.drive, movingTo, target] <;> rfl

theorem freePlace_of_nobody (nobody : s.valves.refused = []) : freePlace s = (s, []) := by
  have same : ({ s.valves with refused := [] } : ValveUnit) = s.valves := by rw [← nobody]
  simp only [freePlace, nobody, same]
  rfl

theorem arbiterChoose_of_entry (rest : s.valves.Resting) : arbiterChoose (s.enqueue e) =
    (s.putValves { s.valves with main := .chosen e.drive }, [.placeFreed, .driveStart]) := by
  have chosen : (s.enqueue e).valves = { s.valves with queue := [e] } := by rw [State.enqueue, rest.queue]; rfl
  simp only [arbiterChoose, chosen, rest.main, rest.protect, bestEntry, if_true, dropEntry, QueueEntry.drive]
  refine congrArg (·, _) ?_
  have none : [e].filter (fun x => x.valve ≠ e.valve) = [] := by simp
  rw [none, ← rest.queue]
  rfl

/-- The only entry of the queue is driven, nobody waiting for the place that it frees (R67, R68). -/
theorem arbiter_drives (rest : s.valves.Resting) (nobody : s.valves.refused = [])
    (away : (s.valve e.valve).shown ≠ some e.target) :
    Takes 3 told [.arbiter] (s.enqueue e) (s.drive e.drive) := by
  have chosen : handle .placeFreed (s.putValves { s.valves with main := .chosen e.drive }) = (_, []) :=
    freePlace_of_nobody nobody
  exact .cons rfl (arbiterChoose_of_entry rest) (.cons rfl chosen (.cons rfl (startDrive_of_chosen away) (.nil _ _)))

theorem arbiterChoose_resting (rest : s.valves.Resting) : arbiterChoose s = (s, []) := by
  simp only [arbiterChoose, rest.main, rest.protect, rest.queue, bestEntry, if_true]

/-! ### Protective closes (R65) -/

/-- A protective close of a CLOSED valve that nobody claims (R65). -/
theorem protectiveClose_closed (rest : s.valves.Resting) (closed : (s.valve v).position = .closed)
    (unclaimed : (s.valve v).claim = .unclaimed) : protectiveClose v cause s = (s, []) := by
  simp [protectiveClose, driveOf_of_idle rest.main, protectEntry_of_empty rest.protect, queueEntry_of_empty rest.queue,
    closed, tellTaken, unclaimed]

end

end Sys2Proof.Machine
end

section
/-!
SET CONTRACT and its judging.
-/

namespace Sys2Proof.Machine

/-! ## SET CONTRACT (R167, R168, R169, R171) -/

section
variable {s : State} {x : SourceId} {told : Bool}

/-- The contract judged OPEN or CUT. -/
def State.withCut (s : State) (cut : Bool) : State := s.putAccounts { s.accounts with cut := cut }

theorem judgeContract_open (below : s.settings.source = none ∨ s.accounts.take < s.settings.cap) :
    judgeContract s = (s.withCut false, []) := by
  rcases below with none | below
  · simp only [judgeContract, none, State.withCut]
  · unfold judgeContract
    cases s.settings.source with
    | none => rfl
    | some x => exact if_pos below

section
variable (source : s.settings.source = some x) (reached : s.settings.cap ≤ s.accounts.take)
include source reached

theorem judgeContract_still (cut : s.accounts.cut = true) : judgeContract s = (s, []) := by
  simp only [judgeContract, source, if_neg (Nat.not_lt.mpr reached), cut, if_true]

theorem judgeContract_setup (setup : s.control.phase = .setup) : judgeContract s = (s.withCut true, []) := by
  simp only [judgeContract, source, if_neg (Nat.not_lt.mpr reached), running_eq_false setup,
    Bool.false_eq_true, if_false]
  split
  case isTrue cut => rw [State.withCut, ← cut]; rfl
  case isFalse => rfl

theorem judgeContract_cut (run : s.control.phase = .run) (was : s.accounts.cut = false) :
    judgeContract s = cutContract x s := by
  simp only [judgeContract, source, if_neg (Nat.not_lt.mpr reached), was, running_eq_true run, Bool.false_eq_true,
    if_false, if_true]

end

/-- The words of a contract that becomes CUT, the source valve standing CLOSED and undriven: only the notice. -/
theorem cut_closed (run : s.control.phase = .run) (rest : s.valves.Resting)
    (closed : (s.valve (sourceValve x)).position = .closed) (unclaimed : (s.valve (sourceValve x)).claim = .unclaimed) :
    Takes 2 told (cutContract x s).2 (s.withCut true)
      ((s.withCut true).notify (.contractCut x s.settings.cap s.accounts.take .closed)) := by
  have close : handle (.protectClose (sourceValve x) .contract) (s.withCut true) = (s.withCut true, []) :=
    (if_pos (running_eq_true (s := s.withCut true) run)).trans
      (protectiveClose_closed (s := s.withCut true) rest closed unclaimed)
  have found : s.foundPosition (sourceValve x) = .closed := closed
  simp only [cutContract, found]
  exact .cons rfl close (.notice _ _)

end

section
variable {tag : Byte} {body : List Byte} {s : State} {source : Option SourceId} {cap : Nat}

/-- The state with the two settings of the contract stored. -/
def State.withContract (s : State) (source : Option SourceId) (cap : Nat) : State :=
  s.putSettings { s.settings with source := source, cap := cap }

theorem setContractCheck_frozen (frozen : s.control.frozen = true) (changed : cap ≠ s.settings.cap) :
    setContractCheck source cap s = .frozen := if_pos (by simp [frozen, changed])

theorem setContractCheck_wrongPhase (unlocked : ¬(s.control.frozen = true ∧ cap ≠ s.settings.cap))
    (run : s.control.phase = .run) (changed : source ≠ s.settings.source) :
    setContractCheck source cap s = .wrongPhase := by
  refine (if_neg (by simpa using unlocked)).trans (if_pos ?_)
  simp [running_eq_true run, changed]

theorem setContractCheck_ok (unlocked : ¬(s.control.frozen = true ∧ cap ≠ s.settings.cap))
    (allowed : s.control.phase = .setup ∨ source = s.settings.source) : setContractCheck source cap s = .ok := by
  refine (if_neg (by simpa using unlocked)).trans (if_neg ?_)
  rcases allowed with setup | same
  · simp [running_eq_false setup]
  · simp [same]

theorem storeContract_same (same : source = s.settings.source) (sameCap : cap = s.settings.cap) :
    storeContract source cap s = (s, []) := by
  subst same sameCap
  simp only [storeContract, if_true, and_self]
  rfl

theorem storeContract_cap (same : source = s.settings.source) (changed : cap ≠ s.settings.cap) :
    storeContract source cap s = (s.withContract source cap, [.judgeContract]) := by
  simp only [storeContract, if_pos same, changed, and_false, if_false]
  rfl

theorem storeContract_changed (changed : source ≠ s.settings.source ∨ cap ≠ s.settings.cap) :
    storeContract source cap s = (if source = s.settings.source then s.withContract source cap
      else recomputeTake (s.withContract source cap), [.judgeContract]) := by
  have some : ¬(source = s.settings.source ∧ cap = s.settings.cap) := fun ⟨same, sameCap⟩ =>
    changed.elim (· same) (· sameCap)
  simp only [storeContract, if_neg some]
  rfl

section
variable (free : s.free) (length : body.length = 5)
include free length

theorem execSetContract_badField (bad : contractSourceOf (field body 0 1) = none ∨ field body 1 4 = 0) :
    execSetContract tag body s = .next (s.answered 42 tag Status.badField.body) := by
  refine request_sized_answer free length ?_
  rcases bad with outside | zero
  · simp only [outside]
  · simp only [zero, if_true]
    cases contractSourceOf (field body 0 1) <;> rfl

variable (named : contractSourceOf (field body 0 1) = some source) (positive : field body 1 4 ≠ 0)
include named positive

theorem execSetContract_refused {k : Status} (check : setContractCheck source (field body 1 4) s = k)
    (refuses : k ≠ .ok) : execSetContract tag body s = .next (s.answered 42 tag k.body) := by
  have inHand : setContractCheck source (field body 1 4) s.inHand = k := check
  refine request_sized_answer free length ?_
  simp only [named, if_neg positive, inHand]

variable (check : setContractCheck source (field body 1 4) s = .ok)
include check

theorem execSetContract_settle {t : State} (settled : settle (storeContract source (field body 1 4) s.inHand) = t) :
    execSetContract tag body s = .next (t.answered 42 tag Status.ok.body) := by
  have inHand : setContractCheck source (field body 1 4) s.inHand = .ok := check
  refine request_sized_settle (e := storeContract source (field body 1 4) s.inHand) free length ?_ settled
  simp only [named, if_neg positive, inHand]

theorem execSetContract_kept (same : source = s.settings.source) : ∃ t, execSetContract tag body s = .next t ∧
    Kept ((s.withContract source (field body 1 4)).answered 42 tag Status.ok.body) t := by
  have inHand : setContractCheck source (field body 1 4) s.inHand = .ok := check
  have state : (storeContract source (field body 1 4) s.inHand).1
      = (s.withContract source (field body 1 4)).inHand := if_pos same
  refine request_sized_quiet (e := storeContract source (field body 1 4) s.inHand) free length ?_ ?_ ?_ ?_
  · simp only [named, if_neg positive, inHand]
  · rw [state]
    exact .refl _
  · rw [state]
    exact free.1
  · exact judgedWords_inner _

end

theorem judgeContract_inSetup (setup : s.control.phase = .setup) : judgeContract s
    = (s.withCut (s.settings.source.isSome && decide (s.settings.cap ≤ s.accounts.take)), []) := by
  cases source : s.settings.source with
  | none => exact judgeContract_open (.inl source)
  | some x =>
    rcases Nat.lt_or_ge s.accounts.take s.settings.cap with below | reached
    · rw [judgeContract_open (.inr below), decide_eq_false (Nat.not_le.mpr below), Bool.and_false]
    · rw [judgeContract_setup source reached setup, decide_eq_true reached, Bool.and_true]
      rfl

/-- A judging that hands on nothing is the whole event. -/
theorem settle_judgeContract {t : State} (rest : s.atRest) (judged : judgeContract s = (t, []))
    (channels : t.channels = s.channels) : settle (s, [.judgeContract]) = t := by
  have words : Takes 1 false [.judgeContract] s t := .cons rfl judged (.nil _ _)
  exact words.settle (by omega) rest.1 (List.cons_ne_nil _ _)
    ((unreported_congr channels _).trans rest.2.1) ((unreported_congr channels _).trans rest.2.2)

theorem settle_judgeContract_cut {x : SourceId} (rest : s.atRest) (source : s.settings.source = some x)
    (reached : s.settings.cap ≤ s.accounts.take) (was : s.accounts.cut = false) (run : s.control.phase = .run)
    (still : s.valves.Resting) (closed : (s.valve (sourceValve x)).position = .closed)
    (unclaimed : (s.valve (sourceValve x)).claim = .unclaimed) : settle (s, [.judgeContract])
      = (s.withCut true).notify (.contractCut x s.settings.cap s.accounts.take .closed) := by
  have words : Takes 3 false [.judgeContract] s _ :=
    .cons rfl (judgeContract_cut source reached run was) (cut_closed run still closed unclaimed)
  exact words.settle (by omega) rest.1 (List.cons_ne_nil _ _) rest.2.1 rest.2.2

end

/-- Settles O53. -/
theorem setContractStoresAndJudges : Obligations.SetContractStoresAndJudges := by
  unfold Obligations.SetContractStoresAndJudges
  intro tag body s free length
  refine ⟨execSetContract_badField free length, fun source named positive => ⟨fun ⟨frozen, changed⟩ => ?_,
    fun unlocked run changed => ?_, fun unlocked same sameCap => ?_, fun unlocked run same => ⟨?_,
      fun changed rest => ⟨fun below => ?_, fun some reached cut => ?_, fun x source reached was main protect queue
        closed unclaimed => ?_⟩⟩, fun unlocked setup changed rest => ?_⟩⟩
  · exact execSetContract_refused free length named positive (setContractCheck_frozen frozen changed) nofun
  · exact execSetContract_refused free length named positive (setContractCheck_wrongPhase unlocked run changed) nofun
  · refine execSetContract_settle (t := s.inHand) free length named positive
      (setContractCheck_ok unlocked (.inr same)) ?_
    rw [storeContract_same (s := s.inHand) same sameCap]
    exact settle_nil free.1
  · exact execSetContract_kept free length named positive (setContractCheck_ok unlocked (.inr same)) same
  · refine execSetContract_settle (t := ((s.withContract source (field body 1 4)).withCut false).inHand)
      free length named positive (setContractCheck_ok unlocked (.inr same)) ?_
    rw [storeContract_cap (s := s.inHand) same changed]
    exact settle_judgeContract rest (judgeContract_open below) rfl
  · refine execSetContract_settle (t := (s.withContract source (field body 1 4)).inHand)
      free length named positive (setContractCheck_ok unlocked (.inr same)) ?_
    obtain ⟨x, source⟩ := Option.ne_none_iff_exists'.mp some
    rw [storeContract_cap (s := s.inHand) same changed]
    exact settle_judgeContract rest (judgeContract_still source reached cut) rfl
  · refine ⟨_, execSetContract_settle free length named positive (setContractCheck_ok unlocked (.inr same))
      ((congrArg settle (storeContract_cap (s := s.inHand) same changed)).trans (settle_judgeContract_cut rest
        source reached was run ⟨main, protect, queue⟩ closed unclaimed)), rfl, rfl, rfl, rfl, rfl, fun room => ?_⟩
    exact (notices_notify _ _).trans (if_pos room)
  · have stored := storeContract_changed (s := s.inHand) changed
    by_cases same : source = s.settings.source
    · simp only [if_pos same]
      rw [if_pos (show source = s.inHand.settings.source from same)] at stored
      exact execSetContract_settle (t := ((s.withContract source (field body 1 4)).withCut _).inHand) free length named
        positive (setContractCheck_ok unlocked (.inl setup))
        ((congrArg settle stored).trans (settle_judgeContract rest (judgeContract_inSetup setup) rfl))
    · simp only [if_neg same]
      rw [if_neg (show source ≠ s.inHand.settings.source from same)] at stored
      exact execSetContract_settle (t := ((recomputeTake (s.withContract source (field body 1 4))).withCut _).inHand)
        free length named positive (setContractCheck_ok unlocked (.inl setup))
        ((congrArg settle stored).trans (settle_judgeContract rest (judgeContract_inSetup setup) rfl))

end Sys2Proof.Machine
end

section
/-!
Records put twice, the order current on a channel, and what has still to be reported.
-/

namespace Sys2Proof.Machine

/-! ## A record put twice, and records put in either order -/

section
variable {s : State} {c : ChannelId} {n : OrderId} {v : ValveId} {d : DistrictId}

@[simp] theorem State.putChannel_putChannel (s : State) (c : ChannelId) (x y : Channel) :
    (s.putChannel c x).putChannel c y = s.putChannel c y := by
  cases c <;> rfl

@[simp] theorem State.putOrder_putOrder (s : State) (n : OrderId) (x y : OrderSlot) :
    (s.putOrder n x).putOrder n y = s.putOrder n y := by
  simp only [State.putOrder, Vector.set_set]

@[simp] theorem State.putValve_putValve (s : State) (v : ValveId) (x y : Valve) :
    (s.putValve v x).putValve v y = s.putValve v y := by
  simp only [State.putValve, Vector.set_set]

@[simp] theorem State.putDistrict_putDistrict (s : State) (d : DistrictId) (x y : District) :
    (s.putDistrict d x).putDistrict d y = s.putDistrict d y := by
  simp only [State.putDistrict, Vector.set_set]

@[simp] theorem State.putOutput_putOutput (s : State) (p : OutletId) (m n : Nat) :
    (s.putOutput p m).putOutput p n = s.putOutput p n := by
  simp only [State.putOutput, Vector.set_set]

@[simp] theorem eq_other (c : ChannelId) : (c = c.other) = False := by
  cases c <;> simp [AB.other]

@[simp] theorem other_eq (c : ChannelId) : (c.other = c) = False := by
  cases c <;> simp [AB.other]

theorem State.putOrder_putChannel (s : State) (c : ChannelId) (x : Channel) (n : OrderId) (y : OrderSlot) :
    (s.putChannel c x).putOrder n y = (s.putOrder n y).putChannel c x := rfl

theorem State.putOrder_putValve (s : State) (v : ValveId) (x : Valve) (n : OrderId) (y : OrderSlot) :
    (s.putValve v x).putOrder n y = (s.putOrder n y).putValve v x := rfl

theorem State.putChannel_putValve (s : State) (v : ValveId) (x : Valve) (c : ChannelId) (y : Channel) :
    (s.putValve v x).putChannel c y = (s.putChannel c y).putValve v x := rfl

theorem drive_putValve (s : State) (d : Drive) (x : Valve) : (s.putValve d.valve x).drive d =
    (s.putValve d.valve { x with position := movingTo d.target }).putValves
      { (s.putValve d.valve { x with position := movingTo d.target }).valves with
        main := .driving d s.settings.travel[d.valve] } := by
  simp [State.drive]

@[simp] theorem State.putStatus_eq (s : State) (n : OrderId) (k : OrderStatus) :
    s.putStatus n k = s.putOrder n { s.order n with status := k } := rfl

@[simp] theorem field_pair_first (a b : Byte) : field [a, b] 0 1 = a.toNat := field_singleton a

@[simp] theorem field_pair_second (a b : Byte) : field [a, b] 1 1 = b.toNat := field_singleton b

/-! ## The order that is current on a channel -/

theorem currentSlot_of_current (current : (s.channel c).current = some n) : s.currentSlot c = some (n, s.order n) := by
  rw [State.currentSlot, current]
  rfl

theorem currentSlot_of_none (nobody : (s.channel c).current = none) : s.currentSlot c = none := by
  rw [State.currentSlot, nobody]
  rfl

/-- A slot made current on a channel (R82). -/
def State.begun (s : State) (c : ChannelId) (n : OrderId) : State :=
  (s.putOrder n { s.order n with status := .waitPath }).putChannel c { Channel.idle with
    state := .running, current := some n, stopAfter := (s.channel c).stopAfter
    limitTimer := if (s.order n).order.timeLimit = 0 then none else some (s.order n).order.timeLimit }

theorem order_begun : (s.begun c n).order n = { s.order n with status := .waitPath } := by
  simp [State.begun]

theorem currentSlot_begun : (s.begun c n).currentSlot c = some (n, { s.order n with status := .waitPath }) := by
  rw [currentSlot_of_current (n := n) (by simp [State.begun]), order_begun]

theorem orderCurrent_wait (check : currentCheck (s.order n).order s = none)
    (kind : (s.order n).order.kind = some .wait) :
    orderCurrent c n s = (s.begun c n, [.enterFlowing c]) := by
  simp only [orderCurrent, check, if_pos kind]
  rfl

theorem orderCurrent_path (check : currentCheck (s.order n).order s = none)
    (kind : (s.order n).order.kind ≠ some .wait) :
    orderCurrent c n s = (s.begun c n, [.claimPath c]) := by
  simp only [orderCurrent, check, if_neg kind]
  rfl

theorem enterFlowing_duration (current : (s.channel c).current = some n) (working : (s.order n).status.working = true)
    (kind : (s.order n).order.kind = some .wait) (form : (s.order n).order.form = some .duration) :
    enterFlowing c s = ((s.putOrder n { s.order n with status := .flowing }).putChannel c { s.channel c with
      pathTimer := none, pathWait := .nothing, waitTimer := some (s.order n).order.target }, []) := by
  simp [enterFlowing, currentSlot_of_current current, working, kind, form, leavePath]

end

/-! ## What has still to be reported (R82) -/

section
variable {s t : State} {c e : ChannelId} {n : OrderId}

theorem unreported_of_same (channel : t.channel e = s.channel e)
    (order : ∀ m, (s.channel e).current = some m → t.order m = s.order m) : t.unreported e = s.unreported e := by
  cases current : (s.channel e).current with
  | none => rw [unreported_of_none current, unreported_of_none (channel ▸ current)]
  | some m =>
    simp only [State.unreported, currentSlot_of_current (channel ▸ current), currentSlot_of_current current, channel,
      order m current]

theorem unreported_of_kind (current : (s.channel c).current = some n)
    (other : (s.order n).order.kind ≠ some .transfer) : s.unreported c = none := by
  simp [State.unreported, currentSlot_of_current current, other]

theorem unreported_of_reported {h : HolderId} (reported : (s.channel c).reported = some h) : s.unreported c = none := by
  simp only [State.unreported, reported, Option.isNone_some, Bool.and_false, Bool.false_eq_true, if_false]
  split <;> rfl

/-- Words that take the state to one with every TRANSFER reported are a whole event. -/
theorem Steps.ends {k : Nat} {l : List Act} (h : Takes k false l s t) (few : k < 4095) (rest : s.backlog = [])
    (words : l ≠ []) (reported : t.unreported .a = none ∧ t.unreported .b = none) : Machine.settle (s, l) = t :=
  h.settle few rest words reported.1 reported.2

/-- What an event at one channel and its order leaves reported. -/
theorem reported_after (rest : s.atRest) (own : t.unreported c = none)
    (channel : t.channel c.other = s.channel c.other) (order : ∀ m, m ≠ n → t.order m = s.order m)
    (elsewhere : (s.channel c.other).current ≠ some n) : t.unreported .a = none ∧ t.unreported .b = none := by
  have other : t.unreported c.other = s.unreported c.other :=
    unreported_of_same channel fun m current => order m fun same => elsewhere (same ▸ current)
  cases c
  · exact ⟨own, other.trans rest.2.2⟩
  · exact ⟨other.trans rest.2.1, own⟩

end

end Sys2Proof.Machine
end

section
/-!
START CHAIN.
-/

namespace Sys2Proof.Machine

/-! ## START CHAIN (R81, R82) -/

section
variable {tag a b : Byte} {c : ChannelId} {n : OrderId} {s : State}

/-- A channel at which a chain begins (R81). -/
def State.chained (s : State) (c : ChannelId) : State := s.putChannel c { Channel.idle with state := .running }

theorem execStartChain_badField (free : s.free) (bad : channelOf a.toNat = none ∨ slotOf b.toNat = none) :
    execStartChain tag [a, b] s = .next (s.answered 27 tag Status.badField.body) := by
  refine request_sized_answer free rfl ?_
  rw [field_pair_first, field_pair_second]
  rcases bad with outside | outside
  · simp only [outside]
  · simp only [outside]
    cases channelOf a.toNat <;> rfl

theorem startChainCheck_wrongPhase (setup : s.control.phase = .setup) : startChainCheck c n s = .wrongPhase := by
  simp [startChainCheck, running_eq_false setup]

section
variable (run : s.control.phase = .run)
include run

theorem startChainCheck_yardStopped (stopped : s.control.stopAsserted = true) :
    startChainCheck c n s = .yardStopped := by
  simp [startChainCheck, running_eq_true run, stopped]

variable (released : ¬s.control.stopAsserted = true)
include released

theorem startChainCheck_busy (busy : ¬((s.channel c).state = .idle ∨ (s.channel c).state = .halted)) :
    startChainCheck c n s = .inUse := by
  simp [startChainCheck, running_eq_true run, released, not_or.mp busy]

variable (idle : (s.channel c).state = .idle ∨ (s.channel c).state = .halted)
include idle

theorem startChainCheck_inUse (other : (s.channel c.other).current = some n) : startChainCheck c n s = .inUse := by
  have notBusy : ¬((s.channel c).state ≠ .idle ∧ (s.channel c).state ≠ .halted) := fun ⟨a, b⟩ => idle.elim a b
  simp [startChainCheck, running_eq_true run, released, notBusy, State.currentOn, other]

variable (other : ¬(s.channel c.other).current = some n)
include other

theorem startChainCheck_noSuch (unloaded : (s.order n).status ≠ .loaded) : startChainCheck c n s = .noSuch := by
  have notBusy : ¬((s.channel c).state ≠ .idle ∧ (s.channel c).state ≠ .halted) := fun ⟨a, b⟩ => idle.elim a b
  simp [startChainCheck, running_eq_true run, released, notBusy, State.currentOn, other, unloaded]

variable (loaded : (s.order n).status = .loaded)
include loaded

theorem startChainCheck_contractSpent (spent : s.spent (s.order n).order = true) :
    startChainCheck c n s = .contractSpent := by
  have notBusy : ¬((s.channel c).state ≠ .idle ∧ (s.channel c).state ≠ .halted) := fun ⟨a, b⟩ => idle.elim a b
  simp [startChainCheck, running_eq_true run, released, notBusy, State.currentOn, other, loaded, spent]

theorem startChainCheck_ok (unspent : s.spent (s.order n).order = false) : startChainCheck c n s = .ok := by
  have notBusy : ¬((s.channel c).state ≠ .idle ∧ (s.channel c).state ≠ .halted) := fun ⟨a, b⟩ => idle.elim a b
  simp [startChainCheck, running_eq_true run, released, notBusy, State.currentOn, other, loaded, unspent]

end

theorem spent_iff (o : Order) : s.spent o = true ↔
    o.kind = some .admitSource ∧ o.source ≠ none ∧ s.settings.source = o.source ∧ s.accounts.cut = true := by
  simp only [State.spent, Bool.and_eq_true, decide_eq_true_eq, Option.isSome_iff_ne_none, and_assoc]

theorem spent_of_kind {o : Order} (other : o.kind ≠ some .admitSource) : s.spent o = false := by
  simp [State.spent, other]

section
variable (free : s.free) (channel : channelOf a.toNat = some c) (slot : slotOf b.toNat = some n)
include free channel slot

theorem execStartChain_refused {k : Status} (check : startChainCheck c n s = k) (refuses : k ≠ .ok) :
    execStartChain tag [a, b] s = .next (s.answered 27 tag k.body) := by
  have inHand : startChainCheck c n s.inHand = k := check
  refine request_sized_answer free rfl ?_
  simp only [field_pair_first, field_pair_second, channel, slot, inHand]

variable (check : startChainCheck c n s = .ok)
include check

theorem execStartChain_kept : ∃ t, execStartChain tag [a, b] s = .next t ∧
    Kept (s.answered 27 tag Status.ok.body) t := by
  have inHand : startChainCheck c n s.inHand = .ok := check
  refine request_sized_quiet (e := (s.inHand.chained c, [.orderCurrent c n])) free rfl ?_ (Kept.putChannel _ _ _)
    free.1 rfl
  simp only [field_pair_first, field_pair_second, channel, slot, inHand]
  rfl

theorem execStartChain_settle {t : State} (settled : settle (s.inHand.chained c, [.orderCurrent c n]) = t) :
    execStartChain tag [a, b] s = .next (t.answered 27 tag Status.ok.body) := by
  have inHand : startChainCheck c n s.inHand = .ok := check
  refine request_sized_settle (e := (s.inHand.chained c, [.orderCurrent c n])) free rfl ?_ settled
  simp only [field_pair_first, field_pair_second, channel, slot, inHand]
  rfl

end

theorem currentCheck_duration {o : Order} (kind : o.kind = some .wait) (form : o.form = some .duration) :
    currentCheck o s = none := by
  simp [currentCheck, Order.movesGas, kind, form, State.spent]

theorem begun_chained : (s.chained c).begun c n = (s.putOrder n { s.order n with status := .waitPath }).putChannel c
    { Channel.idle with
      state := .running, current := some n
      limitTimer := if (s.order n).order.timeLimit = 0 then none else some (s.order n).order.timeLimit } := by
  simp only [State.begun, State.chained, State.putOrder_putChannel, State.putChannel_putChannel]
  simp [Channel.idle]
  rfl

/-- A chain started at a WAIT by duration, to the end of its event. -/
theorem settle_chained_duration (rest : s.atRest) (elsewhere : (s.channel c.other).current ≠ some n)
    (kind : (s.order n).order.kind = some .wait) (form : (s.order n).order.form = some .duration) :
    settle (s.chained c, [.orderCurrent c n]) = (s.putOrder n { s.order n with status := .flowing }).putChannel c
      { Channel.idle with
        state := .running, current := some n
        limitTimer := if (s.order n).order.timeLimit = 0 then none else some (s.order n).order.timeLimit
        waitTimer := some (s.order n).order.target } := by
  have begins : handle (.orderCurrent c n) (s.chained c) = ((s.chained c).begun c n, [.enterFlowing c]) :=
    orderCurrent_wait (currentCheck_duration kind form) kind
  have flows : handle (.enterFlowing c) ((s.chained c).begun c n) = _ := enterFlowing_duration (n := n)
    (by simp [begun_chained]) (by simp [begun_chained, OrderStatus.working]) (by simp [begun_chained, kind])
    (by simp [begun_chained, form])
  have words : Takes 2 false [.orderCurrent c n] (s.chained c) _ := .cons rfl begins (.cons rfl flows (.nil _ _))
  refine (words.ends (by omega) rest.1 (List.cons_ne_nil _ _)
    (reported_after (c := c) (n := n) rest ?_ ?_ ?_ elsewhere)).trans ?_
  · exact unreported_of_kind (n := n) (by simp [begun_chained]) (by simp [begun_chained, kind])
  · cases c <;> rfl
  · intro m other
    simp [begun_chained, Ne.symm other]
  · simp [begun_chained, Channel.idle, State.putOrder_putChannel]

end

/-- Settles O37. -/
theorem startChainChecksAndBegins : Obligations.StartChainChecksAndBegins := by
  unfold Obligations.StartChainChecksAndBegins
  refine ⟨fun tag a b s free => ⟨execStartChain_badField free, fun c n channel slot => ?_⟩,
    fun tag a b c n s free rest channel slot run released idle other loaded kind form => ?_⟩
  · have refused {k : Status} (check : startChainCheck c n s = k) (refuses : k ≠ .ok) : _ :=
      execStartChain_refused (tag := tag) free channel slot check refuses
    refine ⟨fun setup => refused (startChainCheck_wrongPhase setup) nofun, fun run =>
      ⟨fun stopped => refused (startChainCheck_yardStopped run stopped) nofun,
        fun released busy => refused (startChainCheck_busy run released busy) nofun,
        fun released idle other => refused (startChainCheck_inUse run released idle other) nofun,
        fun released idle other unloaded => refused (startChainCheck_noSuch run released idle other unloaded) nofun,
        fun released idle other loaded spent => refused
          (startChainCheck_contractSpent run released idle other loaded ((spent_iff _).mpr spent)) nofun,
        fun released idle other loaded unspent => execStartChain_kept free channel slot
          (startChainCheck_ok run released idle other loaded
            (Bool.eq_false_iff.mpr fun spent => unspent ((spent_iff _).mp spent)))⟩⟩
  · have check : startChainCheck c n s = .ok := startChainCheck_ok run (by simp [released]) idle other loaded
      (spent_of_kind (by simp [kind]))
    have settled := settle_chained_duration (s := s.inHand) rest other kind form
    exact (execStartChain_settle free channel slot check settled :)

end Sys2Proof.Machine
end

section
/-!
The path of an order, claimed and opened.
-/

namespace Sys2Proof.Machine

/-! ## The path of an order, claimed and opened (R83, R86) -/

section
variable {s t : State} {c : ChannelId} {n : OrderId} {h : HolderId} {v : ValveId} {k : Claim} {o : Order}
variable {x : OrderSlot} {acts : List Act}

/-- A claim of one free valve, nobody's move being queued for it (R59). -/
theorem claimRequest_one (run : s.control.phase = .run) (sound : (s.valve v).fault = .noFault)
    (free : (s.valve v).claim = .unclaimed) (queue : s.valves.queue = []) :
    claimRequest k [v] s = (.granted, s.putClaim v k, []) := by
  have same : ({ (s.putClaim v k).valves with queue := [] } : ValveUnit) = (s.putClaim v k).valves := by
    rw [← queue]
    rfl
  simp only [claimRequest, running_eq_true run, sound, free, queue, dropManual, State.valves_queue_putClaim,
    List.foldl_cons, List.foldl_nil, List.any_cons, List.any_nil, List.map_nil, List.filter_nil, same]
  rfl

theorem claimPath_granted (current : (s.channel c).current = some n) (status : (s.order n).status = .waitPath)
    (granted : claimRequest (.channel c) (s.order n).order.path s = (.granted, t, [])) :
    claimPath c s = (t.putChannel c { t.channel c with pathWait := .nothing }, [.proceed c]) := by
  simp [claimPath, currentSlot_of_current current, status, granted]

theorem proceed_receive (current : (s.channel c).current = some n)
    (status : (s.order n).status = .waitPath ∨ (s.order n).status = .opening)
    (kind : (s.order n).order.kind = some .receive) : proceed c s = openStep c n (s.order n) s := by
  have pending : ¬((s.order n).status ≠ .waitPath ∧ (s.order n).status ≠ .opening) := fun ⟨a, b⟩ => status.elim a b
  simp only [proceed, currentSlot_of_current current, if_neg pending, kind]

/-- An open that is asked and taken is awaited (R86). -/
theorem ensureOpen_waiting (work : s.workFor c v = none)
    (asked : moveRequest (.channel c) v .opened s = (.accepted, t, acts)) :
    ensureOpen c v s = (.waiting, t.setWork c v .move .answer, acts) := by
  simp [ensureOpen, work, asked, Answer.workWait]

theorem ensureOpen_isOpen (work : s.workFor c v = none)
    (asked : moveRequest (.channel c) v .opened s = (.done, s, [])) :
    ensureOpen c v s = (.isOpen, s.clearWork c v, []) := by
  simp [ensureOpen, work, asked]

theorem askOpens_receive_waiting (dest : o.dest = some h)
    (asked : ensureOpen c (inletValve h) s = (.waiting, t, acts)) :
    askOpens c o s = (.waiting, t, acts) := by
  simp only [askOpens, dest, asked]

theorem askOpens_receive_isOpen (kind : o.kind = some .receive) (dest : o.dest = some h)
    (asked : ensureOpen c (inletValve h) s = (.isOpen, t, acts)) : askOpens c o s = (.isOpen, t, acts) := by
  simp [askOpens, kind, dest, asked]

theorem openStep_waiting (asked : askOpens c x.order s = (.waiting, t, acts)) :
    openStep c n x s = (leavePath c n .opening t, acts) := by
  simp only [openStep, asked]

theorem openStep_isOpen (asked : askOpens c x.order s = (.isOpen, t, acts)) :
    openStep c n x s = (leavePath c n .opening t, acts ++ [.enterFlowing c]) := by
  simp only [openStep, asked]

theorem putChannel_self (s : State) (c : ChannelId) : s.putChannel c (s.channel c) = s := by
  cases c <;> rfl

/-- A RECEIVE claims its inlet, where nobody has it and it carries no fault (R83). -/
theorem claimPath_receive (run : s.control.phase = .run) (current : (s.channel c).current = some n)
    (status : (s.order n).status = .waitPath) (kind : (s.order n).order.kind = some .receive)
    (dest : (s.order n).order.dest = some h) (wait : (s.channel c).pathWait = .nothing)
    (sound : (s.valve (inletValve h)).fault = .noFault) (free : (s.valve (inletValve h)).claim = .unclaimed)
    (queue : s.valves.queue = []) :
    claimPath c s = (s.putClaim (inletValve h) (.channel c), [.proceed c]) := by
  have path : (s.order n).order.path = [inletValve h] := by simp [Order.path, kind, dest]
  rw [claimPath_granted current status (path ▸ claimRequest_one run sound free queue)]
  refine congrArg (·, _) (Eq.trans (congrArg _ ?_) (putChannel_self _ c))
  rw [← wait]
  rfl

theorem workFor_of_nothing (work : (s.channel c).work = []) : s.workFor c v = none := by
  rw [State.workFor, work]
  rfl

/-- An order with one open of its path on the way (R86). -/
def State.openingBy (s : State) (c : ChannelId) (n : OrderId) (v : ValveId) : State :=
  (s.putOrder n { s.order n with status := .opening }).putChannel c { s.channel c with
    pathTimer := none, pathWait := .nothing, work := [{ valve := v, kind := .move, wait := .answer }] }

theorem leavePath_setWork (work : (s.channel c).work = []) :
    leavePath c n .opening (s.setWork c v .move .answer) = s.openingBy c n v := by
  simp [leavePath, State.setWork, State.putWork, work, dropWork, State.putOrder_putChannel, State.openingBy]

/-- A RECEIVE that goes on has its inlet driven open (R86, R67, R68). -/
theorem proceed_receive_drives {told : Bool} (current : (s.channel c).current = some n)
    (status : (s.order n).status = .waitPath ∨ (s.order n).status = .opening)
    (kind : (s.order n).order.kind = some .receive) (dest : (s.order n).order.dest = some h)
    (work : (s.channel c).work = []) (claim : (s.valve (inletValve h)).claim = .channel c)
    (sound : (s.valve (inletValve h)).fault = .noFault) (closed : (s.valve (inletValve h)).position ≠ .opened)
    (away : (s.valve (inletValve h)).shown ≠ some .opened) (still : s.valves.Resting)
    (nobody : s.valves.refused = []) : Takes 4 told [.proceed c] s ((s.openingBy c n (inletValve h)).drive
      { valve := inletValve h, target := .opened, requesters := [.channel c], protective := false }) := by
  have asked := moveRequest_resting (r := .channel c) (t := .opened) still (by simp [Requester.holdsUnder, claim]) sound
    closed
  have opens : handle (.proceed c) s = ((s.openingBy c n (inletValve h)).enqueue
      { valve := inletValve h, target := .opened, requesters := [.channel c] }, [.arbiter]) := by
    refine (proceed_receive current status kind).trans ((openStep_waiting (askOpens_receive_waiting dest
      (ensureOpen_waiting (workFor_of_nothing work) asked))).trans ?_)
    rw [← leavePath_setWork work]
    rfl
  exact .cons rfl opens (arbiter_drives (s := s.openingBy c n (inletValve h)) still nobody away)

end

end Sys2Proof.Machine
end

section
/-!
A chain that opens a RECEIVE.
-/

namespace Sys2Proof.Machine

/-! ## A chain that opens a RECEIVE (R81 to R86, R67, R68) -/

section
variable {s : State} {c : ChannelId} {n : OrderId} {h : HolderId} {o : Order}

theorem currentCheck_receive (kind : o.kind = some .receive) (dest : o.dest = some h) (src : o.src = none)
    (configured : s.settings.holders[h].configured = true) (service : (s.holder h).state = .service)
    (below : (s.holder h).atCrown = false) (short : ∀ m, (s.holder h).content = some m → m < o.target)
    (condition : s.stock.condition ≠ .crown) : currentCheck o s = none := by
  have ready : s.notReady (some h) = false := by
    have settings : (s.holderSettings h).configured = true := configured
    simp [State.notReady, settings, service]
  have unspent : s.spent o = false := spent_of_kind (by simp [kind])
  have below' : (s.holder h).content.any (fun m => decide (o.target ≤ m)) = false := by
    cases content : (s.holder h).content with
    | none => rfl
    | some m => simpa using short m content
  simp [currentCheck, Order.movesGas, kind, dest, src, ready, condition, below, below', unspent]
  simp [State.notReady]

/-- The state in which a RECEIVE that has just begun has its inlet claimed and asked to open (R83, R86). -/
theorem openingBy_begun {v : ValveId} : (((s.chained c).begun c n).putClaim v (.channel c)).openingBy c n v =
    ((s.putOrder n { s.order n with status := .opening }).putChannel c { Channel.idle with
      state := .running, current := some n
      limitTimer := if (s.order n).order.timeLimit = 0 then none else some (s.order n).order.timeLimit
      work := [{ valve := v, kind := .move, wait := .answer }] }).putValve v
        { s.valve v with claim := .channel c } := by
  simp [State.openingBy, begun_chained, Channel.idle, State.putClaim, State.putOrder_putChannel,
    State.putOrder_putValve, State.putChannel_putValve]

/-- A chain started at a RECEIVE whose inlet is free and CLOSED, to the end of its event. -/
theorem settle_chained_receive (rest : s.atRest) (run : s.control.phase = .run)
    (elsewhere : (s.channel c.other).current ≠ some n) (kind : (s.order n).order.kind = some .receive)
    (dest : (s.order n).order.dest = some h) (check : currentCheck (s.order n).order s = none)
    (free : (s.valve (inletValve h)).claim = .unclaimed) (sound : (s.valve (inletValve h)).fault = .noFault)
    (closed : (s.valve (inletValve h)).position = .closed) (away : (s.valve (inletValve h)).shown ≠ some .opened)
    (still : s.valves.Resting) (nobody : s.valves.refused = []) :
    settle (s.chained c, [.orderCurrent c n]) = (((s.putOrder n { s.order n with status := .opening }).putChannel c
      { Channel.idle with
        state := .running, current := some n
        limitTimer := if (s.order n).order.timeLimit = 0 then none else some (s.order n).order.timeLimit
        work := [{ valve := inletValve h, kind := .move, wait := .answer }] }).putValve (inletValve h)
          { s.valve (inletValve h) with claim := .channel c }).drive
            { valve := inletValve h, target := .opened, requesters := [.channel c], protective := false } := by
  have begins : handle (.orderCurrent c n) (s.chained c) = ((s.chained c).begun c n, [.claimPath c]) :=
    orderCurrent_path check (show (s.order n).order.kind ≠ some .wait by simp [kind])
  have current : (((s.chained c).begun c n).channel c).current = some n := by simp [begun_chained]
  have status : (((s.chained c).begun c n).order n).status = .waitPath := by simp [begun_chained]
  have same : (((s.chained c).begun c n).order n).order = (s.order n).order := by simp [begun_chained]
  have claims : handle (.claimPath c) ((s.chained c).begun c n) = _ := claimPath_receive run current status
    (same ▸ kind) (same ▸ dest) (by simp [begun_chained, Channel.idle]) sound free still.queue
  have claimed : (((s.chained c).begun c n).putClaim (inletValve h) (.channel c)).valve (inletValve h)
      = { s.valve (inletValve h) with claim := .channel c } := by
    rw [State.valve_putClaim, if_pos rfl]
    rfl
  have goesOn : Takes 4 false [.proceed c] _ _ := proceed_receive_drives (h := h)
    (s := ((s.chained c).begun c n).putClaim (inletValve h) (.channel c)) current (.inl status)
    (same ▸ kind) (same ▸ dest) (by simp [begun_chained, Channel.idle]) (by rw [claimed]) (by rw [claimed, sound])
    (by rw [claimed, closed]; nofun) (by rw [claimed]; exact away) ⟨still.main, still.protect, still.queue⟩ nobody
  have words : Takes 6 false [.orderCurrent c n] (s.chained c) _ := .cons rfl begins (.cons rfl claims goesOn)
  rw [openingBy_begun] at words
  refine words.ends (by omega) rest.1 (List.cons_ne_nil _ _) (reported_after (c := c) (n := n) rest ?_ ?_ ?_ elsewhere)
  · exact unreported_of_kind (n := n) (by simp) (by simp [kind])
  · simp
  · intro m other
    simp [Ne.symm other]

end

/-- Settles O38. -/
theorem startChainOpensAReceive : Obligations.StartChainOpensAReceive := by
  unfold Obligations.StartChainOpensAReceive
  intro tag a b c n h s free rest channel slot run released idle elsewhere loaded kind dest src configured service below
    short condition unclaimed sound closed away main protect queue nobody
  have check : startChainCheck c n s = .ok := startChainCheck_ok run (by simp [released]) idle elsewhere loaded
    (spent_of_kind (by simp [kind]))
  have settled := settle_chained_receive (s := s.inHand) rest run elsewhere kind dest
    (currentCheck_receive kind dest src configured service below short condition) unclaimed sound closed away
    ⟨main, protect, queue⟩ nobody
  have driven (t : State) := drive_putValve t ⟨inletValve h, .opened, [.channel c], false⟩
    { s.valve (inletValve h) with claim := .channel c }
  exact (execStartChain_settle free channel slot check (settled.trans (driven _)) :)

end Sys2Proof.Machine
end

section
/-!
MOVE VALVE.
-/

namespace Sys2Proof.Machine

/-! ## MOVE VALVE (R61, R73, R170) -/

section
variable {tag a b : Byte} {s : State} {v : ValveId} {t : Limit}

theorem execMoveValve_badField (free : s.free) (bad : numberOf 20 a.toNat = none ∨ limitOf b.toNat = none) :
    execMoveValve tag [a, b] s = .next (s.answered 20 tag Status.badField.body) := by
  refine request_sized_answer free rfl ?_
  rw [field_pair_first, field_pair_second]
  rcases bad with outside | outside
  · simp only [outside]
  · simp only [outside]
    cases numberOf 20 a.toNat <;> rfl

theorem moveCheck_wrongPhase (setup : s.control.phase = .setup) : moveCheck v t s = .wrongPhase := by
  simp [moveCheck, running_eq_false setup]

/-- The valve of a contract source that is CUT (R170). -/
def State.cutOff (s : State) (v : ValveId) : Prop :=
  s.accounts.cut = true ∧ ∃ x, s.settings.source = some x ∧ sourceValve x = v

theorem cutOff_iff : (s.accounts.cut && (s.settings.source.any fun x => decide (sourceValve x = v))) = true ↔
    s.cutOff v := by
  simp only [Bool.and_eq_true, Option.any_eq_true, decide_eq_true_eq, State.cutOff]

section
variable (run : s.control.phase = .run)
include run

theorem moveCheck_yardStopped (stopped : t = .opened ∧ s.control.stopAsserted = true) :
    moveCheck v t s = .yardStopped := by
  simp [moveCheck, running_eq_true run, stopped]

variable (released : ¬(t = .opened ∧ s.control.stopAsserted = true))
include released

theorem moveCheck_inUse (claimed : (s.valve v).claim ≠ .unclaimed) : moveCheck v t s = .inUse := by
  simp only [moveCheck, running_eq_true run, if_neg released, if_pos claimed]
  rfl

variable (unclaimed : (s.valve v).claim = .unclaimed)
include unclaimed

theorem moveCheck_contractSpent (spent : t = .opened ∧ s.cutOff v) : moveCheck v t s = .contractSpent := by
  simp only [moveCheck, running_eq_true run, if_neg released, unclaimed, if_pos (spent.imp_right cutOff_iff.mpr)]
  rfl

theorem moveCheck_ok (unspent : ¬(t = .opened ∧ s.cutOff v)) : moveCheck v t s = .ok := by
  rw [← cutOff_iff] at unspent
  simp only [moveCheck, running_eq_true run, if_neg released, unclaimed, if_neg unspent]
  rfl

end

section
variable (free : s.free) (number : numberOf 20 a.toNat = some v) (limit : limitOf b.toNat = some t)
include free number limit

theorem execMoveValve_refused {k : Status} (check : moveCheck v t s = k) (refuses : k ≠ .ok) :
    execMoveValve tag [a, b] s = .next (s.answered 20 tag k.body) := by
  have inHand : moveCheck v t s.inHand = k := check
  refine request_sized_answer free rfl ?_
  simp only [field_pair_first, field_pair_second, number, limit, inHand]

theorem execMoveValve_settle {answer : Answer} {e : Effect} {u : State} (check : moveCheck v t s = .ok)
    (asked : moveRequest .host v t s.inHand = (answer, e)) (settled : settle e = u) :
    execMoveValve tag [a, b] s = .next (u.answered 20 tag answer.status.body) := by
  have inHand : moveCheck v t s.inHand = .ok := check
  refine request_sized_settle (e := e) free rfl ?_ settled
  simp only [field_pair_first, field_pair_second, number, limit, inHand, asked]

/-- A move request that is answered, and changes nothing. -/
theorem execMoveValve_answered {answer : Answer} (check : moveCheck v t s = .ok)
    (asked : moveRequest .host v t s.inHand = (answer, s.inHand, [])) :
    execMoveValve tag [a, b] s = .next (s.answered 20 tag answer.status.body) :=
  (execMoveValve_settle free number limit check asked (settle_nil (s := s.inHand) free.1) :)

end

section
variable {r : Requester} (holds : r.holdsUnder (s.valve v).claim = true)
include holds

theorem moveRequest_faulted (fault : (s.valve v).fault ≠ .noFault) : moveRequest r v t s = (.faulted, s, []) := by
  simp [moveRequest, holds, fault]

theorem moveRequest_shielded (sound : (s.valve v).fault = .noFault) (opens : t = .opened)
    (shielded : s.shielded v = true) : moveRequest r v t s = (.isProtected, s, []) := by
  simp [moveRequest, holds, sound, opens, shielded]

end

end

/-- Settles O32: the checks of MOVE VALVE, then the cases of R61. -/
theorem moveValveIsAnswered : Obligations.MoveValveIsAnswered := by
  unfold Obligations.MoveValveIsAnswered
  refine ⟨fun tag a b s free => ⟨execMoveValve_badField free, fun v t number limit => ?_⟩,
    fun tag a b s v t free rest number limit run released uncut unclaimed sound protect away => ?_⟩
  · have refused {k : Status} (check : moveCheck v t s = k) (refuses : k ≠ .ok) : _ :=
      execMoveValve_refused (tag := tag) free number limit check refuses
    refine ⟨fun setup => refused (moveCheck_wrongPhase setup) nofun, fun run =>
      ⟨fun stopped => refused (moveCheck_yardStopped run stopped) nofun,
        fun released claimed => refused (moveCheck_inUse run released claimed) nofun,
        fun released unclaimed spent => refused (moveCheck_contractSpent run released unclaimed spent) nofun,
        fun released unclaimed unspent => ?_⟩⟩
    have check : moveCheck v t s = .ok := moveCheck_ok run released unclaimed unspent
    have holds : Requester.host.holdsUnder (s.inHand.valve v).claim = true := decide_eq_true unclaimed
    exact ⟨fun fault => execMoveValve_answered free number limit check (moveRequest_faulted holds fault),
      fun sound => ⟨fun opens shielded => execMoveValve_answered free number limit check
        (moveRequest_shielded holds sound opens shielded), fun plain still waiting there =>
          execMoveValve_answered free number limit check (moveRequest_done holds sound plain still waiting there)⟩⟩
  · have check : moveCheck v t s = .ok := moveCheck_ok run (by simp [released]) unclaimed
      fun spent => by simp [State.cutOff, uncut] at spent
    have holds : Requester.host.holdsUnder (s.inHand.valve v).claim = true := decide_eq_true unclaimed
    refine ⟨fun d left main other waiting room => ?_, fun main queue nobody shown => ?_⟩
    · have still : s.inHand.driven v = false := driven_of_driving main other
      have asked := moveRequest_enqueue (t := t) holds sound
        (shielded_of_undriven (protectEntry_of_empty protect) still) still waiting away room
      rw [arbiterCall_of_driving (s := s.inHand) main] at asked
      exact (execMoveValve_settle free number limit check asked (settle_nil (s := s.inHand.enqueue _) free.1) :)
    · have resting : s.inHand.valves.Resting := ⟨main, protect, queue⟩
      have asked := moveRequest_resting resting holds sound away
      have words := arbiter_drives (e := { valve := v, target := t, requesters := [.host] }) (told := false) resting
        nobody shown
      have settled := words.settle (by omega) rest.1 (List.cons_ne_nil _ _) rest.2.1 rest.2.2
      simp only [← movingTo_eq]
      exact (execMoveValve_settle free number limit check asked settled :)

end Sys2Proof.Machine
end

section
/-!
Limit switches, and CLEAR VALVE FAULT.
-/

namespace Sys2Proof.Machine

/-! ## CLEAR VALVE FAULT (R74) -/

section
variable {tag n : Byte} {s : State} {v : ValveId} {w : Limit}

/-- A valve with its fault cleared. -/
def State.faultCleared (s : State) (v : ValveId) : State := s.putValve v { s.valve v with fault := .noFault }

theorem clearFault_sound (sound : (s.valve v).fault = .noFault) : clearFault v s = (s, []) := if_pos sound

theorem clearFault_setup (setup : s.control.phase = .setup) (fault : (s.valve v).fault ≠ .noFault) :
    clearFault v s = (s.faultCleared v, []) := by
  have standing : (s.putValve v { s.valve v with fault := .noFault }).running = false := running_eq_false setup
  simp only [clearFault, if_neg fault, standing]
  rfl

theorem clearFault_kept (fault : (s.valve v).fault ≠ .noFault) : Kept (s.faultCleared v) (clearFault v s).1 := by
  simp only [clearFault, if_neg fault]
  split
  · exact .refl _
  · exact (beginReport_quiet (s.faultCleared v)).kept

section
variable (free : s.free)
include free

theorem execClearValveFault_badField (outside : numberOf 20 n.toNat = none) :
    execClearValveFault tag [n] s = .next (s.answered 22 tag Status.badField.body) := by
  refine request_sized_answer free rfl ?_
  simp only [field_singleton, outside]

variable (number : numberOf 20 n.toNat = some v)
include number

theorem execClearValveFault_still {t : State} (cleared : clearFault v s.inHand = (t.inHand, []))
    (rest : t.backlog = []) :
    execClearValveFault tag [n] s = .next (t.answered 22 tag Status.ok.body) := by
  refine request_sized_taken free rfl ?_ rest
  simp only [field_singleton, number, cleared]

theorem execClearValveFault_kept (fault : (s.valve v).fault ≠ .noFault) :
    ∃ t, execClearValveFault tag [n] s = .next t ∧ Kept ((s.faultCleared v).answered 22 tag Status.ok.body) t := by
  refine request_sized_quiet (e := clearFault v s.inHand) free rfl ?_ (clearFault_kept (s := s.inHand) fault)
    ((aside_clearFault v _).1.trans free.1) (clearFault_inner v _)
  simp only [field_singleton, number]

end

/-! ## Limit switches (R5, R69, R71) -/

/-- The record of a valve with one of its switches made or broken (R5). -/
def switched (w : Limit) (made : Bool) (x : Valve) : Valve :=
  if w = .opened then { x with openMade := made } else { x with closedMade := made }

theorem recordSwitch_eq (v : ValveId) (w : Limit) (made : Bool) (s : State) :
    recordSwitch v w made s = s.putValve v (switched w made (s.valve v)) := by
  cases w <;> rfl

@[simp] theorem position_switched (made : Bool) (x : Valve) : (switched w made x).position = x.position := by
  cases w <;> rfl

@[simp] theorem claim_switched (made : Bool) (x : Valve) : (switched w made x).claim = x.claim := by
  cases w <;> rfl

theorem switchMade_setup (setup : s.control.phase = .setup) :
    switchMade v w s = (s.putValve v (switched w true (s.valve v)), []) := by
  have standing : (s.putValve v (switched w true (s.valve v))).running = false := running_eq_false setup
  simp only [switchMade, recordSwitch_eq, standing]
  rfl

section
variable (run : s.control.phase = .run)
include run

theorem switchMade_driving {d : Drive} {left : Nat} (main : s.valves.main = .driving d left) (same : d.valve = v) :
    switchMade v w s = if d.target = w then completeDrive d (s.putValve v (switched w true (s.valve v)))
      else (s.putValve v (switched w true (s.valve v)), []) := by
  have running : (s.putValve v (switched w true (s.valve v))).running = true := running_eq_true run
  have driven : (s.putValve v (switched w true (s.valve v))).driveOf v = some d :=
    (driveOf_of_driving main).trans (if_pos same)
  simp only [switchMade, recordSwitch_eq, running, driven]
  rfl

theorem switchMade_undriven (still : s.driven v = false) : switchMade v w s =
    if (s.valve v).position = .unknown then
      (s.putValve v { switched w true (s.valve v) with position := limitPosition w }, [])
    else if (s.valve v).position = limitPosition w then (s.putValve v (switched w true (s.valve v)), [])
    else disagreeFault v w (s.putValve v (switched w true (s.valve v))) := by
  have running : (s.putValve v (switched w true (s.valve v))).running = true := running_eq_true run
  have undriven : (s.putValve v (switched w true (s.valve v))).driveOf v = none :=
    Option.not_isSome_iff_eq_none.mp (Bool.eq_false_iff.mp still)
  simp only [switchMade, recordSwitch_eq, running, undriven, State.valve_putValve, if_true, position_switched,
    State.putValve_putValve]
  rfl

end

theorem disagreeFault_kept : Kept (s.putValve v { s.valve v with fault := .disagree, position := limitPosition w })
    (disagreeFault v w s).1 := by
  have emptied : Kept (s.putValve v { s.valve v with fault := .disagree, position := limitPosition w })
      ((s.putValve v { s.valve v with fault := .disagree, position := limitPosition w }).putValves
        { (s.putValve v { s.valve v with fault := .disagree, position := limitPosition w }).valves with
          queue := dropEntry s.valves.queue v }) := .valves rfl (dropEntry_length _ _)
  exact emptied.trans (beginReport_quiet _).kept

end

/-- Settles O33. -/
theorem switchesAndFaultsAreRecorded : Obligations.SwitchesAndFaultsAreRecorded := by
  unfold Obligations.SwitchesAndFaultsAreRecorded
  refine ⟨fun tag n s free => ⟨execClearValveFault_badField free, fun v number => ⟨fun sound => ?_,
    fun setup fault => ?_, fun _ fault => execClearValveFault_kept free number fault⟩⟩, fun v w s rest => ⟨?_,
      fun setup => ?_, fun run => ⟨fun d left main same => ⟨fun other => ?_, fun matching => ?_⟩, fun still =>
        ⟨fun unknown => ?_, fun agrees => ?_, fun known disagrees => ?_⟩⟩⟩⟩
  · exact execClearValveFault_still free number (clearFault_sound (s := s.inHand) sound) free.1
  · exact execClearValveFault_still (t := s.faultCleared v) free number (clearFault_setup (s := s.inHand) setup fault)
      free.1
  · exact congrArg Host.Outcome.next (recordSwitch_eq v w false s)
  · exact (congrArg event (switchMade_setup setup)).trans (event_still (t := s.putValve v _) rest)
  · exact (congrArg event ((switchMade_driving run main same).trans (if_neg other))).trans
      (event_still (t := s.putValve v _) rest)
  · have completes := completeDrive_quiet d (s.putValve v (switched w true (s.valve v)))
    refine ⟨_, congrArg event ((switchMade_driving run main same).trans (if_pos matching)), ?_⟩
    exact completes.kept.trans (settle_kept ((aside_completeDrive d _).1.trans rest) completes.inner)
  · exact (congrArg event ((switchMade_undriven run still).trans (if_pos unknown))).trans
      (event_still (t := s.putValve v _) rest)
  · refine (congrArg event ((switchMade_undriven run still).trans ((if_neg ?_).trans (if_pos agrees)))).trans
      (event_still (t := s.putValve v _) rest)
    rw [agrees]
    cases w <;> nofun
  · refine ⟨_, congrArg event ((switchMade_undriven run still).trans ((if_neg known).trans (if_neg disagrees))), ?_⟩
    have faulted := disagreeFault_kept (v := v) (w := w) (s := s.putValve v (switched w true (s.valve v)))
    rw [State.valve_putValve, if_pos rfl, State.putValve_putValve] at faulted
    exact faulted.trans (settle_kept ((aside_disagreeFault v w _).1.trans rest) (disagreeFault_inner v w _))

end Sys2Proof.Machine
end

section
/-!
The ends of drives.
-/

namespace Sys2Proof.Machine

/-! ## The end of a drive (R69, R70, R72) -/

section
variable {s : State} {d : Drive} {left : Nat} {v : ValveId} {x : Valve} {told : Bool}

theorem outletHolder_of_ge (high : 8 ≤ v.val) : outletHolder v = none := dif_neg (by omega)

theorem holderOfValve_of_ge (high : 8 ≤ v.val) : holderOfValve v = none :=
  (dif_neg (by omega)).trans (outletHolder_of_ge high)

/-- The main when a drive has ended: the valve's record taken, and the telling begun (R72). -/
def State.reporting (s : State) (v : ValveId) (x : Valve) : State :=
  (s.putValve v x).putValves { (s.putValve v x).valves with main := .reporting }

/-- The main idle. -/
def State.idled (s : State) : State := s.putValves { s.valves with main := .idle }

/-- The end of the telling, nothing waiting for the main (R72). -/
theorem reportEnd_idles (main : s.valves.main = .reporting) (protect : s.valves.protect = [])
    (queue : s.valves.queue = []) : Takes 2 told [.reportEnd] s s.idled := by
  have ends : handle .reportEnd s = (s.idled, [.arbiter]) := by simp only [handle, endReport, main]; rfl
  exact .cons rfl ends (.cons rfl (arbiterChoose_resting (s := s.idled) ⟨rfl, protect, queue⟩) (.nil _ _))

theorem travelExpired_early (main : s.valves.main = .driving d left) (early : left ≠ 0) :
    travelExpired s = (s, []) := by
  obtain ⟨n, rfl⟩ := Nat.exists_eq_succ_of_ne_zero early
  simp only [travelExpired, main]

theorem travelExpired_idle (main : s.valves.main = .idle) : travelExpired s = (s, []) := by
  simp only [travelExpired, main]

theorem travelExpired_due (main : s.valves.main = .driving d 0) : travelExpired s = failDrive d s := by
  simp only [travelExpired, main]

theorem completeDrive_eq : completeDrive d s =
    (s.reporting d.valve { s.valve d.valve with position := limitPosition d.target },
      driveEndWords d false (s.reporting d.valve { s.valve d.valve with position := limitPosition d.target })) := rfl

theorem failDrive_eq : failDrive d s =
    (s.reporting d.valve { s.valve d.valve with position := .unknown, fault := .stuck },
      driveEndWords d true (s.reporting d.valve { s.valve d.valve with position := .unknown, fault := .stuck })) := rfl

@[simp] theorem valve_reporting : (s.reporting v x).valve v = x :=
  (State.valve_putValve s v v x).trans (if_pos rfl)

theorem failDrive_kept : Kept (s.putValve d.valve { s.valve d.valve with position := .unknown, fault := .stuck })
    (failDrive d s).1 := .valves rfl (Nat.le_refl _)

section
variable (asked : d.requesters = [.host]) (unclaimed : (s.valve d.valve).claim = .unclaimed) (high : 8 ≤ d.valve.val)
include asked unclaimed high

/-- Of a drive of the host's that completes, of a valve that nobody claims and no holder has, only the host is told. -/
theorem driveEndWords_host : driveEndWords d false s = [.tellRequester .host d.valve .done, .reportEnd] := by
  simp [driveEndWords, asked, unclaimed, Claim.requester, holderOfValve_of_ge high]

theorem driveEndWords_host_failed : driveEndWords d true s = [.tellRequester .host d.valve .failed,
    .notice (.valveFault d.valve (s.valve d.valve).fault (s.valve d.valve).position (some d.target)), .reportEnd] := by
  simp [driveEndWords, asked, unclaimed, Claim.requester, holderOfValve_of_ge high, outletHolder_of_ge high]

end

/-- The end of a drive of which only the host is told, and the notice of one that failed. -/
theorem driveEnd_host (k : ValveWord) (main : s.valves.main = .reporting) (protect : s.valves.protect = [])
    (queue : s.valves.queue = []) : Takes 3 told [.tellRequester .host v k, .reportEnd] s s.idled :=
  .cons rfl rfl (reportEnd_idles main protect queue)

theorem driveEnd_host_failed (k : ValveWord) (n : Notice) (main : s.valves.main = .reporting)
    (protect : s.valves.protect = []) (queue : s.valves.queue = []) :
    Takes 4 told [.tellRequester .host v k, .notice n, .reportEnd] s (s.idled.notify n) :=
  .cons rfl rfl (.cons rfl rfl (reportEnd_idles (s := s.notify n) main protect queue))

end

/-! ## The open of TDEL that completes a path (R86, R87) -/

section
variable {s t : State} {c e : ChannelId} {n : OrderId} {h : HolderId} {v : ValveId} {x : OrderSlot} {o : Order}
variable {told : Bool}

theorem unreported_of_alike (current : (t.channel e).current = (s.channel e).current)
    (reported : (t.channel e).reported = (s.channel e).reported)
    (order : ∀ m, (t.order m).order = (s.order m).order ∧ (t.order m).status.running = (s.order m).status.running) :
    t.unreported e = s.unreported e := by
  simp only [State.unreported, State.currentSlot, current, reported]
  cases (s.channel e).current with
  | none => rfl
  | some m =>
    obtain ⟨same, running⟩ := order m
    simp only [Option.map_some, same, running]

theorem channelWord_done (current : (s.channel c).current = some n) (status : (s.order n).status = .opening)
    (moves : (s.order n).order.movesGas = true)
    (work : (s.channel c).work = [{ valve := v, kind := .move, wait := .answer }]) :
    channelWord c v .done s = (s.putWork c [], [.proceed c]) := by
  have asked : s.workFor c v = some { valve := v, kind := .move, wait := .answer } := by
    simp [State.workFor, work]
  simp [channelWord, currentSlot_of_current current, status, wordWorking, asked, moves, State.clearWork, work, dropWork]

theorem putWork_self (work : (s.channel c).work = []) : s.putWork c [] = s := by
  rw [State.putWork, ← work]
  exact putChannel_self s c

theorem clearWork_of_nothing (work : (s.channel c).work = []) : s.clearWork c v = s := by
  rw [State.clearWork, work]
  exact putWork_self work

/-- An asking that finds its valve OPEN. -/
theorem ensureOpen_opened (work : (s.channel c).work = [])
    (asked : moveRequest (.channel c) v .opened s = (.done, s, [])) : ensureOpen c v s = (.isOpen, s, []) := by
  rw [ensureOpen_isOpen (workFor_of_nothing work) asked, clearWork_of_nothing work]

theorem askOpens_transfer_isOpen (kind : o.kind = some .transfer) (dest : o.dest = some h)
    (opened : ∀ v ∈ [inletValve h, deliveryValve, suctionValve], ensureOpen c v s = (.isOpen, s, [])) :
    askOpens c o s = (.isOpen, s, []) := by
  simp only [List.forall_mem_cons] at opened
  obtain ⟨inlet, delivery, suction, _⟩ := opened
  simp [askOpens, kind, dest, inlet, delivery, suction]

theorem proceed_transfer (current : (s.channel c).current = some n)
    (status : (s.order n).status = .waitPath ∨ (s.order n).status = .opening)
    (kind : (s.order n).order.kind = some .transfer) (pin : s.holdsPin c = true) :
    proceed c s = openStep c n (s.order n) s := by
  have pending : ¬((s.order n).status ≠ .waitPath ∧ (s.order n).status ≠ .opening) := fun ⟨a, b⟩ => status.elim a b
  simp only [proceed, currentSlot_of_current current, if_neg pending, kind, pin, if_true]

theorem enterFlowing_transfer (current : (s.channel c).current = some n)
    (working : (s.order n).status.working = true) (kind : (s.order n).order.kind = some .transfer) :
    enterFlowing c s = ((leavePath c n .flowing s).setBooster true, []) := by
  simp [enterFlowing, currentSlot_of_current current, working, kind]

theorem driveOf_of_reporting (main : s.valves.main = .reporting) : s.driveOf v = none := by
  simp only [State.driveOf, main, Main.drive?]

/-- An asking for a valve that stands OPEN, while the end of a drive is told. -/
theorem ensureOpen_reporting (main : s.valves.main = .reporting) (protect : s.valves.protect = [])
    (queue : s.valves.queue = []) (work : (s.channel c).work = []) (claim : (s.valve v).claim = .channel c)
    (sound : (s.valve v).fault = .noFault) (opened : (s.valve v).position = .opened) :
    ensureOpen c v s = (.isOpen, s, []) := by
  have still : s.driven v = false := by rw [State.driven, driveOf_of_reporting main]; rfl
  refine ensureOpen_opened work (moveRequest_done (by simp [Requester.holdsUnder, claim]) sound
    (shielded_of_undriven (protectEntry_of_empty protect) still) still (queueEntry_of_empty queue) opened)

theorem flowing_of_opening : leavePath c n .flowing (leavePath c n .opening (s.putWork c [])) =
    (s.putOrder n { s.order n with status := .flowing }).putChannel c
      { s.channel c with pathTimer := none, pathWait := .nothing, work := [] } := by
  simp [leavePath, State.putWork, State.putOrder_putChannel]

/-- The word that TDEL is OPEN puts a TRANSFER in FLOWING, all its path being OPEN (R86, R87). -/
theorem transferFlows (main : s.valves.main = .reporting) (protect : s.valves.protect = [])
    (queue : s.valves.queue = []) (current : (s.channel c).current = some n)
    (status : (s.order n).status = .opening) (kind : (s.order n).order.kind = some .transfer)
    (dest : (s.order n).order.dest = some h) (pin : s.holdsPin c = true)
    (work : (s.channel c).work = [{ valve := deliveryValve, kind := .move, wait := .answer }])
    (path : ∀ v ∈ [inletValve h, deliveryValve, suctionValve], (s.valve v).claim = .channel c ∧
      (s.valve v).fault = .noFault ∧ (s.valve v).position = .opened) :
    Takes 3 told [.tellRequester (.channel c) deliveryValve .done] s
      (((s.putOrder n { s.order n with status := .flowing }).putChannel c
        { s.channel c with pathTimer := none, pathWait := .nothing, work := [] }).setBooster true) := by
  have tells : handle (.tellRequester (.channel c) deliveryValve .done) s = (s.putWork c [], [.proceed c]) :=
    channelWord_done current status (by simp [Order.movesGas, kind]) work
  have opened : ∀ v ∈ [inletValve h, deliveryValve, suctionValve],
      ensureOpen c v (s.putWork c []) = (.isOpen, s.putWork c [], []) := fun v inPath => by
    obtain ⟨claim, sound, opened⟩ := path v inPath
    exact ensureOpen_reporting (s := s.putWork c []) main protect queue (by simp) claim sound opened
  have goesOn : handle (.proceed c) (s.putWork c []) = (leavePath c n .opening (s.putWork c []), [.enterFlowing c]) :=
    (proceed_transfer (s := s.putWork c []) (n := n) (by simp [current]) (.inr status) kind pin).trans
      (openStep_isOpen (askOpens_transfer_isOpen kind dest opened))
  have flows : handle (.enterFlowing c) (leavePath c n .opening (s.putWork c [])) = (_, []) :=
    enterFlowing_transfer (n := n) (by simp [leavePath, current]) (by simp [leavePath, OrderStatus.working])
      (by simp [leavePath, kind])
  rw [flowing_of_opening] at flows
  exact .cons rfl tells (.cons rfl goesOn (.cons rfl flows (.nil _ _)))

end

/-! ## The three ends -/

section
variable {s : State} {d : Drive} {left : Nat}

/-- A drive for a channel that holds the claim: only the channel is told, of a valve that no holder has. -/
theorem driveEndWords_channel {c : ChannelId} (asked : d.requesters = [.channel c])
    (claim : (s.valve d.valve).claim = .channel c) (high : 8 ≤ d.valve.val) :
    driveEndWords d false s = [.tellRequester (.channel c) d.valve .done, .reportEnd] := by
  simp [driveEndWords, asked, claim, Claim.requester, holderOfValve_of_ge high]

theorem recorded_eq (t : Limit) (x : Valve) : ({ switched t true x with position := limitPosition t } : Valve) =
    if t = .opened then { x with openMade := true, position := .opened }
    else { x with closedMade := true, position := .closed } := by
  cases t <;> rfl

theorem switchMade_completes (run : s.control.phase = .run) (main : s.valves.main = .driving d left) :
    switchMade d.valve d.target s =
      (s.reporting d.valve { switched d.target true (s.valve d.valve) with position := limitPosition d.target },
        driveEndWords d false (s.reporting d.valve
          { switched d.target true (s.valve d.valve) with position := limitPosition d.target })) := by
  rw [(switchMade_driving run main rfl).trans (if_pos rfl), completeDrive_eq]
  simp [State.reporting]

section
variable (rest : s.atRest) (asked : d.requesters = [.host]) (unclaimed : (s.valve d.valve).claim = .unclaimed)
variable (high : 8 ≤ d.valve.val) (protect : s.valves.protect = []) (queue : s.valves.queue = [])
include rest asked unclaimed high protect queue

theorem settle_completes (run : s.control.phase = .run) (main : s.valves.main = .driving d left) :
    settle (switchMade d.valve d.target s) = (s.reporting d.valve
      { switched d.target true (s.valve d.valve) with position := limitPosition d.target }).idled := by
  rw [switchMade_completes run main, driveEndWords_host asked (by simp [unclaimed]) high]
  exact (driveEnd_host (s := s.reporting d.valve _) .done rfl protect queue).settle (by omega) rest.1
    (List.cons_ne_nil _ _) rest.2.1 rest.2.2

theorem settle_failDrive : settle (failDrive d s) =
    (s.reporting d.valve { s.valve d.valve with position := .unknown, fault := .stuck }).idled.notify
      (.valveFault d.valve .stuck .unknown (some d.target)) := by
  rw [failDrive_eq, driveEndWords_host_failed asked (by simp [unclaimed]) high, valve_reporting]
  exact (driveEnd_host_failed (s := s.reporting d.valve _) .failed _ rfl protect queue).settle (by omega) rest.1
    (List.cons_ne_nil _ _) rest.2.1 rest.2.2

end

end

/-- An order that goes on leaves every TRANSFER reported. -/
theorem transferFlowing_reported {s : State} {c : ChannelId} {n : OrderId} (rest : s.atRest)
    (status : (s.order n).status = .opening) :
    let t := ((s.putOrder n { s.order n with status := .flowing }).putChannel c { s.channel c with
      pathTimer := none, pathWait := .nothing, work := [] }).setBooster true
    t.unreported .a = none ∧ t.unreported .b = none := by
  intro t
  have alike : ∀ e, t.unreported e = s.unreported e := fun e => by
    refine unreported_of_alike ?_ ?_ fun m => ?_
    · simp only [t, State.channel_setBooster_other, State.channel_putChannel]
      split
      next same => rw [same]
      next => rfl
    · simp only [t, State.channel_setBooster_other, State.channel_putChannel]
      split
      next same => rw [same]
      next => rfl
    · simp only [t, State.order_setBooster_other, State.order_putChannel_other, State.order_putOrder]
      split
      next same => rw [← same, status]; exact ⟨rfl, rfl⟩
      next => exact ⟨rfl, rfl⟩
  exact ⟨(alike .a).trans rest.2.1, (alike .b).trans rest.2.2⟩

/-- The path of a TRANSFER once TDEL is OPEN. -/
theorem transfer_path {s : State} {c : ChannelId} {h : HolderId}
    (path : ∀ v ∈ [inletValve h, deliveryValve, suctionValve],
      (s.valve v).claim = .channel c ∧ (s.valve v).fault = .noFault)
    (inlet : (s.valve (inletValve h)).position = .opened) (suction : (s.valve suctionValve).position = .opened) :
    ∀ v ∈ [inletValve h, deliveryValve, suctionValve],
      let t := s.reporting deliveryValve { s.valve deliveryValve with openMade := true, position := .opened }
      (t.valve v).claim = .channel c ∧ (t.valve v).fault = .noFault ∧ (t.valve v).position = .opened := by
  have values : ∀ v, (s.reporting deliveryValve
      { s.valve deliveryValve with openMade := true, position := .opened }).valve v
        = if deliveryValve = v then { s.valve deliveryValve with openMade := true, position := .opened }
          else s.valve v := fun v => State.valve_putValve s deliveryValve v _
  intro v inPath t
  obtain ⟨claim, sound⟩ := path v inPath
  rw [values]
  split
  next same => exact ⟨same ▸ claim, same ▸ sound, rfl⟩
  next other =>
    refine ⟨claim, sound, ?_⟩
    simp only [List.mem_cons, List.not_mem_nil, or_false] at inPath
    rcases inPath with rfl | rfl | rfl
    · exact inlet
    · exact absurd rfl other
    · exact suction

/-- Settles O34: the two ends of a drive of the host's, a due travel timer, and the open that completes a path. -/
theorem drivesEnd : Obligations.DrivesEnd := by
  unfold Obligations.DrivesEnd
  refine ⟨fun d left s rest run main => ⟨fun early => ?_, fun asked unclaimed high protect queue =>
    ⟨fun record isRecord => ?_, fun due => ?_⟩⟩, fun s rest => ⟨fun d main => ?_, fun idle => ?_⟩,
    fun c n h left s rest run current status kind dest pin work path inlet suction main protect queue => ?_⟩
  · exact (congrArg event (travelExpired_early main early)).trans (event_still rest.1)
  · rw [isRecord, ← recorded_eq]
    exact congrArg Host.Outcome.next (settle_completes rest asked unclaimed high protect queue run main)
  · subst due
    exact (congrArg event (travelExpired_due main)).trans
      (congrArg Host.Outcome.next (settle_failDrive rest asked unclaimed high protect queue))
  · exact ⟨_, congrArg event (travelExpired_due main), failDrive_kept.trans
      (settle_kept ((aside_failDrive d s).1.trans rest) (failDrive_inner d s))⟩
  · exact (congrArg event (travelExpired_idle idle)).trans (event_still rest)
  · have ends : Takes 2 false [.reportEnd] _ _ := reportEnd_idles (s := ((((s.reporting deliveryValve
      { s.valve deliveryValve with openMade := true, position := .opened }).putOrder n
        { s.order n with status := .flowing }).putChannel c { s.channel c with
          pathTimer := none, pathWait := .nothing, work := [] }).setBooster true)) rfl protect queue
    have flows : Takes 3 false _ _ _ := transferFlows (c := c) (n := n) (h := h)
      (s := s.reporting deliveryValve { s.valve deliveryValve with openMade := true, position := .opened })
      rfl protect queue current status kind dest pin work (transfer_path path inlet suction)
    have reported := transferFlowing_reported (c := c) rest status
    have words : Takes 5 false _ _ _ := flows.append ends
    have settled := words.ends (by omega) rest.1 (List.cons_ne_nil _ _) reported
    have completes := switchMade_completes run main
    rw [driveEndWords_channel rfl (by simpa using (path deliveryValve (by simp)).1)
        (show 8 ≤ deliveryValve.val by decide)] at completes
    exact (congrArg event completes).trans (congrArg Host.Outcome.next settled)

end Sys2Proof.Machine
end

section
/-!
SET OUTLET MAP.
-/

namespace Sys2Proof.Machine

/-! ## A new outlet map in RUN (R118) -/

section
variable {old new : OutletMap} {d e : DistrictId} {s : State}

/-- A district's record after a change of the outlet map, where the change moves only districts that are SHUT. -/
def remapped (old : OutletMap) (d : DistrictId) (s : State) : District :=
  { s.district d with
    inForce :=
      if old.outletOf d = none ∧ s.outletOf d ≠ none then some (s.setpointNow d)
      else if old.outletOf d ≠ none ∧ s.outletOf d = none then none
      else (s.district d).inForce }

theorem remapped_gains (was : old.outletOf d = none) (has : s.outletOf d ≠ none) :
    remapped old d s = { s.district d with inForce := some (s.setpointNow d) } := by
  simp [remapped, was, has]

theorem remapped_loses (was : old.outletOf d ≠ none) (lost : s.outletOf d = none) :
    remapped old d s = { s.district d with inForce := none } := by
  simp [remapped, was, lost]

theorem remapped_alike (alike : (old.outletOf d).isSome = (s.outletOf d).isSome) : remapped old d s = s.district d := by
  unfold remapped
  cases was : old.outletOf d <;> cases has : s.outletOf d <;> simp_all

theorem putDistrict_self (s : State) (d : DistrictId) : s.putDistrict d (s.district d) = s := by
  simp [State.putDistrict, State.district]

theorem afterMap_eq (run : s.control.phase = .run)
    (moves : s.outletOf d = old.outletOf d ∨ (s.district d).state = .shut) :
    afterMap old d s = s.putDistrict d (remapped old d s) := by
  have stays : s.putDistrict d { s.district d with inForce := (s.district d).inForce } = s := putDistrict_self s d
  unfold afterMap remapped
  cases was : old.outletOf d <;> cases outlet : s.outletOf d
  case none.none => simp [stays]
  case some.some => simp [stays]
  case some.none => simp
  case none.some p =>
    have shut : (s.district d).state = .shut := moves.resolve_left (by simp [was, outlet])
    simp [findSetpoint_of_same run outlet (.inr (by rw [shut]; rfl))]

theorem setpointNow_putDistrict_other {x : District} (other : e ≠ d) :
    (s.putDistrict e x).setpointNow d = s.setpointNow d := by
  simp only [State.setpointNow, setpointRow, State.district_putDistrict, if_neg other]
  rfl

theorem remapped_putDistrict_other {x : District} (other : e ≠ d) :
    remapped old d (s.putDistrict e x) = remapped old d s := by
  simp [remapped, setpointNow_putDistrict_other other, other]

/-- The part with every district's record replaced. -/
def State.withDistricts (s : State) (f : DistrictId → District) : State :=
  { s with districts := { s.districts with table := Vector.ofFn f } }

@[simp] theorem district_withDistricts (f : DistrictId → District) : (s.withDistricts f).district d = f d :=
  Vector.getElem_ofFn ..

theorem withDistricts_self (s : State) : s.withDistricts s.district = s := by
  have same : (Vector.ofFn s.district) = s.districts.table := by ext i; simp [State.district]
  rw [State.withDistricts, same]

theorem withDistricts_putDistrict (x : District) (f : DistrictId → District) :
    (s.putDistrict e x).withDistricts f = s.withDistricts f := rfl

/-- The districts of a list taken through a change of the outlet map, each by itself. -/
theorem foldl_afterMap (l : List DistrictId) (nodup : l.Nodup) (run : s.control.phase = .run)
    (moves : ∀ d, s.outletOf d = old.outletOf d ∨ (s.district d).state = .shut) :
    l.foldl (fun t d => afterMap old d t) s =
      s.withDistricts fun d => if d ∈ l then remapped old d s else s.district d := by
  induction l generalizing s with
  | nil => simpa using (withDistricts_self s).symm
  | cons e l ih =>
    obtain ⟨fresh, nodup⟩ := List.nodup_cons.mp nodup
    have still : ∀ d, (s.putDistrict e (remapped old e s)).outletOf d = old.outletOf d
        ∨ ((s.putDistrict e (remapped old e s)).district d).state = .shut := fun d => by
      rw [State.district_putDistrict]
      split
      next same => exact same ▸ moves e
      next => exact moves d
    rw [List.foldl_cons, afterMap_eq run (moves e), ih (s := s.putDistrict e (remapped old e s)) nodup run still,
      withDistricts_putDistrict]
    refine congrArg _ (funext fun d => ?_)
    by_cases same : e = d
    · subst same
      simp [fresh]
    · simp [remapped_putDistrict_other same, same, Ne.symm same]

/-- The part under a new map, its districts taken through the change. -/
def State.mapped (s : State) (new : OutletMap) : State :=
  (s.putSettings { s.settings with map := new }).withDistricts fun d =>
    remapped s.settings.map d (s.putSettings { s.settings with map := new })

theorem district_mapped : (s.mapped new).district d =
    remapped s.settings.map d (s.putSettings { s.settings with map := new }) := district_withDistricts _

/-- A changed map in RUN, the word to the account unit still to come. -/
theorem storeMap_run (run : s.control.phase = .run)
    (moves : ∀ d, new.outletOf d = s.settings.map.outletOf d ∨ (s.district d).state = .shut) :
    storeMap new s = (s.mapped new, [.mapChanged]) := by
  have applied := foldl_afterMap (s := s.putSettings { s.settings with map := new }) allDistricts (by decide) run moves
  simp only [mem_allDistricts, if_true] at applied
  simp only [storeMap, applyMap, State.running_putSettings, running_eq_true run, applied, if_true]
  rfl

theorem storeMap_setup (setup : s.control.phase = .setup) :
    storeMap new s = (s.putSettings { s.settings with map := new }, []) :=
  if_neg (Bool.eq_false_iff.mp (running_eq_false setup))

/-! ### What the account unit makes of it (R155) -/

theorem mapChanged_eq : mapChanged s = s.putAccounts { s.accounts with halves := (mapChanged s).accounts.halves } := by
  unfold mapChanged markFilling
  split
  · split <;> rfl
  · rfl

theorem mapChanged_half {i : HalfId} (run : s.control.phase = .run) (filling : s.halfIn .filling = some i) :
    (mapChanged s).half i = { s.half i with marks := { (s.half i).marks with mapChanged := true } } := by
  simp [mapChanged, running_eq_true run, markFilling, filling]

theorem mapChanged_district : (mapChanged s).district d = s.district d := by rw [mapChanged_eq]; rfl

/-- A new map in RUN, to the end of its event. -/
theorem settle_storeMap (rest : s.atRest) (run : s.control.phase = .run)
    (moves : ∀ d, new.outletOf d = s.settings.map.outletOf d ∨ (s.district d).state = .shut) :
    settle (storeMap new s) = mapChanged (s.mapped new) := by
  have words : Takes 1 false [.mapChanged] (s.mapped new) (mapChanged (s.mapped new)) := .cons rfl rfl (.nil _ _)
  have channels : (mapChanged (s.mapped new)).channels = s.channels := by rw [mapChanged_eq]; rfl
  rw [storeMap_run run moves]
  exact words.settle (by omega) rest.1 (List.cons_ne_nil _ _) ((unreported_congr channels _).trans rest.2.1)
    ((unreported_congr channels _).trans rest.2.2)

/-! ### SET OUTLET MAP -/

theorem mapMovesShut_iff : mapMovesShut new s = true ↔
    ∀ d, new.outletOf d = s.settings.map.outletOf d ∨ (s.district d).state = .shut := by
  simp only [mapMovesShut, List.all_eq_true, mem_allDistricts, Bool.or_eq_true, decide_eq_true_eq, true_implies]
  rfl

theorem setMapCheck_frozen (locked : s.control.frozen = true ∧ new ≠ s.settings.map) :
    setMapCheck new s = .frozen := if_pos (by simp [locked])

section
variable (unlocked : ¬(s.control.frozen = true ∧ new ≠ s.settings.map))
include unlocked

theorem setMapCheck_inUse (run : s.control.phase = .run)
    (moving : ∃ d, new.outletOf d ≠ s.settings.map.outletOf d ∧ (s.district d).state ≠ .shut) :
    setMapCheck new s = .inUse := by
  obtain ⟨d, moved, working⟩ := moving
  refine (if_neg (by simpa using unlocked)).trans (if_pos ?_)
  rw [running_eq_true run, Bool.true_and, Bool.not_eq_true', Bool.eq_false_iff, ne_eq, mapMovesShut_iff]
  exact fun all => (all d).elim moved working

theorem setMapCheck_ok (allowed : s.control.phase = .setup ∨
    ∀ d, new.outletOf d = s.settings.map.outletOf d ∨ (s.district d).state = .shut) : setMapCheck new s = .ok := by
  refine (if_neg (by simpa using unlocked)).trans (if_neg ?_)
  rcases allowed with setup | moves
  · simp [running_eq_false setup]
  · simp [mapMovesShut_iff.mpr moves]

end

variable {tag : Byte} {body : List Byte}

theorem mapOf_none_of_mode (outside : modeOf (field body 0 1) = none) : mapOf body = none := by
  simp only [mapOf, outside]

theorem mapOf_none_of_table (outside : tableOf body = none) : mapOf body = none := by
  simp only [mapOf, outside]
  cases modeOf (field body 0 1) <;> rfl

theorem mapOf_none_of_repeat {t : Vector (Option DistrictId) 6} (table : tableOf body = some t)
    (repeats : tableDistinct t = false) : mapOf body = none := by
  simp only [mapOf, table]
  cases modeOf (field body 0 1) with
  | none => rfl
  | some mode => exact if_neg (by simp [repeats])

section
variable (free : s.free) (length : body.length = 8)
include free length

theorem execSetOutletMap_badField (none : mapOf body = none) :
    execSetOutletMap tag body s = .next (s.answered 33 tag Status.badField.body) := by
  refine request_sized_answer free length ?_
  simp only [none]

variable (map : mapOf body = some new)
include map

theorem execSetOutletMap_refused {k : Status} (check : setMapCheck new s = k) (refuses : k ≠ .ok) :
    execSetOutletMap tag body s = .next (s.answered 33 tag k.body) := by
  have inHand : setMapCheck new s.inHand = k := check
  refine request_sized_answer free length ?_
  simp only [map, inHand]

theorem execSetOutletMap_settle {t : State} (check : setMapCheck new s = .ok)
    (settled : settle (storeMap new s.inHand) = t) :
    execSetOutletMap tag body s = .next (t.answered 33 tag Status.ok.body) := by
  have inHand : setMapCheck new s.inHand = .ok := check
  refine request_sized_settle (e := storeMap new s.inHand) free length ?_ settled
  simp only [map, inHand]

end

end

/-- Settles O43. -/
theorem outletMapIsCheckedAndApplied : Obligations.OutletMapIsCheckedAndApplied := by
  unfold Obligations.OutletMapIsCheckedAndApplied
  refine ⟨fun tag body s free length => ⟨fun outside => ?_, fun outside => ?_, fun t table repeats => ?_,
    fun new map => ⟨fun locked => ?_, fun unlocked ⟨run, moving⟩ => ?_, fun unlocked setup => ?_⟩⟩,
    fun tag body new s free rest length map run unlocked moves => ?_⟩
  · exact execSetOutletMap_badField free length (mapOf_none_of_mode outside)
  · exact execSetOutletMap_badField free length (mapOf_none_of_table outside)
  · exact execSetOutletMap_badField free length (mapOf_none_of_repeat table repeats)
  · exact execSetOutletMap_refused free length map (setMapCheck_frozen locked) nofun
  · exact execSetOutletMap_refused free length map (setMapCheck_inUse unlocked run moving) nofun
  · have settled := (congrArg settle (storeMap_setup (s := s.inHand) (new := new) setup)).trans (settle_nil free.1)
    exact (execSetOutletMap_settle free length map (setMapCheck_ok unlocked (.inl setup)) settled :)
  · have check : setMapCheck new s = .ok := setMapCheck_ok (fun ⟨frozen, other⟩ => unlocked.elim
      (fun free => Bool.false_ne_true (free.symm.trans frozen)) other) (.inr moves)
    refine ⟨_, execSetOutletMap_settle free length map check (settle_storeMap (s := s.inHand) rest run moves), ?_⟩
    refine ⟨?_, ?_, ?_, ?_, ?_, ?_, fun d was has shut => ?_, fun d was lost => ?_, fun d alike => ?_,
      fun i filling => mapChanged_half run filling⟩
    iterate 6 rw [mapChanged_eq]; rfl
    all_goals rw [mapChanged_district, district_mapped]
    · exact remapped_gains was has
    · exact remapped_loses was lost
    · exact remapped_alike alike

end Sys2Proof.Machine
end

section
/-!
PRESSURE SAMPLE.
-/

namespace Sys2Proof.Machine

/-! ## Samples and the band (R4, R138, R140, R141) -/

section
variable {p : OutletId} {d : DistrictId} {s : State} {n : Nat} {i : InForce}

theorem excursion_inside {x : DistrictSettings} {setpoint sample : Nat}
    (inside : setpoint ≤ sample + x.lowMargin ∧ sample ≤ setpoint + x.highMargin) :
    excursion x setpoint sample = none := by
  unfold excursion
  rw [if_neg (by omega), if_neg (by omega)]

theorem excursion_outside {x : DistrictSettings} {setpoint sample : Nat}
    (outside : ¬(setpoint ≤ sample + x.lowMargin ∧ sample ≤ setpoint + x.highMargin)) :
    excursion x setpoint sample = some (if sample + x.lowMargin < setpoint then .low else .high) := by
  unfold excursion
  split
  · rfl
  · exact if_pos (by omega)

theorem judgeSample_idle (idle : ¬(s.control.phase = .run ∧
    ((s.district d).state = .live ∨ (s.district d).state = .warn) ∧ (s.district d).lockout = none)) :
    judgeSample d n s = (s, []) := by
  refine if_pos ?_
  rw [← loaded_iff, ← Option.isNone_iff_eq_none, ← Option.isSome_eq_false_iff] at idle
  simp only [Bool.or_eq_true, Bool.not_eq_true']
  refine Decidable.byContradiction fun judged => ?_
  simp only [not_or, Bool.not_eq_false, Bool.not_eq_true] at judged
  obtain ⟨⟨running, loaded⟩, unlocked⟩ := judged
  exact idle ⟨of_decide_eq_true running, loaded, unlocked⟩

/-- The side of an excursion (R138). -/
abbrev excursionSide (x : DistrictSettings) (setpoint sample : Nat) : Side :=
  if sample + x.lowMargin < setpoint then .low else .high

section
variable (judged : s.control.phase = .run ∧
  ((s.district d).state = .live ∨ (s.district d).state = .warn) ∧ (s.district d).lockout = none)
variable (inForce : (s.district d).inForce = some i)
include judged inForce

theorem judgeSample_inside (inside : i.value ≤ n + (s.districtSettings d).lowMargin ∧
    n ≤ i.value + (s.districtSettings d).highMargin) :
    judgeSample d n s = (s.putDistrict d { s.district d with qualify := none }, []) := by
  obtain ⟨run, state, unlocked⟩ := judged
  simp [judgeSample, running_eq_true run, (loaded_iff _).mpr state, unlocked, inForce, excursion_inside inside]

section
variable (outside : ¬(i.value ≤ n + (s.districtSettings d).lowMargin ∧
  n ≤ i.value + (s.districtSettings d).highMargin))
include outside

theorem judgeSample_outside : judgeSample d n s =
    if (s.district d).qualify ≠ none then (s, [])
    else if (s.districtSettings d).qualify = 0 then
      qualified d (excursionSide (s.districtSettings d) i.value n) n i.value s
    else (s.putDistrict d { s.district d with qualify := some (s.districtSettings d).qualify }, []) := by
  obtain ⟨run, state, unlocked⟩ := judged
  simp [judgeSample, running_eq_true run, (loaded_iff _).mpr state, unlocked, inForce, excursion_outside outside,
    Option.isSome_iff_ne_none]

end

end

/-- The last sample of a district (R4). -/
def State.sampled (s : State) (d : DistrictId) (n : Nat) : State :=
  s.putDistrict d { s.district d with sample := some { value := n, age := 0 } }

@[simp] theorem district_sampled : (s.sampled d n).district d = { s.district d with sample := some ⟨n, 0⟩ } :=
  (State.district_putDistrict ..).trans (if_pos rfl)

@[simp] theorem control_sampled : (s.sampled d n).control = s.control := rfl

@[simp] theorem districtSettings_sampled : (s.sampled d n).districtSettings d = s.settings.districts[d] := rfl

theorem takeSample_none (nobody : s.settings.map.districtAt p = none) : takeSample p n s = (s, []) := by
  simp only [takeSample, nobody]

theorem takeSample_some (district : s.settings.map.districtAt p = some d) :
    takeSample p n s = judgeSample d n (s.sampled d n) := by
  simp only [takeSample, district]
  rfl

end

/-- Settles O50. -/
theorem pressureSampleIsJudged : Obligations.PressureSampleIsJudged := by
  unfold Obligations.PressureSampleIsJudged
  refine fun p n s rest => ⟨fun nobody => ?_, fun d district => ⟨fun idle => ?_, fun i judged inForce =>
    ⟨fun inside => ?_, fun outside timing => ?_, fun outside untimed delayed => ?_, fun outside untimed atOnce => ?_⟩⟩⟩
  · exact (congrArg event (takeSample_none nobody)).trans (event_still rest)
  all_goals have sampled : exec (.pressureSample p n) s = event (judgeSample d n (s.sampled d n)) :=
    congrArg event (takeSample_some district)
  · refine sampled.trans ((congrArg event (judgeSample_idle ?_)).trans (event_still (t := s.sampled d n) rest))
    simpa using idle
  all_goals
    have judgedNow : (s.sampled d n).control.phase = .run ∧
        (((s.sampled d n).district d).state = .live ∨ ((s.sampled d n).district d).state = .warn) ∧
          ((s.sampled d n).district d).lockout = none := by simpa using judged
    have inForceNow : ((s.sampled d n).district d).inForce = some i := by simpa using inForce
  · refine sampled.trans ((congrArg event (judgeSample_inside judgedNow inForceNow inside)).trans ?_)
    simpa [State.sampled] using event_still (t := (s.sampled d n).putDistrict d _) rest
  all_goals have outcome := sampled.trans (congrArg event (judgeSample_outside judgedNow inForceNow outside))
  · rw [if_pos (by simpa using timing)] at outcome
    exact outcome.trans (event_still (t := s.sampled d n) rest)
  · rw [if_neg (by simpa using untimed), districtSettings_sampled, if_neg delayed, district_sampled] at outcome
    refine outcome.trans ((event_still (t := (s.sampled d n).putDistrict d _) rest).trans ?_)
    rw [State.sampled, State.putDistrict_putDistrict]
  · rw [if_neg (by simpa using untimed), districtSettings_sampled, if_pos atOnce] at outcome
    have quiet := qualified_quiet d (excursionSide s.settings.districts[d] i.value n) n i.value (s.sampled d n)
    exact ⟨_, outcome, quiet.kept.trans (settle_kept ((aside_qualified d _ n i.value _).1.trans rest) quiet.inner)⟩

end Sys2Proof.Machine
end

section
/-!
The timers of a district, and its trip.
-/

namespace Sys2Proof.Machine

/-! ## Protective closes of a valve that stands OPEN (R65, R67) -/

section
variable {s : State} {v : ValveId} {told : Bool} {cause : ProtectCause} {e : ProtectEntry}

/-- An entry put behind the protect list. -/
def State.shield (s : State) (e : ProtectEntry) : State :=
  s.putValves { s.valves with protect := s.valves.protect ++ [e] }

/-- The drive that a protect entry becomes (R67). -/
def ProtectEntry.drive (e : ProtectEntry) : Drive :=
  { valve := e.valve, target := .closed, requesters := e.requesters, protective := true }

/-- The claimant is told of a close that is taken, and the arbiter called. -/
theorem protectiveClose_resting (rest : s.valves.Resting) (away : (s.valve v).position ≠ .closed) :
    protectiveClose v cause s =
      (s.shield { valve := v, cause := cause, requesters := [] }, tellTaken s v cause ++ [.arbiter]) := by
  have same : s.putValves { s.valves with queue := dropEntry s.valves.queue v } = s := by
    rw [rest.queue, show dropEntry [] v = [] from rfl, ← rest.queue]
    rfl
  simp only [protectiveClose, driveOf_of_idle rest.main, protectEntry_of_empty rest.protect,
    queueEntry_of_empty rest.queue, same, if_neg away, Option.isSome_none, Bool.false_eq_true, if_false,
    List.nil_append, List.append_nil]
  rw [arbiterCall_of_idle (by simpa using rest.main)]
  rfl

theorem shielded_shield : (s.shield e).shielded e.valve = true := by
  have entry : ((s.shield e).protectEntry e.valve).isSome = true := by
    simp [State.protectEntry, State.shield, List.find?_isSome]
  rw [State.shielded, entry, Bool.true_or]

theorem arbiterChoose_of_shield (rest : s.valves.Resting) : arbiterChoose (s.shield e) =
    (s.putValves { s.valves with main := .chosen e.drive }, [.driveStart]) := by
  have chosen : (s.shield e).valves = { s.valves with protect := [e] } := by rw [State.shield, rest.protect]; rfl
  simp only [arbiterChoose, chosen, rest.main, if_true, ProtectEntry.drive]
  refine congrArg (·, _) ?_
  rw [← rest.protect]
  rfl

/-- The only protective close is driven (R67, R68). -/
theorem arbiter_protects (rest : s.valves.Resting) (away : (s.valve e.valve).shown ≠ some .closed) :
    Takes 2 told [.arbiter] (s.shield e) (s.drive e.drive) :=
  .cons rfl (arbiterChoose_of_shield rest) (.cons rfl (startDrive_of_chosen (d := e.drive) away) (.nil _ _))

end

/-! ## The timers of a district (R139, R141 to R144) -/

section
variable {s : State} {d : DistrictId} {p : OutletId} {a : Sample} {i : InForce} {k : DistrictState} {n m : Nat}

/-- A district in a state that loads nothing: its timers stopped, its output 0 (R126, R127). -/
def State.resting (s : State) (d : DistrictId) (p : OutletId) (k : DistrictState) (w : MoveWait) : State :=
  (s.putDistrict d { s.district d with
    state := k, lockout := none, qualify := none, repeatLeft := none, moveWait := w }).putOutput p 0

@[simp] theorem district_resting {w : MoveWait} : (s.resting d p k w).district d = { s.district d with
    state := k, lockout := none, qualify := none, repeatLeft := none, moveWait := w } := by
  simp [State.resting]

theorem resting_wait {w w' : MoveWait} : (s.resting d p k w).putDistrict d
    { (s.resting d p k w).district d with moveWait := w' } = s.resting d p k w' := by
  have put : ∀ (t : State) (x : District), (t.putOutput p 0).putDistrict d x = (t.putDistrict d x).putOutput p 0 :=
    fun _ _ => rfl
  rw [district_resting, State.resting, put, State.putDistrict_putDistrict]
  rfl

theorem setDistrictState_unloaded (unloaded : k.loaded = false) (outlet : s.outletOf d = some p) :
    setDistrictState d k s = s.resting d p k .unasked := by
  simp [setDistrictState, unloaded, loadOutput, outlet, State.resting]

theorem lockoutExpired_due (run : s.control.phase = .run) (due : (s.district d).lockout = some 0) :
    lockoutExpired d s = (s.putDistrict d { s.district d with lockout := none }, []) :=
  if_pos (by simp [running_eq_true run, Machine.due, due])

theorem lockoutExpired_idle (idle : s.control.phase = .setup ∨ (s.district d).lockout ≠ some 0) :
    lockoutExpired d s = (s, []) := by
  refine if_neg ?_
  rcases idle with setup | early
  · simp [running_eq_false setup]
  · simp [due, early]

theorem repeatExpired_due (run : s.control.phase = .run) (due : (s.district d).repeatLeft = some 0)
    (warn : (s.district d).state = .warn) : repeatExpired d s = leaveWarn d s :=
  if_pos (by simp [running_eq_true run, Machine.due, due, warn])

theorem repeatExpired_idle (idle : s.control.phase = .setup ∨ (s.district d).repeatLeft ≠ some 0
    ∨ (s.district d).state ≠ .warn) : repeatExpired d s = (s, []) := by
  refine if_neg ?_
  rcases idle with setup | early | other
  · simp [running_eq_false setup]
  · simp [due, early]
  · simp [other]

theorem settle_leaveWarn (rest : s.atRest) : settle (leaveWarn d s) =
    (s.putDistrict d { s.district d with state := .live, repeatLeft := none }).notify
      (.districtState d (s.outletOf d) .warn .live ((s.district d).inForce.map fun i => i.value) none) := by
  have left : leaveWarn d s = (s.putDistrict d { s.district d with state := .live, repeatLeft := none },
      [.notice (.districtState d (s.outletOf d) .warn .live ((s.district d).inForce.map fun i => i.value) none)]) := by
    simp [leaveWarn, stateNotice]
  rw [left]
  exact settle_notice (s := s.putDistrict d _) rest

theorem qualifyExpired_idle (idle : s.control.phase = .setup ∨ (s.district d).qualify ≠ some 0) :
    qualifyExpired d s = (s, []) := by
  refine if_neg ?_
  rcases idle with setup | early
  · simp [running_eq_false setup]
  · simp [due, early]

section
variable (run : s.control.phase = .run) (due : (s.district d).qualify = some 0)
variable (sample : (s.district d).sample = some a) (inForce : (s.district d).inForce = some i)
include run due sample inForce

theorem qualifyExpired_inside (inside : i.value ≤ a.value + s.settings.districts[d].lowMargin ∧
    a.value ≤ i.value + s.settings.districts[d].highMargin) :
    qualifyExpired d s = (s.putDistrict d { s.district d with qualify := none }, []) := by
  have side : excursion (s.districtSettings d) i.value a.value = none := excursion_inside inside
  simp [qualifyExpired, running_eq_true run, Machine.due, due, sample, inForce, side]

theorem qualifyExpired_outside (outside : ¬(i.value ≤ a.value + s.settings.districts[d].lowMargin ∧
    a.value ≤ i.value + s.settings.districts[d].highMargin)) : qualifyExpired d s =
      qualified d (excursionSide s.settings.districts[d] i.value a.value) a.value i.value
        (s.putDistrict d { s.district d with qualify := none }) := by
  have side := excursion_outside (x := s.districtSettings d) outside
  simp only [qualifyExpired, running_eq_true run, Machine.due, due, sample, inForce, side]
  rfl

end

theorem qualified_live (outlet : s.outletOf d = some p) (live : (s.district d).state = .live) {side : Side} :
    qualified d side n m s = enterWarn d p side n m s := by
  simp only [qualified, outlet, live]

theorem qualified_warn (outlet : s.outletOf d = some p) (warn : (s.district d).state = .warn) {side : Side} :
    qualified d side n m s = trip d p side n m s := by
  simp only [qualified, outlet, warn]

theorem enterWarn_eq {side : Side} (window : s.settings.districts[d].repeatWindow ≠ 0) : enterWarn d p side n m s =
    (s.putDistrict d { s.district d with
      state := .warn, qualify := none, repeatLeft := some s.settings.districts[d].repeatWindow },
      [.notice (.districtWarn d p side n m ((m : Int) - s.settings.districts[d].lowMargin)
        (m + s.settings.districts[d].highMargin))]) := by
  exact if_neg window

/-! ### A trip (R144, R145) -/

section
variable (outlet : s.outletOf d = some p)
include outlet

/-- The word that the close of its trip has been taken, to a TRIPPED district (R65, R145). -/
theorem trip_taken (told : Bool) (tripped : (s.district d).state = .tripped)
    (shielded : s.shielded (districtValve p) = true) :
    Takes 1 told [.tellClaimant (.district d) (districtValve p) (.taken .trip)] s
      (s.putDistrict d { s.district d with moveWait := .shielded }) := by
  have takes : handle (.tellClaimant (.district d) (districtValve p) (.taken .trip)) s =
      (s.putDistrict d { s.district d with moveWait := .shielded }, []) := by
    simp [handle, tellClaimant, Claim.requester, tellRequester, outlet, districtWord, tripped, shielded]
  exact .cons rfl takes (.nil _ _)

theorem settle_trip {side : Side} (rest : s.atRest) (run : s.control.phase = .run)
    (claim : (s.valve (districtValve p)).claim = .district d) (opened : (s.valve (districtValve p)).position = .opened)
    (away : (s.valve (districtValve p)).shown ≠ some .closed) (still : s.valves.Resting) :
    settle (trip d p side n m s) = ((s.resting d p .tripped .shielded).drive
      { valve := districtValve p, target := .closed, requesters := [], protective := true }).notify
        (.districtTripped d p side n m .opened) := by
  have tripped : (s.resting d p .tripped .unasked).valves = s.valves := rfl
  have found : s.foundPosition (districtValve p) = .opened := opened
  have trips : trip d p side n m s = (s.resting d p .tripped .unasked, [.protectClose (districtValve p) .trip,
      .notice (.districtTripped d p side n m .opened)]) := by
    rw [trip, setDistrictState_unloaded rfl outlet, found]
  have closes : handle (.protectClose (districtValve p) .trip) (s.resting d p .tripped .unasked) =
      ((s.resting d p .tripped .unasked).shield ⟨districtValve p, .trip, []⟩,
        [.tellClaimant (.district d) (districtValve p) (.taken .trip), .arbiter]) := by
    refine (if_pos (running_eq_true (s := s.resting d p .tripped .unasked) run)).trans
      ((protectiveClose_resting (s := s.resting d p .tripped .unasked) still ?_).trans ?_)
    · exact fun closed => nomatch opened.symm.trans closed
    · have claimed : ((s.resting d p .tripped .unasked).valve (districtValve p)).claim = .district d := claim
      simp only [tellTaken, claimed]
      rfl
  have taken : Takes 1 false [.tellClaimant (.district d) (districtValve p) (.taken .trip)] _ _ :=
    trip_taken (s := (s.resting d p .tripped .unasked).shield ⟨districtValve p, .trip, []⟩) outlet false
      (congrArg District.state district_resting) shielded_shield
  have waits : ((s.resting d p .tripped .unasked).shield ⟨districtValve p, .trip, []⟩).putDistrict d
      { ((s.resting d p .tripped .unasked).shield ⟨districtValve p, .trip, []⟩).district d with
        moveWait := .shielded } = (s.resting d p .tripped .shielded).shield ⟨districtValve p, .trip, []⟩ :=
    congrArg (State.shield · ⟨districtValve p, .trip, []⟩) (resting_wait (s := s) (k := .tripped) (w := .unasked))
  rw [waits] at taken
  have drives : Takes 2 false [.arbiter] ((s.resting d p .tripped .shielded).shield ⟨districtValve p, .trip, []⟩) _ :=
    arbiter_protects still away
  have driven := taken.followed drives rfl
  have ends := driven.followed (.notice (.districtTripped d p side n m .opened) _) rfl
  rw [trips]
  have words : Takes 5 false [.protectClose (districtValve p) .trip, .notice (.districtTripped d p side n m .opened)]
      (s.resting d p .tripped .unasked) _ := .cons rfl closes ends
  exact words.settle (by omega) rest.1 (List.cons_ne_nil _ _) rest.2.1 rest.2.2

end

/-- The qualify timer of a district stopped. -/
abbrev State.qualifyStopped (s : State) (d : DistrictId) : State :=
  s.putDistrict d { s.district d with qualify := none }

theorem resting_qualifyStopped {w : MoveWait} : (s.qualifyStopped d).resting d p k w = s.resting d p k w := by
  simp [State.resting]

end

/-- Settles O51. -/
theorem districtTimersExpire : Obligations.DistrictTimersExpire := by
  unfold Obligations.DistrictTimersExpire
  refine ⟨fun d s rest => ⟨fun idle => ?_, fun a i p run due sample inForce outlet => ⟨fun inside => ?_,
    fun outside live window => ?_, fun outside warn claim opened away main protect queue => ?_⟩⟩,
    fun d s rest => ⟨fun run due => ?_, fun idle => ?_, fun run due warn => ?_, fun idle => ?_⟩⟩
  · exact (congrArg event (qualifyExpired_idle idle)).trans (event_still rest.1)
  · exact (congrArg event (qualifyExpired_inside run due sample inForce inside)).trans
      (event_still (t := s.putDistrict d _) rest.1)
  · have qualifies := (qualifyExpired_outside run due sample inForce outside).trans
      ((qualified_live (s := s.qualifyStopped d) outlet (by simpa using live)).trans (enterWarn_eq window))
    refine ((congrArg event qualifies).trans
      (congrArg Host.Outcome.next (settle_notice (s := State.putDistrict ..) rest))).trans ?_
    simp
  · have qualifies := (qualifyExpired_outside run due sample inForce outside).trans
      (qualified_warn (s := s.qualifyStopped d) outlet (by simpa using warn))
    have settled := settle_trip (s := s.qualifyStopped d) (n := a.value) (m := i.value)
      (side := excursionSide s.settings.districts[d] i.value a.value) outlet rest run claim opened away
      ⟨main, protect, queue⟩
    rw [resting_qualifyStopped] at settled
    exact (congrArg event qualifies).trans (congrArg Host.Outcome.next settled)
  · exact (congrArg event (lockoutExpired_due run due)).trans (event_still (t := s.putDistrict d _) rest.1)
  · exact (congrArg event (lockoutExpired_idle idle)).trans (event_still rest.1)
  · exact (congrArg event (repeatExpired_due run due warn)).trans (congrArg Host.Outcome.next (settle_leaveWarn rest))
  · exact (congrArg event (repeatExpired_idle idle)).trans (event_still rest.1)

end Sys2Proof.Machine
end

section
/-!
The yard stop line.
-/

namespace Sys2Proof.Machine

/-! ## The yard stop line (R6, R7, R103) -/

section
variable {s : State} {o : StopOrder} {told : Bool} {cause : ProtectCause}

/-- The yard stop asserted, and its notice placed (R6). -/
def State.asserted (s : State) : State := (s.putControl { s.control with stopAsserted := true }).notify .yardStop

theorem stopWords_inner (o : StopOrder) : (stopWords o).all Act.inner = true := by
  cases o <;> decide

theorem execYardStopAssertion_setup (rest : s.atRest) (setup : s.control.phase = .setup) :
    execYardStopAssertion o s = .next s.asserted := by
  rw [execYardStopAssertion, running_eq_false setup]
  exact congrArg Host.Outcome.next (settle_notice (s := s.putControl _) rest)

theorem execYardStopAssertion_run (run : s.control.phase = .run) : execYardStopAssertion o s =
    event (s.putControl { s.control with stopAsserted := true }, .notice .yardStop :: stopWords o) := by
  rw [execYardStopAssertion, running_eq_true run]
  rfl

theorem execYardStopAssertion_kept (rest : s.atRest) (run : s.control.phase = .run) :
    ∃ t, execYardStopAssertion o s = .next t ∧ Kept s.asserted t := by
  have words : Steps 1 false (.notice .yardStop :: stopWords o) (s.putControl { s.control with stopAsserted := true })
      (stopWords o) s.asserted := .cons rfl rfl (.refl _ _ _)
  exact ⟨_, execYardStopAssertion_run run,
    words.settle_kept (by omega) rest.1 (List.cons_ne_nil _ _) (stopWords_inner o)⟩

/-- Protective closes of valves that stand CLOSED and unclaimed enter nothing (R65). -/
theorem closes_nothing (run : s.control.phase = .run) (still : s.valves.Resting) (vs : List ValveId)
    (closed : ∀ v ∈ vs, (s.valve v).position = .closed ∧ (s.valve v).claim = .unclaimed) :
    Takes vs.length told (vs.map fun v => .protectClose v cause) s s := by
  induction vs with
  | nil => exact .nil _ _
  | cons v vs ih =>
    rw [List.forall_mem_cons] at closed
    obtain ⟨⟨shut, unclaimed⟩, closed⟩ := closed
    have nothing : handle (.protectClose v cause) s = (s, []) :=
      (if_pos (running_eq_true run)).trans (protectiveClose_closed still shut unclaimed)
    exact .cons rfl nothing (ih closed)

/-- A channel that a yard stop has halted with no order (R103). -/
def Channel.stopped : Channel := { Channel.idle with state := .halted, halt := some .yardStop }

/-- Both channels halted by a yard stop (R103). -/
def State.stopped (s : State) : State := (s.putChannel .a .stopped).putChannel .b .stopped

/-- The yard stop at two IDLE channels: both halt before either's notice. -/
theorem channelsStop_idle (idle : ∀ c, (s.channel c).state = .idle) : channelsStop s =
    (s.stopped, [.notice (.channelHalted .a .yardStop none), .notice (.channelHalted .b .yardStop none)]) := by
  have stops : ∀ (t : State) (c : ChannelId), (t.channel c).state = .idle → channelStop c t =
      (t.putChannel c .stopped, [.notice (.channelHalted c .yardStop none)]) := fun t c idle => by
    simp only [channelStop, idle]
    rfl
  have second : ((s.putChannel .a .stopped).channel .b).state = .idle := idle .b
  simp only [channelsStop, allChannels, List.foldl_cons, List.foldl_nil, Effect.andThen, stops s .a (idle .a),
    stops _ .b second]
  rfl

theorem channelsStop_takes (idle : ∀ c, (s.channel c).state = .idle) : Takes 3 told [.channelsStop] s
    ((s.stopped.notify (.channelHalted .a .yardStop none)).notify (.channelHalted .b .yardStop none)) :=
  .cons rfl (channelsStop_idle idle) (.cons rfl rfl (.notice _ _))

theorem stopWords_takes (run : s.control.phase = .run) (still : s.valves.Resting)
    (idle : ∀ c, (s.channel c).state = .idle)
    (closed : ∀ v ∈ stopValves, (s.valve v).position = .closed ∧ (s.valve v).claim = .unclaimed) :
    Takes 13 false (stopWords o) s
      ((s.stopped.notify (.channelHalted .a .yardStop none)).notify (.channelHalted .b .yardStop none)) := by
  cases o with
  | closesFirst => exact (closes_nothing run still stopValves closed).followed (channelsStop_takes idle) rfl
  | channelsFirst =>
    have closes := closes_nothing (cause := .yardStop) (told := false) (s := (s.stopped.notify
      (.channelHalted .a .yardStop none)).notify (.channelHalted .b .yardStop none)) run still stopValves closed
    exact (channelsStop_takes idle).followed closes rfl

end

/-- Settles O17. -/
theorem yardStopIsHandedOn : Obligations.YardStopIsHandedOn := by
  unfold Obligations.YardStopIsHandedOn
  refine ⟨fun o s rest => ⟨execYardStopAssertion_setup rest, execYardStopAssertion_kept rest, ?_⟩,
    fun o s rest run main protect queue idle closed => ?_⟩
  · exact congrArg Host.Outcome.next (settle_notice (s := s.putControl _) rest)
  · have words : Takes 14 false (.notice .yardStop :: stopWords o) _ _ :=
      .cons rfl rfl (stopWords_takes (s := s.asserted) run ⟨main, protect, queue⟩ idle closed)
    exact (execYardStopAssertion_run run).trans (congrArg Host.Outcome.next (words.settle (by omega) rest.1
      (List.cons_ne_nil _ _) (unreported_of_none rfl) (unreported_of_none rfl)))

end Sys2Proof.Machine
end

section
/-!
The end of an order that holds nothing, and what its chain goes on to.
-/

namespace Sys2Proof.Machine

/-! ## The end of an order that holds nothing (R98, R99) -/

section
variable {s : State} {c : ChannelId} {n : OrderId} {k : OrderStatus} {cause : EndCause} {told : Bool} {v : ValveId}

/-- An order in CLOSING, its timers stopped and its ending pending (R98). -/
def State.closing (s : State) (c : ChannelId) (n : OrderId) (k : OrderStatus) (cause : EndCause) : State :=
  (s.putOrder n { s.order n with status := .closing }).putChannel c { s.channel c with
    state := if (s.channel c).state = .suspended then .running else (s.channel c).state
    ending := some (k, cause), pathTimer := none, limitTimer := none, waitTimer := none, pathWait := .nothing }

/-- An order posted (R99). -/
def State.posted (s : State) (c : ChannelId) (n : OrderId) (k : OrderStatus) (cause : EndCause) : State :=
  (s.putOrder n { s.order n with
    status := k, endCause := some cause, endContent := s.endContent (s.order n).order }).putChannel c { s.channel c with
      state := if (s.channel c).state = .suspended then .running else (s.channel c).state
      ending := none, pathTimer := none, limitTimer := none, waitTimer := none, pathWait := .nothing, reported := none
      work := [] }

/-- An order that neither holds its pin nor is served by a changeover, and moves no gas through the booster, hands on
only the asking of its closes (R98). -/
theorem endOrder_eq (current : (s.channel c).current = some n)
    (runs : (s.order n).status.working = true ∨ (s.order n).status = .suspended)
    (kind : (s.order n).order.kind ≠ some .transfer) (pin : s.holdsPin c = false) (change : s.selector.change = none) :
    endOrder c k cause s = (s.closing c n k cause, [.askCloses c]) := by
  have ends : ((s.order n).status.working || decide ((s.order n).status = .suspended)) = true := by simpa using runs
  simp only [endOrder, currentSlot_of_current current, ends, if_true, kind, false_and, if_false, pin]
  simp [forgetServed, change, State.closing]

theorem mem_allValves : ∀ v, v ∈ allValves := by decide

theorem unclaimed_of_claimed (claimed : s.claimed (.channel c) = []) : (s.valve v).claim ≠ .channel c := by
  simpa using List.filter_eq_nil_iff.mp claimed v (mem_allValves v)

theorem askClose_unclaimed (claimed : s.claimed (.channel c) = []) : askClose c v s = (s, []) :=
  if_pos (unclaimed_of_claimed claimed)

theorem leaveValve_unclaimed (any : Bool) (claimed : s.claimed (.channel c) = []) :
    leaveValve c v any s = (s, []) := if_pos (unclaimed_of_claimed claimed)

/-- A RECEIVE or a WAIT that holds no claim asks no close (R98). -/
theorem askCloses_nothing (current : (s.channel c).current = some n) (status : (s.order n).status = .closing)
    (kind : (s.order n).order.kind = some .receive ∨ (s.order n).order.kind = some .wait)
    (claimed : s.claimed (.channel c) = []) : askCloses c s = (s.putWork c [], [.postIfFree c]) := by
  have still : (s.putWork c []).claimed (.channel c) = [] := claimed
  simp only [askCloses, currentSlot_of_current current, status]
  rcases kind with receive | wait
  · simp only [receive, askClose_unclaimed still, leaveValve_unclaimed _ still, ite_self]
    cases (s.order n).order.dest <;> rfl
  · simp only [wait]
    rfl

/-- The words of an ending that is told (R99). -/
def endingTold (c : ChannelId) (n : OrderId) (k : OrderStatus) (cause : EndCause) (s : State) : List Act :=
  if (s.order n).order.notify || decide (k = .failed) || decide (k = .timedOut) then
    [.notice (.orderEnded c n (s.order n).order.kind k cause (s.order n).counted (s.endContent (s.order n).order))]
  else []

theorem postIfFree_posts (current : (s.channel c).current = some n) (status : (s.order n).status = .closing)
    (pending : (s.channel c).ending = some (k, cause)) (claimed : s.claimed (.channel c) = [])
    (reported : (s.channel c).reported = none) : postIfFree c s =
      ((s.putOrder n { s.order n with
        status := k, endCause := some cause, endContent := s.endContent (s.order n).order }).putChannel c
          { s.channel c with ending := none, reported := none, work := [] },
        endingTold c n k cause s ++ [.chainOn c n]) := by
  simp only [postIfFree, currentSlot_of_current current, pending, status, claimed, reported]
  simp [endingTold]

section
variable (current : (s.channel c).current = some n)
variable (kind : (s.order n).order.kind = some .receive ∨ (s.order n).order.kind = some .wait)
variable (claimed : s.claimed (.channel c) = []) (reported : (s.channel c).reported = none)
include current kind claimed reported

/-- The closing of an order that holds nothing, up to the going on of its chain (R98 to R100). -/
theorem closing_posts : Steps 2 told [.askCloses c] (s.closing c n k cause) (endingTold c n k cause s ++ [.chainOn c n])
    (s.posted c n k cause) := by
  have asks : handle (.askCloses c) (s.closing c n k cause) = ((s.closing c n k cause).putWork c [], [.postIfFree c]) :=
    askCloses_nothing (n := n) (by simp [State.closing, current]) (by simp [State.closing])
      (by simpa [State.closing] using kind) claimed
  have posts : handle (.postIfFree c) ((s.closing c n k cause).putWork c []) = _ :=
    postIfFree_posts (n := n) (k := k) (cause := cause) (by simp [State.closing, current]) (by simp [State.closing])
      (by simp [State.closing]) claimed (by simp [State.closing, reported])
  have content : ((s.closing c n k cause).putWork c []).endContent (s.order n).order
      = s.endContent (s.order n).order := rfl
  have same : (((s.closing c n k cause).putWork c []).order n).order = (s.order n).order := by simp [State.closing]
  have words : endingTold c n k cause ((s.closing c n k cause).putWork c []) = endingTold c n k cause s := by
    have counted : (((s.closing c n k cause).putWork c []).order n).counted = (s.order n).counted := by
      simp [State.closing]
    rw [endingTold, endingTold, same, content, counted]
  rw [words, same, content] at posts
  have state : (((s.closing c n k cause).putWork c []).putOrder n
      { ((s.closing c n k cause).putWork c []).order n with
        status := k, endCause := some cause, endContent := s.endContent (s.order n).order }).putChannel c
          { ((s.closing c n k cause).putWork c []).channel c with ending := none, reported := none, work := [] }
      = s.posted c n k cause := by
    simp [State.closing, State.posted, State.putWork, State.putOrder_putChannel]
  rw [state] at posts
  have left : Steps 0 told ((endingTold c n k cause s ++ [.chainOn c n]) ++ []) (s.posted c n k cause)
      (endingTold c n k cause s ++ [.chainOn c n]) (s.posted c n k cause) := by
    rw [List.append_nil]
    exact .refl _ _ _
  exact .cons rfl asks (.cons rfl posts left)

end

/-- The notice of an order that ends FAILED or TIMED OUT, whatever NOTIFY says (R99). -/
theorem endingTold_of_fault (fault : k = .failed ∨ k = .timedOut) : endingTold c n k cause s =
    [.notice (.orderEnded c n (s.order n).order.kind k cause (s.order n).counted
      (s.endContent (s.order n).order))] := by
  refine if_pos ?_
  rcases fault with rfl | rfl <;> simp

theorem endingTold_of_quiet (quiet : (s.order n).order.notify = false) (failed : k ≠ .failed)
    (timedOut : k ≠ .timedOut) : endingTold c n k cause s = [] := if_neg (by simp [quiet, failed, timedOut])

/-! ## What a chain goes on to (R100) -/

/-- A channel halted by an order error (R100). -/
def Channel.halted (n : OrderId) : Channel :=
  { Channel.idle with state := .halted, halt := some .orderError, haltSlot := some n }

section
variable (running : (s.channel c).state = .running)
include running

theorem chainOn_halts (fault : (s.order n).status = .failed ∨ (s.order n).status = .timedOut)
    (stops : (s.order n).order.continueOnError = false) : chainOn c n s =
      (s.putChannel c (.halted n), [.notice (.channelHalted c .orderError (some n))]) := by
  simp only [chainOn, running, if_pos (And.intro fault stops)]
  rfl

theorem chainOn_ends (sound : (s.order n).status ≠ .failed ∧ (s.order n).status ≠ .timedOut)
    (goesOn : (s.channel c).stopAfter = false) (last : (s.order n).order.next = none) : chainOn c n s =
      (s.putChannel c Channel.idle, [.notice (.chainEnded c n .reachedEnd)]) := by
  simp only [chainOn, running, sound, goesOn, last]
  simp [goIdle]

end

theorem chainOn_stopped (stopping : (s.channel c).state = .stopping false) : chainOn c n s =
    (s.putChannel c Channel.idle, [.notice (.chainEnded c n .stopped)]) := by
  simp only [chainOn, stopping]
  rfl

theorem channel_of_channels {t : State} (channels : t.channels = s.channels) : t.channel c = s.channel c := by
  rw [State.channel, channels]
  rfl

theorem order_of_channels {t : State} (channels : t.channels = s.channels) : t.order n = s.order n := by
  rw [State.order, channels]
  rfl

theorem channels_notices (l : List Notice) (s : State) : (l.foldl State.notify s).channels = s.channels := by
  induction l generalizing s with
  | nil => rfl
  | cons n l ih => exact ih (s.notify n)

theorem notices_putChannel (l : List Notice) (s : State) (c : ChannelId) (x : Channel) :
    l.foldl State.notify (s.putChannel c x) = (l.foldl State.notify s).putChannel c x := by
  induction l generalizing s with
  | nil => rfl
  | cons n l ih => exact ih (s.notify n)

theorem posted_putChannel (x : Channel) : (s.posted c n k cause).putChannel c x =
    (s.putOrder n { s.order n with
      status := k, endCause := some cause, endContent := s.endContent (s.order n).order }).putChannel c x := by
  rw [State.posted, State.putChannel_putChannel]

theorem endContent_eq {o : Order} (kind : o.kind = some .receive ∨ o.kind = some .wait) : s.endContent o =
    if o.kind = some .receive then some (o.dest.bind fun h => (s.holder h).content) else none := by
  rcases kind with kind | kind <;> simp [State.endContent, Order.movesGas, kind]

theorem state_posted (running : (s.channel c).state = .running) :
    ((s.posted c n k cause).channel c).state = .running := by
  simp [State.posted, running]

theorem order_posted : ((s.posted c n k cause).order n) = { s.order n with
    status := k, endCause := some cause, endContent := s.endContent (s.order n).order } := by
  simp [State.posted]

/-- An order that has ended, on a channel without a current order, leaves every TRANSFER reported (R82). -/
theorem reported_after_end {t : State} (rest : s.atRest) (own : (t.channel c).current = none)
    (channel : t.channel c.other = s.channel c.other) (order : ∀ m, m ≠ n → t.order m = s.order m)
    (ended : (t.order n).status.running = false) : t.unreported .a = none ∧ t.unreported .b = none := by
  have other : t.unreported c.other = none := by
    by_cases current : (s.channel c.other).current = some n
    · simp [State.unreported, currentSlot_of_current (channel ▸ current), ended]
    · rw [unreported_of_same channel fun m on => order m fun same => current (same ▸ on)]
      cases c
      · exact rest.2.2
      · exact rest.2.1
  cases c
  · exact ⟨unreported_of_none own, other⟩
  · exact ⟨other, unreported_of_none own⟩

section
variable (rest : s.atRest) (current : (s.channel c).current = some n)
variable (kind : (s.order n).order.kind = some .receive ∨ (s.order n).order.kind = some .wait)
variable (runs : (s.order n).status.working = true ∨ (s.order n).status = .suspended)
variable (pin : s.holdsPin c = false) (change : s.selector.change = none)
variable (claimed : s.claimed (.channel c) = []) (reported : (s.channel c).reported = none)
include rest current kind runs pin change claimed reported

section
variable {x : Channel} {told l : List Notice} (final : k.running = false) (idle : x.current = none)
variable (tells : endingTold c n k cause s = told.map .notice)
variable (goesOn : ∀ t : State, t.channels = (s.posted c n k cause).channels →
  chainOn c n t = (t.putChannel c x, l.map .notice))

/-- An order that has ended, with the notices `told` of its ending; its channel has taken the record `x`, with the
notices `l`. -/
def State.ended (s : State) (c : ChannelId) (n : OrderId) (k : OrderStatus) (cause : EndCause) (x : Channel)
    (l : List Notice) : State :=
  l.foldl State.notify ((s.putOrder n { s.order n with
    status := k, endCause := some cause, endContent := s.endContent (s.order n).order }).putChannel c x)

omit rest runs pin change in
include tells goesOn in
/-- The closing of an order that holds nothing, to the end of what follows (R98 to R100). -/
theorem closing_takes : Takes (2 + (told.length + (l.length + 1))) false [.askCloses c] (s.closing c n k cause)
    (s.ended c n k cause x (told ++ l)) := by
  have posts := closing_posts (told := false) (k := k) (cause := cause) current kind claimed reported
  rw [tells] at posts
  have chain : Takes (l.length + 1) false [.chainOn c n] (told.foldl State.notify (s.posted c n k cause))
      (l.foldl State.notify ((told.foldl State.notify (s.posted c n k cause)).putChannel c x)) :=
    .cons rfl (goesOn _ (channels_notices _ _)) (by rw [List.append_nil]; exact .notices _ _)
  have words := posts.trans ((Steps.notices told _).followed chain rfl)
  rw [← notices_putChannel, ← List.foldl_append, posted_putChannel] at words
  exact words

omit current kind runs pin change claimed reported in
include final idle in
theorem ended_reported : (s.ended c n k cause x l).unreported .a = none ∧
    (s.ended c n k cause x l).unreported .b = none := by
  have reported := reported_after_end (c := c) (n := n) (t := (s.putOrder n { s.order n with
    status := k, endCause := some cause, endContent := s.endContent (s.order n).order }).putChannel c x) rest
    (by simpa using idle) (by simp) (fun m other => by simp [Ne.symm other]) (by simpa using final)
  have channels := channels_notices l ((s.putOrder n { s.order n with
    status := k, endCause := some cause, endContent := s.endContent (s.order n).order }).putChannel c x)
  exact ⟨(unreported_congr channels _).trans reported.1, (unreported_congr channels _).trans reported.2⟩

include final idle tells goesOn in
/-- An order that holds nothing ends in an event. -/
theorem settle_endOrder (few : told.length + l.length ≤ 4000) :
    settle (endOrder c k cause s) = s.ended c n k cause x (told ++ l) := by
  have words := closing_takes current kind claimed reported tells goesOn
  rw [endOrder_eq current runs (by rcases kind with kind | kind <;> simp [kind]) pin change]
  exact words.ends (by omega) rest.1 (List.cons_ne_nil _ _) (ended_reported rest final idle)

end

end

end

end Sys2Proof.Machine
end

section
/-!
The timers of an order.
-/

namespace Sys2Proof.Machine

/-- A command that is no request, whose effect keeps what `Kept` names. -/
theorem event_kept {s : State} {e : Effect} (quiet : Quiet s e) (rest : e.1.backlog = []) :
    ∃ t, event e = .next t ∧ Kept s t := ⟨_, rfl, quiet.kept.trans (settle_kept rest quiet.inner)⟩

/-! ## The timers of an order (R83, R90, R92) -/

section
variable {s : State} {c : ChannelId} {n : OrderId} {k : OrderStatus} {cause : EndCause}

theorem timers_of_none (nobody : (s.channel c).current = none) :
    pathExpired c s = (s, []) ∧ limitExpired c s = (s, []) ∧ waitExpired c s = (s, []) := by
  simp [pathExpired, limitExpired, waitExpired, currentSlot_of_none nobody]

theorem pathExpired_early (early : (s.channel c).pathTimer ≠ some 0) : pathExpired c s = (s, []) := by
  simp only [pathExpired, due, early, decide_false, Bool.false_and, Bool.false_eq_true, if_false]
  split <;> rfl

theorem limitExpired_early (early : (s.channel c).limitTimer ≠ some 0) : limitExpired c s = (s, []) := by
  simp only [limitExpired, due, early, decide_false, Bool.false_and, Bool.false_eq_true, if_false]
  split <;> rfl

theorem waitExpired_early (early : (s.channel c).waitTimer ≠ some 0) : waitExpired c s = (s, []) := by
  simp only [waitExpired, due, early, decide_false, Bool.false_and, Bool.false_eq_true, if_false]
  split <;> rfl

section
variable (current : (s.channel c).current = some n)
include current

theorem pathExpired_due (expired : (s.channel c).pathTimer = some 0) (status : (s.order n).status = .waitPath) :
    pathExpired c s = endOrder c .timedOut .pathTimeout s := by
  simp [pathExpired, currentSlot_of_current current, due, expired, status]

theorem limitExpired_due (expired : (s.channel c).limitTimer = some 0) (working : (s.order n).status.working = true) :
    limitExpired c s = endOrder c .timedOut .timeLimit s := by
  simp [limitExpired, currentSlot_of_current current, due, expired, working]

theorem waitExpired_due (expired : (s.channel c).waitTimer = some 0) (status : (s.order n).status = .flowing) :
    waitExpired c s = endOrder c .done .target s := by
  simp [waitExpired, currentSlot_of_current current, due, expired, status]

end

/-- The chain of an order that is DONE ends with it where next is END (R100). -/
theorem chainOn_done {t : State} (running : (s.channel c).state = .running)
    (goesOn : (s.channel c).stopAfter = false) (last : (s.order n).order.next = none)
    (channels : t.channels = (s.posted c n .done cause).channels) :
    chainOn c n t = (t.putChannel c Channel.idle, [.notice (.chainEnded c n .reachedEnd)]) := by
  have order := (order_of_channels (n := n) channels).trans order_posted
  have channel := channel_of_channels (c := c) channels
  refine chainOn_ends (n := n) (by rw [channel, state_posted running]) (by rw [order]; exact ⟨nofun, nofun⟩) ?_
    (by rw [order, last])
  rw [channel, State.posted, State.channel_putChannel, if_pos rfl]
  exact goesOn

section
variable (rest : s.atRest) (current : (s.channel c).current = some n)
variable (kind : (s.order n).order.kind = some .receive ∨ (s.order n).order.kind = some .wait)
variable (working : (s.order n).status.working = true)
variable (pin : s.holdsPin c = false) (change : s.selector.change = none)
variable (claimed : s.claimed (.channel c) = []) (reported : (s.channel c).reported = none)
variable (running : (s.channel c).state = .running)
include rest current kind working pin change claimed reported running

/-- An order that ends TIMED OUT halts its channel with ORDER ERROR (R99, R100). -/
theorem settle_endOrder_timedOut (stops : (s.order n).order.continueOnError = false) :
    settle (endOrder c .timedOut cause s) = (((s.putOrder n { s.order n with
      status := .timedOut, endCause := some cause, endContent := s.endContent (s.order n).order }).putChannel c
        (.halted n)).notify (.orderEnded c n (s.order n).order.kind .timedOut cause (s.order n).counted
          (s.endContent (s.order n).order))).notify (.channelHalted c .orderError (some n)) := by
  refine settle_endOrder (told := [.orderEnded c n (s.order n).order.kind .timedOut cause (s.order n).counted
    (s.endContent (s.order n).order)]) (l := [.channelHalted c .orderError (some n)]) rest current kind (.inl working)
    pin change claimed reported rfl rfl (endingTold_of_fault (.inr rfl)) (fun t channels => ?_) (by simp)
  have order := (order_of_channels (n := n) channels).trans order_posted
  exact chainOn_halts (n := n) (by rw [channel_of_channels channels, state_posted running])
    (.inr (by rw [order])) (by rw [order, stops])

/-- An order that ends DONE at the end of its chain leaves its channel IDLE (R99, R100). -/
theorem settle_endOrder_done (quiet : (s.order n).order.notify = false) (last : (s.order n).order.next = none)
    (goesOn : (s.channel c).stopAfter = false) :
    settle (endOrder c .done cause s) = ((s.putOrder n { s.order n with
      status := .done, endCause := some cause, endContent := s.endContent (s.order n).order }).putChannel c
        Channel.idle).notify (.chainEnded c n .reachedEnd) := by
  refine settle_endOrder (told := []) (l := [.chainEnded c n .reachedEnd]) rest current kind (.inl working) pin change
    claimed reported rfl rfl (endingTold_of_quiet quiet nofun nofun) (fun t channels => ?_) (by simp)
  exact chainOn_done running goesOn last channels

end

end

/-- Settles O40. -/
theorem orderTimersEndOrders : Obligations.OrderTimersEndOrders := by
  unfold Obligations.OrderTimersEndOrders
  refine ⟨fun c s rest => ⟨fun nobody => ?_, fun early => ?_, fun early => ?_, fun early => ?_, ?_, ?_, ?_⟩,
    fun c n s rest current running reported pin change claimed => ?_⟩
  · obtain ⟨path, limit, wait⟩ := timers_of_none nobody
    exact ⟨(congrArg event path).trans (event_still rest), (congrArg event limit).trans (event_still rest),
      (congrArg event wait).trans (event_still rest)⟩
  · exact (congrArg event (pathExpired_early early)).trans (event_still rest)
  · exact (congrArg event (limitExpired_early early)).trans (event_still rest)
  · exact (congrArg event (waitExpired_early early)).trans (event_still rest)
  · exact event_kept (pathExpired_quiet c s) ((aside_pathExpired c s).1.trans rest)
  · exact event_kept (limitExpired_quiet c s) ((aside_limitExpired c s).1.trans rest)
  · exact event_kept (waitExpired_quiet c s) ((aside_waitExpired c s).1.trans rest)
  · intro x posted halted told
    refine ⟨fun kind status expired stops => ?_, fun kind status expired stops => ?_,
      fun kind status expired quiet last goesOn => ?_⟩
    · refine (congrArg event (pathExpired_due current expired status)).trans (congrArg Host.Outcome.next
        ((settle_endOrder_timedOut rest current (.inl kind) (by rw [status]; rfl) pin change claimed reported running
          stops).trans ?_))
      rw [endContent_eq (.inl kind)]
      rfl
    · refine (congrArg event (limitExpired_due current expired (by rw [status]; rfl))).trans (congrArg Host.Outcome.next
        ((settle_endOrder_timedOut rest current (.inr kind) (by rw [status]; rfl) pin change claimed reported running
          stops).trans ?_))
      rw [endContent_eq (.inr kind)]
      rfl
    · refine (congrArg event (waitExpired_due current expired status)).trans (congrArg Host.Outcome.next
        ((settle_endOrder_done rest current (.inr kind) (by rw [status]; rfl) pin change claimed reported running
          quiet last goesOn).trans ?_))
      rw [endContent_eq (.inr kind)]

end Sys2Proof.Machine
end

section
/-!
A change of minute.
-/

namespace Sys2Proof.Machine

/-! ## A change of minute (R9, R90) -/

section
variable {s t : State} {c : ChannelId} {n : OrderId} {told : Bool}

/-- Finding a setpoint changes the district unit alone. -/
theorem findSetpoint_eq (d : DistrictId) (s : State) :
    findSetpoint d s = { s with districts := (findSetpoint d s).districts } := by
  unfold findSetpoint
  split
  · dsimp only
    split
    · unfold loadOutput startLockout
      split <;> rfl
    · rfl
  · rfl

theorem findSetpoints_eq (s : State) : findSetpoints s = { s with districts := (findSetpoints s).districts } := by
  unfold findSetpoints
  generalize allDistricts = l
  induction l generalizing s with
  | nil => rfl
  | cons d l ih =>
    rw [List.foldl_cons, ih, findSetpoint_eq]

theorem execChangeOfMinute_idle (rest : s.backlog = [])
    (idle : s.control.phase = .setup ∨ s.clock.minuteOwed = false) : execChangeOfMinute s = .next s :=
  (congrArg event (handle_handMinute_idle idle)).trans (event_still rest)

/-- The minute no longer owed (R9). -/
def State.minuteHanded (s : State) : State := s.putClock { s.clock with minuteOwed := false }

theorem execChangeOfMinute_owed (run : s.control.phase = .run) (owed : s.clock.minuteOwed = true) :
    execChangeOfMinute s = event (s.minuteHanded, [.findSetpoints, .minuteToChannels]) :=
  congrArg event (handle_handMinute_owed run owed)

theorem endEach_none {hit : OrderSlot → Bool} {k : OrderStatus} {cause : EndCause}
    (nobody : ∀ c, (s.channel c).current = none) : endEach hit k cause s = (s, []) := by
  simp [endEach, allChannels, Effect.andThen, currentSlot_of_none (nobody _)]

theorem minuteToChannels_none (nobody : ∀ c, (s.channel c).current = none) : minuteToChannels s = (s, []) :=
  endEach_none nobody

/-- Only one channel has a current order, and it is ended (R90). -/
theorem endEach_one {hit : OrderSlot → Bool} {k : OrderStatus} {cause : EndCause}
    (current : (s.channel c).current = some n) (other : (s.channel c.other).current = none)
    (hits : hit (s.order n) = true)
    (still : ((endOrder c k cause s).1.channel c.other).current = none) :
    endEach hit k cause s = endOrder c k cause s := by
  cases c with
  | a =>
    simp [endEach, allChannels, Effect.andThen, currentSlot_of_current current, hits,
      currentSlot_of_none (c := .b) still]
  | b =>
    simp [endEach, allChannels, Effect.andThen, currentSlot_of_current current, hits,
      currentSlot_of_none (c := .a) other]

/-- An order that holds nothing, on the one channel that has an order: the end of its WAIT at its minute (R90). -/
theorem minuteToChannels_ends (current : (s.channel c).current = some n)
    (other : (s.channel c.other).current = none) (status : (s.order n).status = .flowing)
    (kind : (s.order n).order.kind = some .wait) (form : (s.order n).order.form = some .minute)
    (target : (s.order n).order.target = s.clock.minute) (pin : s.holdsPin c = false)
    (change : s.selector.change = none) :
    minuteToChannels s = (s.closing c n .done .target, [.askCloses c]) := by
  have ends : endOrder c .done .target s = (s.closing c n .done .target, [.askCloses c]) :=
    endOrder_eq current (.inl (by rw [status]; rfl)) (by simp [kind]) pin change
  refine (endEach_one current other (by simp [kind, form, target]) ?_).trans ends
  rw [ends]
  simpa [State.closing] using other

/-- A WAIT that has reached its minute and holds nothing ends, and its chain with it (R90, R100). -/
theorem minuteToChannels_takes (current : (s.channel c).current = some n)
    (other : (s.channel c.other).current = none) (running : (s.channel c).state = .running)
    (reported : (s.channel c).reported = none) (pin : s.holdsPin c = false) (change : s.selector.change = none)
    (claimed : s.claimed (.channel c) = []) (status : (s.order n).status = .flowing)
    (kind : (s.order n).order.kind = some .wait) (form : (s.order n).order.form = some .minute)
    (target : (s.order n).order.target = s.clock.minute) (quiet : (s.order n).order.notify = false)
    (last : (s.order n).order.next = none) (goesOn : (s.channel c).stopAfter = false) :
    Takes 5 false [.minuteToChannels] s (s.ended c n .done .target Channel.idle [.chainEnded c n .reachedEnd]) :=
  .cons rfl (minuteToChannels_ends current other status kind form target pin change)
    (closing_takes (told := []) (l := [.chainEnded c n .reachedEnd]) current (.inr kind) claimed reported
      (endingTold_of_quiet quiet nofun nofun) fun _ channels => chainOn_done running goesOn last channels)

/-- The words of a change of minute, from the one with the setpoints found (R9). -/
theorem minute_takes {k : Nat} (words : Takes k false [.minuteToChannels] (findSetpoints s) t) :
    Takes (k + 1) false [.findSetpoints, .minuteToChannels] s t :=
  .cons rfl (m := []) rfl words

end

/-- Settles O20. -/
theorem changeOfMinuteFindsSetpoints : Obligations.ChangeOfMinuteFindsSetpoints := by
  unfold Obligations.ChangeOfMinuteFindsSetpoints
  refine fun s rest => ⟨execChangeOfMinute_idle rest.1, fun run owed => ?_⟩
  have start := execChangeOfMinute_owed run owed
  refine ⟨⟨_, start, settle_kept (e := (s.minuteHanded, _)) rest.1 rfl⟩, fun nobody => ?_,
    fun c n current other running reported pin change claimed status kind form target quiet last goesOn => ?_⟩
  · have found (c : ChannelId) : ((findSetpoints s.minuteHanded).channel c).current = none := by
      rw [findSetpoints_eq]
      exact nobody c
    have words : Takes 2 false [.findSetpoints, .minuteToChannels] s.minuteHanded (findSetpoints s.minuteHanded) :=
      minute_takes (.cons rfl (minuteToChannels_none found) (.nil _ _))
    exact start.trans (congrArg Host.Outcome.next (words.ends (by omega) rest.1 (List.cons_ne_nil _ _)
      ⟨unreported_of_none (found .a), unreported_of_none (found .b)⟩))
  · obtain ⟨ds, found⟩ : ∃ ds, findSetpoints s.minuteHanded = { s.minuteHanded with districts := ds } :=
      ⟨_, findSetpoints_eq _⟩
    have words := minute_takes (s := s.minuteHanded) (by
      rw [found]
      exact minuteToChannels_takes (s := { s.minuteHanded with districts := ds }) current other running reported pin
        change claimed status kind form target quiet last goesOn)
    refine start.trans (congrArg Host.Outcome.next
      ((words.ends (by omega) rest.1 (List.cons_ne_nil _ _) ?_).trans ?_))
    · exact ended_reported (s := { s.minuteHanded with districts := ds }) rest rfl rfl
    · show _ = ((((findSetpoints s.minuteHanded).putOrder _ _).putChannel _ _).notify _)
      rw [found, State.ended, endContent_eq (s := { s.minuteHanded with districts := ds }) (.inr (by exact kind)),
        if_neg]
      · rfl
      · show ¬ (s.order n).order.kind = some .receive
        simp [kind]

end Sys2Proof.Machine
end

section
/-!
STOP CHANNEL.
-/

namespace Sys2Proof.Machine

/-! ## STOP CHANNEL (R101, R102) -/

/-- The two modes of STOP CHANNEL: the mode that a request's body must name, and what it does to a channel in RUN. -/
def stopOwner (mode : Nat) (stop : ChannelId → State → Taken) (body : List Byte) (t : State) : Taken :=
  match channelOf (field body 0 1) with
  | some c =>
    if field body 1 1 ≠ mode then answer .badField t
    else if !t.running then answer .wrongPhase t
    else stop c t
  | none => answer .badField t

section
variable {tag a b : Byte} {s : State} {c : ChannelId} {n : OrderId}

theorem execStopChannelAfter_eq (body : List Byte) :
    execStopChannelAfter tag body s = request 28 tag (sized 2 body (stopOwner 1 stopAfter body)) s := rfl

theorem execStopChannelAtOnce_eq (body : List Byte) :
    execStopChannelAtOnce tag body s = request 28 tag (sized 2 body (stopOwner 2 stopAtOnce body)) s := rfl

section
variable {mode : Nat} {stop : ChannelId → State → Taken}

theorem stopOwner_badField (wrong : channelOf a.toNat = none ∨ b.toNat ≠ mode) :
    stopOwner mode stop [a, b] s = answer .badField s := by
  simp only [stopOwner, field_pair_first, field_pair_second]
  rcases wrong with nobody | other
  · rw [nobody]
  · split
    · exact if_pos other
    · rfl

section
variable (channel : channelOf a.toNat = some c) (named : b.toNat = mode)
include channel named

theorem stopOwner_wrongPhase (setup : s.control.phase = .setup) :
    stopOwner mode stop [a, b] s = answer .wrongPhase s := by
  simp [stopOwner, channel, named, running_eq_false setup]

theorem stopOwner_stops (run : s.control.phase = .run) : stopOwner mode stop [a, b] s = stop c s := by
  simp [stopOwner, channel, named, running_eq_true run]

end

end

/-! ### What a stop does to a channel, by its state (R101) -/

theorem stops_idle (idle : (s.channel c).state = .idle) :
    stopAfter c s = answer .notRunning s ∧ stopAtOnce c s = answer .notRunning s := by
  simp only [stopAfter, stopAtOnce, idle, and_self]

theorem stops_stopping {y : Bool} (stopping : (s.channel c).state = .stopping y) :
    stopAfter c s = answer .ok s ∧ stopAtOnce c s = answer .ok s := by
  simp only [stopAfter, stopAtOnce, stopping, and_self]

/-- A channel that is to stop at once (R102). -/
def State.stoppingNow (s : State) (c : ChannelId) : State :=
  s.putChannel c { s.channel c with state := .stopping false }

section
variable (goesOn : (s.channel c).state = .running ∨ (s.channel c).state = .suspended)
include goesOn

theorem stopAfter_working : stopAfter c s = taken .ok (s.putChannel c { s.channel c with stopAfter := true }, []) := by
  rcases goesOn with state | state <;> simp only [stopAfter, state]

theorem stopAtOnce_working : stopAtOnce c s =
    taken (if (s.claimed (.channel c)).isEmpty then .ok else .accepted)
      (endOrder c .aborted .stopped (s.stoppingNow c)) := by
  rcases goesOn with state | state <;> simp only [stopAtOnce, state] <;> rfl

end

/-! ### A channel that stops at once (R102) -/

theorem atRest_stoppingNow (rest : s.atRest) : (s.stoppingNow c).atRest := by
  have alike (e : ChannelId) : (s.stoppingNow c).unreported e = s.unreported e := by
    by_cases same : c = e <;>
      exact unreported_of_alike (by simp [State.stoppingNow, same]) (by simp [State.stoppingNow, same])
        fun _ => ⟨rfl, rfl⟩
  exact ⟨rest.1, (alike .a).trans rest.2.1, (alike .b).trans rest.2.2⟩

theorem putChannel_stoppingNow (x : OrderSlot) (y : Channel) :
    ((s.stoppingNow c).putOrder n x).putChannel c y = (s.putOrder n x).putChannel c y := by
  rw [State.stoppingNow, State.putOrder_putChannel, State.putChannel_putChannel]

/-- A WAIT that holds nothing is posted at once, and its channel is IDLE (R102). -/
theorem settle_stoppingNow (rest : s.atRest) (current : (s.channel c).current = some n)
    (status : (s.order n).status = .flowing) (kind : (s.order n).order.kind = some .wait)
    (quiet : (s.order n).order.notify = false) (reported : (s.channel c).reported = none)
    (pin : s.holdsPin c = false) (change : s.selector.change = none) (claimed : s.claimed (.channel c) = []) :
    settle (endOrder c .aborted .stopped (s.stoppingNow c)) =
      (s.stoppingNow c).ended c n .aborted .stopped Channel.idle [.chainEnded c n .stopped] := by
  have working : ((s.stoppingNow c).order n).status.working = true := by
    rw [show (s.stoppingNow c).order n = s.order n from rfl, status]
    rfl
  refine settle_endOrder (s := s.stoppingNow c) (told := []) (l := [.chainEnded c n .stopped]) (atRest_stoppingNow rest)
    (by simpa [State.stoppingNow] using current) (.inr kind) (.inl working) pin change claimed
    (by simpa [State.stoppingNow] using reported) rfl rfl (endingTold_of_quiet quiet nofun nofun)
    (fun t channels => chainOn_stopped ?_) (by simp)
  rw [channel_of_channels channels]
  simp [State.posted, State.stoppingNow]

end

/-- Settles O39. -/
theorem stopChannelStopsTheChain : Obligations.StopChannelStopsTheChain := by
  unfold Obligations.StopChannelStopsTheChain
  refine ⟨fun tag a b s free => ⟨fun wrong => request_sized_answer free rfl (stopOwner_badField wrong),
      fun c channel named => ⟨fun setup => request_sized_answer free rfl (stopOwner_wrongPhase channel named setup),
        fun run => ?_⟩⟩,
    fun tag a b s free rest => ⟨fun wrong => request_sized_answer free rfl (stopOwner_badField wrong),
      fun c channel named => ⟨fun setup => request_sized_answer free rfl (stopOwner_wrongPhase channel named setup),
        fun run => ?_⟩⟩⟩
  · have stops := stopOwner_stops (stop := stopAfter) (s := s.inHand) channel named run
    refine ⟨fun idle => request_sized_answer free rfl (stops.trans (stops_idle (s := s.inHand) idle).1),
      fun halted => request_sized_taken (t := s.putChannel c _) free rfl
        (stops.trans (stopAfter_of_halted (s := s.inHand) halted)) free.1,
      fun y stopping => request_sized_answer free rfl (stops.trans (stops_stopping (s := s.inHand) stopping).1),
      fun goesOn => request_sized_taken (t := s.putChannel c _) free rfl
        (stops.trans (stopAfter_working (s := s.inHand) goesOn)) free.1⟩
  · have stops := stopOwner_stops (stop := stopAtOnce) (s := s.inHand) channel named run
    refine ⟨fun idle => request_sized_answer free rfl (stops.trans (stops_idle (s := s.inHand) idle).2),
      fun halted => request_sized_taken (t := s.putChannel c _) free rfl
        (stops.trans (stopAtOnce_of_halted (s := s.inHand) halted)) free.1,
      fun y stopping => request_sized_answer free rfl (stops.trans (stops_stopping (s := s.inHand) stopping).2),
      fun goesOn => ?_, fun n state current status kind quiet reported pin change claimed => ?_⟩
    · have ends := endOrder_quiet c .aborted .stopped (s.inHand.stoppingNow c)
      exact request_sized_quiet free rfl (stops.trans (stopAtOnce_working (s := s.inHand) goesOn))
        ((Kept.putChannel _ _ _).trans ends.kept) ((aside_endOrder ..).1.trans free.1) ends.inner
    · have settled := settle_stoppingNow (s := s.inHand) rest current status kind quiet reported pin change claimed
      have took := stops.trans (stopAtOnce_working (s := s.inHand) (.inl state))
      rw [show s.inHand.claimed (.channel c) = [] from claimed] at took
      have untold : (s.inHand.stoppingNow c).endContent ((s.inHand.stoppingNow c).order n).order = none :=
        (endContent_eq (s := s.inHand.stoppingNow c) (.inr kind)).trans (if_neg (by simp [kind]))
      rw [State.ended, untold, List.foldl_cons, List.foldl_nil, putChannel_stoppingNow] at settled
      exact ⟨_, request_sized_settle free rfl took settled, rfl, notices_notify _ _, rfl, rfl, rfl, rfl⟩

end Sys2Proof.Machine
end

section
/-!
RESUME, and a slot that is the current order of both channels.
-/

namespace Sys2Proof.Machine

/-! ## RESUME where both channels have one slot as their current order (R82, R114) -/

/-- Channel A holds a TRANSFER from holder 2 to holder 1, reported to the selector, which stands STEADY on holder 3.
The slot's status is a posted one, and it is channel B's current order as well, where it is not reported: no TRANSFER
that runs is unreported, until the RESUME puts the slot back in WAIT-PATH. -/
def twiceCurrent : State :=
  let run : State := { State.reset with
    control := { State.reset.control with phase := .run }
    settings := { State.reset.settings with
      holders := Vector.replicate 4 { State.reset.settings.holders[(0 : HolderId)] with configured := true } }
    stock := { State.reset.stock with holders := Vector.replicate 4 { Holder.atReset with state := .service } }
    selector := { Selector.atReset with state := .steady, current := some 2 } }
  ((run.putOrder 0 { OrderSlot.empty with
    order := { Order.absent with kind := some .transfer, dest := some 0, src := some 1 }
    status := .done }).putChannel .a
      { Channel.idle with state := .suspended, current := some 0, reported := some 0 }).putChannel .b
        { Channel.idle with state := .running, current := some 0 }

/-- What channel B has reported to the selector, after a command. -/
def reportedOfB : Host.Outcome State Fault Refusal → Option HolderId
  | .next t => (t.channel .b).reported
  | _ => none

theorem twiceCurrent_free : twiceCurrent.free ∧ twiceCurrent.atRest := by decide +kernel

theorem twiceCurrent_channel : (twiceCurrent.channel .a).state = .suspended
    ∧ (twiceCurrent.channel .a).current = some 0 ∧ (twiceCurrent.channel .a).reported = some 0
    ∧ (twiceCurrent.channel .a).work = [] ∧ (twiceCurrent.channel .a).pathTimer = none := by decide +kernel

theorem twiceCurrent_order : (twiceCurrent.order 0).order.kind = some .transfer
    ∧ (twiceCurrent.order 0).order.dest = some 0 ∧ (twiceCurrent.order 0).order.src = some 1
    ∧ (twiceCurrent.order 0).order.forceSource = false := by decide +kernel

theorem twiceCurrent_selector : twiceCurrent.selector.state = .steady ∧ twiceCurrent.selector.pin = none
    ∧ twiceCurrent.usable 1 = true ∧ twiceCurrent.selector.current ≠ some 1 := by decide +kernel

/-- The close of the event reports the order to the selector for channel B too. -/
theorem reportedOfB_resume : reportedOfB (exec (.resume 0#8 [1#8]) twiceCurrent) = some 0 := by decide +kernel

/-- Refutes O42: the RESUME of `twiceCurrent` leaves the slot in WAIT-PATH, so that it runs on channel B too, and the
close of the event reports it there; the statement has channel B as it was. -/
theorem not_resumeTakesUpTheOrder : ¬ Obligations.ResumeTakesUpTheOrder := by
  unfold Obligations.ResumeTakesUpTheOrder
  rintro ⟨_, transfer⟩
  obtain ⟨free, rest⟩ := twiceCurrent_free
  obtain ⟨state, current, reported, work, timer⟩ := twiceCurrent_channel
  obtain ⟨kind, dest, src, unforced⟩ := twiceCurrent_order
  obtain ⟨steady, unpinned, usable, elsewhere⟩ := twiceCurrent_selector
  have waits := (transfer 0#8 1#8 .a 0 0 1 twiceCurrent free rest rfl rfl rfl state current kind dest src reported work
    steady unpinned usable).2 elsewhere unforced timer
  have reports := reportedOfB_resume
  rw [waits] at reports
  exact absurd reports (by decide +kernel)

end Sys2Proof.Machine
end

section
/-!
A hold close, and a pin released.
-/

namespace Sys2Proof.Machine

/-! ## A hold close and the main (R107, R108) -/

section
variable {s t : State} {c : ChannelId} {n : OrderId} {v : ValveId} {told : Bool}

/-- A request of the right length whose reply is read from the state that its event leaves. -/
theorem request_sized_reply {code n : Nat} {tag : Byte} {body : List Byte} {owner : State → Taken} {s t : State}
    {e : Effect} {reply : State → List Byte} (free : s.free) (length : body.length = n)
    (took : owner s.inHand = (e, reply)) (settled : settle e = t) :
    request code tag (sized n body owner) s = .next (t.answered code tag (reply t)) := by
  rw [request_free free.2, sized, if_pos length, show s.putLink { s.link with taking := true } = s.inHand from rfl,
    took, ← settled]
  rfl

/-- An order held, its channel with it (R107). -/
def State.held (s : State) (c : ChannelId) (n : OrderId) : State :=
  (s.putOrder n { s.order n with status := .suspended }).putChannel c { s.channel c with state := .suspended }

theorem hasQueuedOpen_of_empty {r : Requester} (queue : s.valves.queue = []) : s.hasQueuedOpen r v = false := by
  rw [State.hasQueuedOpen, queueEntry_of_empty queue]

/-- No open waits in the queue: none is withdrawn (R107). -/
theorem withdrawOpens_nothing (o : Order) (queue : s.valves.queue = []) (work : (s.channel c).work = []) :
    withdrawOpens c o s = (s, []) := by
  have nothing (l : List ValveId) : l.foldl (fun e v => Effect.andThen e fun t =>
      if t.hasQueuedOpen (.channel c) v then withdraw (.channel c) v t else (t, [])) (s, []) = (s, []) := by
    induction l with
    | nil => rfl
    | cons v l ih => simpa [Effect.andThen, hasQueuedOpen_of_empty queue] using ih
  rw [withdrawOpens, nothing]
  exact congrArg (·, _) (putWork_self work)

theorem takeHold_receive (current : (s.channel c).current = some n) (kind : (s.order n).order.kind = some .receive)
    (queue : s.valves.queue = []) (work : (s.channel c).work = []) :
    takeHold c s = (s.held c n, [.beginHoldClose c]) := by
  have nothing : withdrawOpens c (s.order n).order (s.held c n) = (s.held c n, []) :=
    withdrawOpens_nothing _ queue (by simp [State.held, work])
  simp only [takeHold, currentSlot_of_current current, kind, reduceCtorEq, Option.some.injEq, if_false]
  exact congrArg (fun e : Effect => (e.1, e.2 ++ [.beginHoldClose c] ++ [])) nothing

theorem takeHold_transfer (current : (s.channel c).current = some n)
    (kind : (s.order n).order.kind = some .transfer) (queue : s.valves.queue = []) (work : (s.channel c).work = []) :
    takeHold c s = ((s.held c n).setBooster false, [.beginHoldClose c, .releasePin c]) := by
  have nothing : withdrawOpens c (s.order n).order ((s.held c n).setBooster false) = (_, []) :=
    withdrawOpens_nothing _ queue (by simp [State.held, work])
  simp only [takeHold, currentSlot_of_current current, kind, if_true]
  exact congrArg (fun e : Effect => (e.1, e.2 ++ [.beginHoldClose c] ++ [.releasePin c])) nothing

theorem askHoldClose_asks (current : (s.channel c).current = some n) (flow : (s.order n).order.flowValve = some v)
    (opened : (s.valve v).position = .opened) (idle : s.valves.main = .idle) {acts : List Act}
    (asked : moveRequest (.channel c) v .closed s = (.accepted, t, acts)) :
    askHoldClose c s = (t.setWork c v .holdClose .answer, acts) := by
  simp [askHoldClose, currentSlot_of_current current, flow, State.stands, opened, driveOf_of_idle idle, asked,
    Answer.workWait]

/-- A channel that awaits the close of its hold (R107). -/
def State.awaitingClose (s : State) (c : ChannelId) (v : ValveId) : State :=
  s.putChannel c { s.channel c with work := [{ valve := v, kind := .holdClose, wait := .answer }] }

/-- The hold close is driven (R107, R67, R68). -/
theorem beginHoldClose_drives (current : (s.channel c).current = some n)
    (flow : (s.order n).order.flowValve = some v) (work : (s.channel c).work = [])
    (claim : (s.valve v).claim = .channel c) (sound : (s.valve v).fault = .noFault)
    (opened : (s.valve v).position = .opened) (away : (s.valve v).shown ≠ some .closed) (still : s.valves.Resting)
    (nobody : s.valves.refused = []) : Takes 4 told [.beginHoldClose c] s ((s.awaitingClose c v).drive
      { valve := v, target := .closed, requesters := [.channel c], protective := false }) := by
  have asked := moveRequest_resting (r := .channel c) (t := .closed) still (by simp [Requester.holdsUnder, claim]) sound
    (by simp [opened, limitPosition])
  have closes : handle (.beginHoldClose c) s = ((s.awaitingClose c v).enqueue
      { valve := v, target := .closed, requesters := [.channel c] }, [.arbiter]) := by
    refine (askHoldClose_asks current flow opened still.main asked).trans ?_
    have queued (e : QueueEntry) : (s.enqueue e).channel c = s.channel c := rfl
    rw [State.setWork, queued, work]
    rfl
  exact .cons rfl closes (arbiter_drives (s := s.awaitingClose c v) still nobody away)

/-- No channel has a pin (R53). -/
def State.unpinned (s : State) : State := s.putSelector { s.selector with pin := none }

theorem handle_askPins_nobody (nobody : ∀ e, s.pathWaits .pin e = false) : handle .askPins s = (s, []) :=
  congrArg (s, ·) (by simp [allChannels, nobody])

/-- A trigger in STEADY changes nothing where the current holder is usable and nothing can be decoded (R42). -/
theorem handle_decodeTrigger_unknown {h : HolderId} (run : s.control.phase = .run)
    (steady : s.selector.state = .steady) (current : s.selector.current = some h) (usable : s.usable h = true)
    (unknown : s.stock.condition = .unknown) : handle .decodeTrigger s = (s, []) := by
  simp [handle, decodeTrigger, running_eq_true run, steady, current, unknown, usable]

/-- The pin of a TRANSFER released, where the send-out cannot be decoded and no channel waits for a pin (R53, R84). -/
theorem releasePin_takes {h : HolderId} (run : s.control.phase = .run) (pin : s.holdsPin c = true)
    (steady : s.selector.state = .steady) (current : s.selector.current = some h) (usable : s.usable h = true)
    (unknown : s.stock.condition = .unknown) (nobody : ∀ e, s.pathWaits .pin e = false) :
    Takes 3 false [.releasePin c] s s.unpinned :=
  .cons rfl (if_pos pin) (.cons rfl (handle_decodeTrigger_unknown (s := s.unpinned) run steady current usable unknown)
    (.cons rfl (handle_askPins_nobody (s := s.unpinned) nobody) (.nil _ _)))

end

end Sys2Proof.Machine
end

section
/-!
HOLD.
-/

namespace Sys2Proof.Machine

/-! ## HOLD (R105 to R108) -/

section
variable {tag a : Byte} {s : State} {c : ChannelId} {n : OrderId}

theorem remaining_receive {h : HolderId} {x : OrderSlot} (kind : x.order.kind = some .receive)
    (dest : x.order.dest = some h) : s.remaining x = (s.holder h).content.map fun m => x.order.target - m := by
  simp only [State.remaining, kind, dest, Option.bind_some]

theorem remaining_transfer {x : OrderSlot} (kind : x.order.kind = some .transfer) :
    s.remaining x = some (x.order.target - x.counted) := by
  simp only [State.remaining, kind]

theorem holdCheck_wrongPhase (setup : s.control.phase = .setup) : holdCheck c s = .wrongPhase :=
  if_pos (by simp [running_eq_false setup])

theorem holdCheck_nobody (run : s.control.phase = .run) (nobody : (s.channel c).current = none) :
    holdCheck c s = .notRunning := by
  simp [holdCheck, running_eq_true run, currentSlot_of_none nobody]

section
variable (run : s.control.phase = .run) (current : (s.channel c).current = some n)
variable (works : (s.channel c).state ≠ .idle ∧ (s.channel c).state ≠ .halted)
include run current works

theorem holdCheck_alreadyHeld (held : (s.order n).status = .suspended) : holdCheck c s = .alreadyHeld := by
  simp [holdCheck, running_eq_true run, currentSlot_of_current current, works, held]

theorem holdCheck_notHoldable (goesOn : (s.order n).status ≠ .suspended)
    (holdable : ¬(((s.order n).order.kind = some .receive ∨ (s.order n).order.kind = some .transfer)
      ∧ ((s.order n).status = .opening ∨ (s.order n).status = .flowing))) : holdCheck c s = .notHoldable := by
  have refuses : (!(s.order n).order.movesGas
      || decide ((s.order n).status ≠ .opening ∧ (s.order n).status ≠ .flowing)) = true := by
    simp only [Order.movesGas, Bool.or_eq_true, Bool.not_eq_true', Bool.or_eq_false_iff, decide_eq_true_eq,
      decide_eq_false_iff_not]
    by_cases moves : (s.order n).order.kind = some .receive ∨ (s.order n).order.kind = some .transfer
    · exact .inr ⟨fun opening => holdable ⟨moves, .inl opening⟩, fun flowing => holdable ⟨moves, .inr flowing⟩⟩
    · exact .inl (not_or.mp moves)
  simp only [holdCheck, running_eq_true run, currentSlot_of_current current, works, goesOn, refuses]
  simp

section
variable (moves : (s.order n).order.kind = some .receive ∨ (s.order n).order.kind = some .transfer)
variable (status : (s.order n).status = .opening ∨ (s.order n).status = .flowing)
include moves status

/-- What is left of the order decides a HOLD of it (R106). -/
theorem holdCheck_holdable : holdCheck c s =
    if (s.remaining (s.order n)).any (fun m => decide (m < (s.settings.channels.get c).holdThreshold)) then .holdIgnored
    else .ok := by
  have goesOn : (s.order n).status ≠ .suspended := by rcases status with status | status <;> rw [status] <;> nofun
  have taken : (!(s.order n).order.movesGas
      || decide ((s.order n).status ≠ .opening ∧ (s.order n).status ≠ .flowing)) = false := by
    simp only [Order.movesGas, Bool.or_eq_false_iff, Bool.not_eq_false', Bool.or_eq_true, decide_eq_true_eq,
      decide_eq_false_iff_not]
    exact ⟨moves, fun ⟨unopening, unflowing⟩ => status.elim unopening unflowing⟩
  simp only [holdCheck, running_eq_true run, currentSlot_of_current current, works, goesOn, taken]
  cases s.remaining (s.order n) with
  | none => rfl
  | some m => simp

theorem holdCheck_ignored {m : Nat} (left : s.remaining (s.order n) = some m)
    (short : m < (s.settings.channels.get c).holdThreshold) : holdCheck c s = .holdIgnored := by
  rw [holdCheck_holdable run current works moves status, left]
  exact if_pos (by simpa using short)

theorem holdCheck_ok
    (far : ∀ m, s.remaining (s.order n) = some m → (s.settings.channels.get c).holdThreshold ≤ m) :
    holdCheck c s = .ok := by
  rw [holdCheck_holdable run current works moves status]
  refine if_neg ?_
  cases left : s.remaining (s.order n) with
  | none => simp
  | some m => simpa using far m left

end

end

theorem execHold_badField (free : s.free) (nobody : channelOf a.toNat = none) :
    execHold tag [a] s = .next (s.answered 29 tag Status.badField.body) := by
  refine request_sized_answer free rfl ?_
  simp only [field_singleton, nobody]

section
variable (free : s.free) (channel : channelOf a.toNat = some c)
include free channel

theorem execHold_refused {k : Status} (check : holdCheck c s = k) (refuses : k ≠ .ok) :
    execHold tag [a] s = .next (s.answered 29 tag k.body) := by
  have inHand : holdCheck c s.inHand = k := check
  refine request_sized_answer free rfl ?_
  simp only [field_singleton, channel, inHand]

variable (check : holdCheck c s = .ok)
include check

theorem execHold_settle {t : State} (settled : settle (takeHold c s.inHand) = t) : execHold tag [a] s =
    .next (t.answered 29 tag (if t.holdOutstanding c then Status.accepted else Status.ok).body) := by
  have inHand : holdCheck c s.inHand = .ok := check
  refine request_sized_reply (e := takeHold c s.inHand)
    (reply := fun u => (if u.holdOutstanding c then Status.accepted else Status.ok).body) free rfl ?_ settled
  simp only [field_singleton, channel, inHand]

theorem execHold_accepted {t : State} (settled : settle (takeHold c s.inHand) = t)
    (outstanding : t.holdOutstanding c = true) :
    execHold tag [a] s = .next (t.answered 29 tag Status.accepted.body) := by
  rw [execHold_settle free channel check settled, if_pos outstanding]

theorem execHold_kept : ∃ t, execHold tag [a] s = .next t ∧
    Kept (s.answered 29 tag (if t.holdOutstanding c then Status.accepted else Status.ok).body) t := by
  have quiet := takeHold_quiet c s.inHand
  refine ⟨_, execHold_settle free channel check rfl, ?_⟩
  exact (quiet.kept.trans (settle_kept ((aside_takeHold ..).1.trans free.1) quiet.inner)).answered 29 tag _

end

/-! ### An order held (R107, R108) -/

/-- The order held leaves every TRANSFER reported. -/
theorem unreported_held (status : (s.order n).status.running = true) (e : ChannelId) (v : ValveId) :
    ((s.held c n).awaitingClose c v).unreported e = s.unreported e := by
  refine unreported_of_alike ?_ ?_ fun m => ?_
  · by_cases same : c = e <;> simp [State.awaitingClose, State.held, same]
  · by_cases same : c = e <;> simp [State.awaitingClose, State.held, same]
  · by_cases same : n = m
    · subst same
      simp only [State.awaitingClose, State.held, State.order_putChannel_other, State.order_putOrder, if_true, status]
      exact ⟨trivial, rfl⟩
    · simp [State.awaitingClose, State.held, same]

theorem held_awaitingClose (v : ValveId) : (s.held c n).awaitingClose c v =
    (s.putOrder n { s.order n with status := .suspended }).putChannel c { s.channel c with
      state := .suspended, work := [{ valve := v, kind := .holdClose, wait := .answer }] } := by
  simp [State.awaitingClose, State.held]

theorem setBooster_awaitingClose (on : Bool) (v : ValveId) :
    (s.setBooster on).awaitingClose c v = (s.awaitingClose c v).setBooster on := rfl

theorem holdOutstanding_awaitingClose (v : ValveId) (t : State)
    (channel : t.channel c = ((s.held c n).awaitingClose c v).channel c) : t.holdOutstanding c = true := by
  simp [State.holdOutstanding, channel, State.awaitingClose]

/-- A FLOWING RECEIVE held: its inlet is driven closed (R107, R108). -/
theorem settle_takeHold_receive {h : HolderId} (rest : s.atRest) (current : (s.channel c).current = some n)
    (status : (s.order n).status = .flowing) (kind : (s.order n).order.kind = some .receive)
    (dest : (s.order n).order.dest = some h) (work : (s.channel c).work = [])
    (claim : (s.valve (inletValve h)).claim = .channel c) (sound : (s.valve (inletValve h)).fault = .noFault)
    (opened : (s.valve (inletValve h)).position = .opened) (away : (s.valve (inletValve h)).shown ≠ some .closed)
    (still : s.valves.Resting) (nobody : s.valves.refused = []) :
    settle (takeHold c s) = ((s.held c n).awaitingClose c (inletValve h)).drive
      { valve := inletValve h, target := .closed, requesters := [.channel c], protective := false } := by
  have closes : Takes 4 false [.beginHoldClose c] (s.held c n) _ := beginHoldClose_drives (n := n) (v := inletValve h)
    (by simp [State.held, current]) (by simp [State.held, Order.flowValve, kind, dest]) (by simp [State.held, work])
    claim sound opened away still nobody
  rw [takeHold_receive current kind still.queue work]
  have reported := unreported_held (s := s) (c := c) (n := n) (by rw [status]; rfl)
  exact closes.ends (by omega) rest.1 (List.cons_ne_nil _ _)
    ⟨(reported .a _).trans rest.2.1, (reported .b _).trans rest.2.2⟩

/-- A TRANSFER held, with TDEL on its way to CLOSED (R107, R108). -/
def State.heldTransfer (s : State) (c : ChannelId) (n : OrderId) : State :=
  (((s.held c n).setBooster false).awaitingClose c deliveryValve).drive
    { valve := deliveryValve, target := .closed, requesters := [.channel c], protective := false }

theorem valve_heldTransfer (v : ValveId) : (s.heldTransfer c n).valve v = if deliveryValve = v then
    { s.valve deliveryValve with position := .movingClosed } else s.valve v :=
  State.valve_putValve _ _ _ _

theorem units_heldTransfer : (s.heldTransfer c n).settings = s.settings ∧ (s.heldTransfer c n).control = s.control
    ∧ (s.heldTransfer c n).stock = s.stock ∧ (s.heldTransfer c n).selector = s.selector := by
  simp [State.heldTransfer, State.awaitingClose, State.held, State.drive]

theorem channel_heldTransfer (e : ChannelId) : (s.heldTransfer c n).channel e =
    ((s.held c n).awaitingClose c deliveryValve).channel e := by
  simp [State.heldTransfer, State.awaitingClose]

theorem order_heldTransfer (m : OrderId) : (s.heldTransfer c n).order m = (s.held c n).order m := by
  simp [State.heldTransfer, State.awaitingClose]

theorem unreported_heldTransfer (status : (s.order n).status.running = true) (e : ChannelId) :
    (s.heldTransfer c n).unreported e = s.unreported e := by
  rw [← unreported_held (c := c) status e deliveryValve]
  simp only [State.unreported, State.currentSlot, channel_heldTransfer, order_heldTransfer]
  rfl

theorem usable_heldTransfer (m : HolderId) : (s.heldTransfer c n).usable m = s.usable m := by
  have fault (v : ValveId) : ((s.heldTransfer c n).valve v).fault = (s.valve v).fault := by
    rw [valve_heldTransfer]
    split
    next same => rw [same]
    next => rfl
  have reported (e : ChannelId) : ((s.heldTransfer c n).channel e).reported = (s.channel e).reported := by
    rw [channel_heldTransfer]
    by_cases same : c = e <;> simp [State.awaitingClose, State.held, same]
  obtain ⟨settings, _, stock, _⟩ := units_heldTransfer (s := s) (c := c) (n := n)
  simp only [State.usable, fault, reported, State.holderSettings, State.holder, settings, stock]
  rfl

theorem pathWaits_heldTransfer (other : (s.channel c.other).current = none) (current : (s.channel c).current = some n)
    (e : ChannelId) : (s.heldTransfer c n).pathWaits .pin e = false := by
  simp only [State.pathWaits]
  by_cases same : e = c
  · subst same
    rw [currentSlot_of_current (n := n) (by simp [channel_heldTransfer, State.awaitingClose, State.held, current])]
    simp [order_heldTransfer, State.held]
  · rw [currentSlot_of_none]
    have isOther : e = c.other := by cases c <;> cases e <;> simp_all [AB.other]
    subst isOther
    simpa [channel_heldTransfer, State.awaitingClose, State.held] using other

theorem releasePin_heldTransfer {m : HolderId} (run : s.control.phase = .run)
    (current : (s.channel c).current = some n) (other : (s.channel c.other).current = none)
    (steady : s.selector.state = .steady) (holder : s.selector.current = some m) (usable : s.usable m = true)
    (pin : s.selector.pin = some { channel := c, holder := m }) (unknown : s.stock.condition = .unknown) :
    Takes 3 false [.releasePin c] (s.heldTransfer c n) (s.heldTransfer c n).unpinned := by
  obtain ⟨_, control, stock, selector⟩ := units_heldTransfer (s := s) (c := c) (n := n)
  have pinned : (s.heldTransfer c n).holdsPin c = true := by
    rw [State.holdsPin, selector, pin]
    simp
  exact releasePin_takes (by rw [control, run]) pinned (by rw [selector, steady]) (by rw [selector, holder])
    ((usable_heldTransfer m).trans usable) (by rw [stock, unknown]) (pathWaits_heldTransfer other current)

/-- A FLOWING TRANSFER held: TDEL is driven closed, and its pin released (R107, R108). -/
theorem settle_takeHold_transfer {m : HolderId} (rest : s.atRest) (run : s.control.phase = .run)
    (current : (s.channel c).current = some n) (other : (s.channel c.other).current = none)
    (status : (s.order n).status = .flowing) (kind : (s.order n).order.kind = some .transfer)
    (work : (s.channel c).work = []) (steady : s.selector.state = .steady) (holder : s.selector.current = some m)
    (usable : s.usable m = true) (pin : s.selector.pin = some { channel := c, holder := m })
    (unknown : s.stock.condition = .unknown)
    (claim : (s.valve deliveryValve).claim = .channel c) (sound : (s.valve deliveryValve).fault = .noFault)
    (opened : (s.valve deliveryValve).position = .opened) (away : (s.valve deliveryValve).shown ≠ some .closed)
    (still : s.valves.Resting) (nobody : s.valves.refused = []) :
    settle (takeHold c s) = (s.heldTransfer c n).unpinned := by
  have closes : Takes 4 false [.beginHoldClose c] ((s.held c n).setBooster false) (s.heldTransfer c n) :=
    beginHoldClose_drives (n := n) (v := deliveryValve)
      (by simp [State.held, current]) (by simp [State.held, Order.flowValve, kind]) (by simp [State.held, work])
      claim sound opened away still nobody
  have words : Takes 7 false _ _ _ := closes.followed
    (releasePin_heldTransfer run current other steady holder usable pin unknown) rfl
  rw [takeHold_transfer current kind still.queue work]
  have reported := unreported_heldTransfer (s := s) (c := c) (n := n) (by rw [status]; rfl)
  exact words.ends (by omega) rest.1 (List.cons_ne_nil _ _)
    ⟨(reported .a).trans rest.2.1, (reported .b).trans rest.2.2⟩

end

/-- Settles O41. -/
theorem holdIsRefusedOrTaken : Obligations.HoldIsRefusedOrTaken := by
  unfold Obligations.HoldIsRefusedOrTaken
  refine ⟨fun tag a s free => ⟨execHold_badField free, fun c channel => ?_⟩, ?_, ?_⟩
  · have refused {k : Status} (check : holdCheck c s = k) (refuses : k ≠ .ok) : _ :=
      execHold_refused (tag := tag) free channel check refuses
    refine ⟨fun setup => refused (holdCheck_wrongPhase setup) nofun, fun run =>
      ⟨fun nobody => refused (holdCheck_nobody run nobody) nofun, fun n current idle halted => ?_⟩⟩
    have works : _ ∧ _ := ⟨idle, halted⟩
    exact ⟨fun held => refused (holdCheck_alreadyHeld run current works held) nofun,
      fun goesOn holdable => refused (holdCheck_notHoldable run current works goesOn holdable) nofun,
      fun moves status => ⟨fun m left short =>
        refused (holdCheck_ignored run current works moves status left short) nofun,
        fun far => execHold_kept free channel (holdCheck_ok run current works moves status far)⟩⟩
  · intro tag a c n h s free rest channel run state current status kind dest far work claim sound opened away main
      protect queue nobody
    have check : holdCheck c s = .ok := holdCheck_ok run current (by simp [state]) (.inl kind) (.inr status)
      fun m left => by
        obtain ⟨content, holds, rfl⟩ := Option.map_eq_some_iff.mp ((remaining_receive kind dest).symm.trans left)
        exact far content holds
    have settled := settle_takeHold_receive (s := s.inHand) rest current status kind dest work claim sound opened away
      ⟨main, protect, queue⟩ nobody
    have held := execHold_accepted (tag := tag) free channel check settled
      (holdOutstanding_awaitingClose (n := n) (s := s.inHand) (inletValve h) _ rfl)
    rw [held_awaitingClose] at held
    exact held
  · intro tag a c n h m s free rest channel run state current other status kind dest far work steady holder usable pin
      unknown claim sound opened away main protect queue nobody
    have check : holdCheck c s = .ok := holdCheck_ok run current (by simp [state]) (.inr kind) (.inr status)
      fun m left => by
        rwa [← Option.some.inj ((remaining_transfer kind).symm.trans left)]
    have settled := settle_takeHold_transfer (s := s.inHand) rest run current other status kind work steady holder
      usable pin unknown claim sound opened away ⟨main, protect, queue⟩ nobody
    have outstanding : (s.inHand.heldTransfer c n).unpinned.holdOutstanding c = true :=
      holdOutstanding_awaitingClose (n := n) (s := s.inHand) deliveryValve (s.inHand.heldTransfer c n)
        (channel_heldTransfer c)
    have held := execHold_accepted (tag := tag) free channel check settled outstanding
    rw [State.heldTransfer, setBooster_awaitingClose, held_awaitingClose] at held
    exact held

end Sys2Proof.Machine
end

section
/-!
A district that opens or closes.
-/

namespace Sys2Proof.Machine

/-! ## What a drive leaves alone -/

section
variable {s : State} {d : Drive}

@[simp] theorem settings_drive : (s.drive d).settings = s.settings := rfl
@[simp] theorem stock_drive : (s.drive d).stock = s.stock := rfl
@[simp] theorem accounts_drive : (s.drive d).accounts = s.accounts := rfl
@[simp] theorem districts_drive : (s.drive d).districts = s.districts := rfl

theorem valves_drive : (s.drive d).valves =
    { (s.putValve d.valve { s.valve d.valve with position := movingTo d.target }).valves with
      main := .driving d s.settings.travel[d.valve] } := rfl

end

/-! ## A district that opens or closes (R126 to R131) -/

section
variable {s t : State} {d : DistrictId} {p : OutletId} {k : DistrictState} {a : Answer} {m : MoveWait}
variable {acts : List Act} {told : Bool} {w : ValveUnit} {j : Nat}

/-- The move that a district in OPENING or CLOSING asks of its valve (R129, R131). -/
def DistrictState.target (k : DistrictState) : Limit := if k = .opening then .opened else .closed

/-- The notice that a district has entered a state (R134). -/
def State.enters (s : State) (d : DistrictId) (p : OutletId) (k : DistrictState) : Notice :=
  .districtState d (some p) (s.district d).state k ((s.district d).inForce.map fun i => i.value) none

/-- A district that has entered OPENING or CLOSING, its host told (R128, R130, R134). -/
def State.moving (s : State) (d : DistrictId) (p : OutletId) (k : DistrictState) (m : MoveWait) : State :=
  (s.resting d p k m).notify (s.enters d p k)

@[simp] theorem valves_moving : (s.moving d p k m).valves = s.valves := rfl
@[simp] theorem settings_moving : (s.moving d p k m).settings = s.settings := rfl
@[simp] theorem channels_moving : (s.moving d p k m).channels = s.channels := rfl
@[simp] theorem stock_moving : (s.moving d p k m).stock = s.stock := rfl
@[simp] theorem accounts_moving : (s.moving d p k m).accounts = s.accounts := rfl
@[simp] theorem districts_moving : (s.moving d p k m).districts = (s.resting d p k m).districts := rfl
@[simp] theorem outletOf_moving : (s.moving d p k m).outletOf d = s.outletOf d := rfl

@[simp] theorem district_moving : (s.moving d p k m).district d = { s.district d with
    state := k, lockout := none, qualify := none, repeatLeft := none, moveWait := m } := district_resting

theorem moving_wait {n : MoveWait} : (s.moving d p k m).putDistrict d
    { (s.moving d p k m).district d with moveWait := n } = s.moving d p k n :=
  congrArg (State.notify · (s.enters d p k)) resting_wait

theorem valves_drive_moving (e : Drive) : ((s.moving d p k m).drive e).valves = (s.drive e).valves := rfl

section
variable (moves : k = .opening ∨ k = .closing)
include moves

theorem unloaded_of_moves : k.loaded = false := by
  rcases moves with rfl | rfl <;> rfl

omit moves in
theorem moveTarget_eq {u : State} (state : (u.district d).state = k) :
    (if decide ((u.district d).state = .opening) = true then Limit.opened else Limit.closed) = k.target := by
  rw [state, DistrictState.target]
  simp

variable (outlet : s.outletOf d = some p)
include outlet

/-- The answer that a district's move waits for (R129, R131). -/
theorem askDistrictMove_waits (state : (s.district d).state = k) (waits : a.wait = some m)
    (ask : moveRequest (.district d) (districtValve p) k.target s = (a, t, acts)) :
    askDistrictMove d s = (a, t.putDistrict d { t.district d with moveWait := m }, acts) := by
  simp only [askDistrictMove, outlet, moveTarget_eq state, ask]
  cases a <;> simp only [Answer.wait, Option.some.injEq, reduceCtorEq] at waits <;>
    simp only [Answer.wait, Option.getD_some, waits]

theorem askDistrictMove_done (state : (s.district d).state = k)
    (ask : moveRequest (.district d) (districtValve p) k.target s = (.done, s, [])) :
    askDistrictMove d s = (.done, s, [if k = .opening then .districtLive d else .districtShut d]) := by
  simp only [askDistrictMove, outlet, moveTarget_eq state, ask]
  simp [state]

/-- A district begins to move: its state and its notice, and then its asking (R128, R130). -/
theorem beginMove_eq (answer : (askDistrictMove d (s.resting d p k .unasked)).1 = a) :
    beginMove d k [] s = (moveStatus a, s.resting d p k .unasked, [.notice (s.enters d p k), .districtAsk d]) := by
  have outlet' : (s.resting d p k .unasked).outletOf d = some p := outlet
  simp only [beginMove, setDistrictState_unloaded (unloaded_of_moves moves) outlet, answer, stateNotice, outlet',
    district_resting]
  rfl

omit outlet in
theorem handle_districtAsk (state : (s.district d).state = k) : handle (.districtAsk d) s = (askDistrictMove d s).2 :=
  if_pos (state ▸ moves)

/-- A district whose move is answered, but not DONE: where its words lead, from the asking on. -/
theorem beginMove_waits (waits : a.wait = some m)
    (ask : ∀ u : State, u.valves = s.valves →
      moveRequest (.district d) (districtValve p) k.target u = (a, u.putValves w, acts))
    (after : Takes j false acts ((s.moving d p k m).putValves w) t) :
    beginMove d k [] s = (.accepted, s.resting d p k .unasked, [.notice (s.enters d p k), .districtAsk d]) ∧
      Takes (j + 2) false [.notice (s.enters d p k), .districtAsk d] (s.resting d p k .unasked) t := by
  have waiting (u : State) (same : u.valves = s.valves) (out : u.outletOf d = some p)
      (state : (u.district d).state = k) : askDistrictMove d u =
        (a, (u.putDistrict d { u.district d with moveWait := m }).putValves w, acts) :=
    askDistrictMove_waits moves out state waits (ask u same)
  have answered := waiting (s.resting d p k .unasked) rfl outlet (congrArg _ district_resting)
  have asks := (handle_districtAsk moves (s := s.moving d p k .unasked) (congrArg _ district_moving)).trans
    (congrArg Prod.snd (waiting (s.moving d p k .unasked) rfl outlet (congrArg _ district_moving)))
  rw [moving_wait] at asks
  refine ⟨?_, .cons rfl rfl (.cons rfl asks ?_)⟩
  · rw [beginMove_eq moves outlet (congrArg _ answered)]
    cases a <;> simp only [Answer.wait, reduceCtorEq] at waits <;> rfl
  · rw [List.append_nil]
    exact after

/-- A district whose move is answered DONE goes on to its end. -/
theorem beginMove_done
    (ask : ∀ u : State, u.valves = s.valves →
      moveRequest (.district d) (districtValve p) k.target u = (.done, u, []))
    (after : Takes j false [if k = .opening then .districtLive d else .districtShut d] (s.moving d p k .unasked) t) :
    beginMove d k [] s = (.ok, s.resting d p k .unasked, [.notice (s.enters d p k), .districtAsk d]) ∧
      Takes (j + 2) false [.notice (s.enters d p k), .districtAsk d] (s.resting d p k .unasked) t := by
  have done (u : State) (same : u.valves = s.valves) (out : u.outletOf d = some p)
      (state : (u.district d).state = k) : _ := askDistrictMove_done moves out state (ask u same)
  have answered := done (s.resting d p k .unasked) rfl outlet (congrArg _ district_resting)
  have asks := (handle_districtAsk moves (s := s.moving d p k .unasked) (congrArg _ district_moving)).trans
    (congrArg Prod.snd (done (s.moving d p k .unasked) rfl outlet (congrArg _ district_moving)))
  exact ⟨beginMove_eq moves outlet (congrArg _ answered), .cons rfl rfl (.cons rfl asks after)⟩

end

/-! ### The ends of a move -/

theorem State.putOutput_putDistrict (x : District) (n : Nat) :
    (s.putOutput p n).putDistrict d x = (s.putDistrict d x).putOutput p n := rfl

/-- A district LIVE, its lockout running and its output loaded (R126, R129, R139). -/
def State.live (s : State) (d : DistrictId) (p : OutletId) : State :=
  let lockout := s.settings.districts[d].lockout
  (s.putDistrict d { s.district d with
    state := .live, lockout := if lockout = 0 then none else some lockout, qualify := none
    moveWait := .unasked }).putOutput p (((s.district d).inForce.map fun i => i.value).getD 0)

@[simp] theorem units_live : (s.live d p).settings = s.settings ∧ (s.live d p).channels = s.channels
    ∧ (s.live d p).stock = s.stock ∧ (s.live d p).accounts = s.accounts ∧ (s.live d p).valves = s.valves :=
  ⟨rfl, rfl, rfl, rfl, rfl⟩

theorem live_notify (n : Notice) : (s.notify n).live d p = (s.live d p).notify n := rfl

/-- A district that has passed through OPENING to LIVE (R129). -/
def State.goneLive (s : State) (d : DistrictId) (p : OutletId) : State :=
  let lockout := s.settings.districts[d].lockout
  (s.putDistrict d { s.district d with
    state := .live, lockout := if lockout = 0 then none else some lockout, qualify := none, repeatLeft := none
    moveWait := .unasked }).putOutput p (((s.district d).inForce.map fun i => i.value).getD 0)

@[simp] theorem units_goneLive : (s.goneLive d p).settings = s.settings ∧ (s.goneLive d p).channels = s.channels
    ∧ (s.goneLive d p).stock = s.stock ∧ (s.goneLive d p).accounts = s.accounts ∧ (s.goneLive d p).valves = s.valves
    ∧ (s.goneLive d p).link = s.link := ⟨rfl, rfl, rfl, rfl, rfl, rfl⟩

theorem live_moving : (s.moving d p .opening .unasked).live d p = (s.goneLive d p).notify (s.enters d p .opening) := by
  rw [State.moving, live_notify]
  simp [State.live, State.goneLive, State.resting, State.putOutput_putDistrict]
  rfl

theorem startLockout_setDistrictState (outlet : s.outletOf d = some p) :
    startLockout d (setDistrictState d .live s) = s.live d p := by
  simp [startLockout, setDistrictState, DistrictState.loaded, loadOutput, outlet, State.live,
    State.putOutput_putDistrict, State.districtSettings]

theorem enterLive_eq (outlet : s.outletOf d = some p) (opening : (s.district d).state = .opening) :
    enterLive d s = (s.live d p, [.notice (s.enters d p .live)]) := by
  have stands : (s.live d p).outletOf d = some p := outlet
  simp only [enterLive, opening, if_true, startLockout_setDistrictState outlet, stateNotice, stands]
  simp [State.live, State.enters, opening]

/-- The claim of a district on its outlet valve released (R130, R131). -/
theorem releaseOutlet_eq (outlet : s.outletOf d = some p) (claim : (s.valve (districtValve p)).claim = .district d) :
    releaseOutlet d s = (s.putClaim (districtValve p) .unclaimed, [.claimReleased]) := by
  simp [releaseOutlet, outlet, releaseClaims, claim]

/-- A district SHUT, the claim on its valve released (R130, R131). -/
def State.shutDown (s : State) (d : DistrictId) (p : OutletId) : State :=
  (s.resting d p .shut .unasked).putClaim (districtValve p) .unclaimed

@[simp] theorem units_shutDown : (s.shutDown d p).settings = s.settings ∧ (s.shutDown d p).channels = s.channels
    ∧ (s.shutDown d p).stock = s.stock ∧ (s.shutDown d p).accounts = s.accounts
    ∧ (s.shutDown d p).districts = (s.resting d p .shut .unasked).districts := ⟨rfl, rfl, rfl, rfl, rfl⟩

theorem resting_moving : ((s.moving d p k m).resting d p .shut .unasked).districts =
    (s.resting d p .shut .unasked).districts := by
  have passed : (s.resting d p k m).resting d p .shut .unasked = s.resting d p .shut .unasked := by
    simp [State.resting, State.putOutput_putDistrict]
  exact (congrArg State.districts passed :)

theorem valves_shutDown : (s.shutDown d p).valves = (s.putClaim (districtValve p) .unclaimed).valves := rfl

theorem enterShut_eq (outlet : s.outletOf d = some p)
    (ends : (s.district d).state = .closing ∨ (s.district d).state = .fault)
    (claim : (s.valve (districtValve p)).claim = .district d) :
    enterShut d s = (s.shutDown d p, [.claimReleased, .notice (s.enters d p .shut)]) := by
  have stands : (s.shutDown d p).outletOf d = some p := outlet
  have shut : (s.shutDown d p).district d = (s.resting d p .shut .unasked).district d := rfl
  have releases : releaseOutlet d (s.resting d p .shut .unasked) = (s.shutDown d p, [.claimReleased]) :=
    releaseOutlet_eq (s := s.resting d p .shut .unasked) outlet claim
  have shuts := setDistrictState_unloaded (k := .shut) rfl outlet
  simp only [enterShut, ends, if_true, shuts, releases, stateNotice, stands, shut, district_resting]
  rfl

theorem pathWaits_of_channels (channels : t.channels = s.channels) (y : PathWait) (c : ChannelId) :
    t.pathWaits y c = s.pathWaits y c := by
  simp only [State.pathWaits, State.currentSlot, channel_of_channels channels, State.order, channels]

/-- No order waits for a claim: its release is told to nobody (R60, R83). -/
theorem handle_claimReleased_nobody (nobody : ∀ c, s.pathWaits .claim c = false) :
    handle .claimReleased s = (s, []) := by
  simp [handle, claimReleased, eachWaiting, nobody, allChannels]

theorem enterShut_takes (nobody : ∀ c, s.pathWaits .claim c = false) :
    Takes 2 told [.claimReleased, .notice (t.enters d p k)] s (s.notify (t.enters d p k)) :=
  .cons rfl (handle_claimReleased_nobody nobody) (.notice _ _)

theorem reported_of_channels (rest : s.atRest) (channels : t.channels = s.channels) :
    t.unreported .a = none ∧ t.unreported .b = none :=
  ⟨(unreported_congr channels .a).trans rest.2.1, (unreported_congr channels .b).trans rest.2.2⟩

/-- The notices of an event that the queue has room for. -/
theorem notices_of_room (l : List Notice) (room : s.link.queue.length + l.length ≤ 32) :
    (l.foldl State.notify s).link.notices = s.link.notices ++ l := by
  induction l generalizing s with
  | nil => exact (List.append_nil _).symm
  | cons n l ih =>
    have placed : (s.notify n).link.notices = s.link.notices ++ [n] :=
      (notices_notify s n).trans (if_pos (by rw [List.length_cons] at room; omega))
    have length : (s.notify n).link.queue.length = s.link.queue.length + 1 := by
      have counted := congrArg List.length placed
      rwa [LinkPort.notices, List.length_map, List.length_append, LinkPort.notices, List.length_map] at counted
    rw [List.foldl_cons, ih (by rw [List.length_cons] at room; omega), placed, List.append_assoc]
    rfl

end

end Sys2Proof.Machine
end

section
/-!
OPEN DISTRICT.
-/

namespace Sys2Proof.Machine

/-! ## OPEN DISTRICT (R128, R129, R146) -/

section
variable {tag a : Byte} {s t : State} {d : DistrictId} {p : OutletId} {k : Status} {e : Effect}

section
variable (free : s.free) (number : numberOf 6 a.toNat = some d)

theorem execOpenDistrict_badField (free : s.free) (nobody : numberOf 6 a.toNat = none) :
    execOpenDistrict tag [a] s = .next (s.answered 36 tag Status.badField.body) := by
  refine request_sized_answer free rfl ?_
  simp only [field_singleton, nobody]

include free number

theorem execOpenDistrict_wrongPhase (setup : s.control.phase = .setup) :
    execOpenDistrict tag [a] s = .next (s.answered 36 tag Status.wrongPhase.body) := by
  refine request_sized_answer free rfl ?_
  simp only [field_singleton, number]
  exact if_pos (by simp [running_eq_false (s := s.inHand) setup])

variable (run : s.control.phase = .run)
include run

theorem execOpenDistrict_noSuch (nowhere : s.outletOf d = none) :
    execOpenDistrict tag [a] s = .next (s.answered 36 tag Status.noSuch.body) := by
  have inHand : s.inHand.outletOf d = none := nowhere
  refine request_sized_answer free rfl ?_
  simp only [field_singleton, number, inHand]
  exact if_neg (by simp [running_eq_true (s := s.inHand) run])

variable (outlet : s.outletOf d = some p)
include outlet

theorem execOpenDistrict_settle (opens : openDistrict d p s.inHand = (k, e)) (settled : settle e = t) :
    execOpenDistrict tag [a] s = .next (t.answered 36 tag k.body) := by
  have inHand : s.inHand.outletOf d = some p := outlet
  refine request_sized_settle (e := e) free rfl ?_ settled
  simp only [field_singleton, number, inHand, opens]
  exact if_neg (by simp [running_eq_true (s := s.inHand) run])

theorem execOpenDistrict_refused (opens : openDistrict d p s.inHand = (k, s.inHand, [])) :
    execOpenDistrict tag [a] s = .next (s.answered 36 tag k.body) :=
  (execOpenDistrict_settle free number run outlet opens (settle_nil (s := s.inHand) free.1) :)

end

theorem openDistrict_works (busy : (s.district d).state ≠ .shut) (untripped : (s.district d).state ≠ .tripped) :
    openDistrict d p s = (.inUse, s, []) := by
  cases state : (s.district d).state with
  | shut => exact absurd state busy
  | tripped => exact absurd state untripped
  | _ => simp only [openDistrict, state]

theorem openDistrict_tripped (tripped : (s.district d).state = .tripped) : openDistrict d p s =
    if s.stands (districtValve p) .closed then beginMove d .opening [] s else (.inUse, s, []) := by
  simp only [openDistrict, tripped]

theorem claimRequest_faulted {c : Claim} {v : ValveId} (run : s.control.phase = .run)
    (faulted : (s.valve v).fault ≠ .noFault) : claimRequest c [v] s = (.faulted, s, []) := by
  simp [claimRequest, running_eq_true run, faulted]

theorem openDistrict_faulted (run : s.control.phase = .run) (shut : (s.district d).state = .shut)
    (faulted : (s.valve (districtValve p)).fault ≠ .noFault) : openDistrict d p s = (.faulted, s, []) := by
  simp only [openDistrict, shut, claimRequest_faulted run faulted]

theorem openDistrict_claims (run : s.control.phase = .run) (shut : (s.district d).state = .shut)
    (sound : (s.valve (districtValve p)).fault = .noFault) (free : (s.valve (districtValve p)).claim = .unclaimed)
    (queue : s.valves.queue = []) :
    openDistrict d p s = beginMove d .opening [] (s.putClaim (districtValve p) (.district d)) := by
  simp only [openDistrict, shut, claimRequest_one run sound free queue]

/-! ### A district that holds its valve opens -/

section
variable (outlet : s.outletOf d = some p) (claim : (s.valve (districtValve p)).claim = .district d)
variable (sound : (s.valve (districtValve p)).fault = .noFault) (still : s.valves.Resting)
include outlet claim sound still

/-- A valve that stands OPEN: the district is LIVE at once (R129). -/
theorem beginMove_lives (opened : (s.valve (districtValve p)).position = .opened) :
    beginMove d .opening [] s =
        (.ok, s.resting d p .opening .unasked, [.notice (s.enters d p .opening), .districtAsk d]) ∧
      Takes 4 false [.notice (s.enters d p .opening), .districtAsk d] (s.resting d p .opening .unasked)
        (((s.moving d p .opening .unasked).live d p).notify ((s.moving d p .opening .unasked).enters d p .live)) := by
  refine beginMove_done (.inl rfl) outlet (fun u same => ?_) ?_
  · have valve : u.valve (districtValve p) = s.valve (districtValve p) := by rw [State.valve, same]; rfl
    exact moveRequest_resting_done (same ▸ still) (by simp [Requester.holdsUnder, valve, claim]) (valve ▸ sound)
      (by rw [valve, opened]; rfl)
  · have lives : handle (.districtLive d) (s.moving d p .opening .unasked) = _ :=
      enterLive_eq outlet (congrArg _ district_moving)
    exact .cons rfl lives (.notice _ _)

/-- A valve that stands elsewhere: it is driven open (R129, R67, R68). -/
theorem beginMove_opens (closed : (s.valve (districtValve p)).position ≠ .opened)
    (away : (s.valve (districtValve p)).shown ≠ some .opened) (nobody : s.valves.refused = []) :
    beginMove d .opening [] s =
        (.accepted, s.resting d p .opening .unasked, [.notice (s.enters d p .opening), .districtAsk d]) ∧
      Takes 5 false [.notice (s.enters d p .opening), .districtAsk d] (s.resting d p .opening .unasked)
        ((s.moving d p .opening .answer).drive
          { valve := districtValve p, target := .opened, requesters := [.district d], protective := false }) := by
  have drives : Takes 3 false [.arbiter] ((s.moving d p .opening .answer).enqueue
      { valve := districtValve p, target := .opened, requesters := [.district d] }) _ :=
    arbiter_drives still nobody away
  refine beginMove_waits (a := .accepted) (m := .answer) (.inl rfl) outlet rfl (fun u same => ?_) drives
  have valve : u.valve (districtValve p) = s.valve (districtValve p) := by rw [State.valve, same]; rfl
  have asked := moveRequest_resting (s := u) (v := districtValve p) (t := .opened) (r := .district d) (same ▸ still)
    (by simp [Requester.holdsUnder, valve, claim]) (valve ▸ sound) (valve ▸ closed)
  exact asked.trans (by rw [State.enqueue, same]; rfl)

end

/-! ### The end of the event -/

section
variable (rest : s.atRest) (run : s.control.phase = .run) (outlet : s.outletOf d = some p)
variable (sound : (s.valve (districtValve p)).fault = .noFault) (still : s.valves.Resting)
include rest run outlet sound still

theorem openDistrict_lives (shut : (s.district d).state = .shut)
    (free : (s.valve (districtValve p)).claim = .unclaimed) (opened : (s.valve (districtValve p)).position = .opened) :
    let value := (s.district d).inForce.map fun i => i.value
    ∃ e, openDistrict d p s = (.ok, e) ∧ settle e = [Notice.districtState d (some p) .shut .opening value none,
      .districtState d (some p) .opening .live value none].foldl State.notify
        ((s.putClaim (districtValve p) (.district d)).goneLive d p) := by
  intro value
  obtain ⟨begins, words⟩ := beginMove_lives (d := d) (p := p)
    (s := s.putClaim (districtValve p) (.district d)) outlet (by simp)
    (by simpa using sound) ⟨still.main, still.protect, still.queue⟩
    (by simpa using opened)
  have first : (s.putClaim (districtValve p) (.district d)).enters d p .opening =
      .districtState d (some p) .shut .opening value none := by simp [State.enters, shut, value]
  have second : ((s.putClaim (districtValve p) (.district d)).moving d p .opening .unasked).enters d p .live =
      .districtState d (some p) .opening .live value none := by simp [State.enters, value]
  rw [second, live_moving, first] at words
  exact ⟨_, (openDistrict_claims run shut sound free still.queue).trans begins,
    first ▸ words.ends (by omega) rest.1 (List.cons_ne_nil _ _) (reported_of_channels rest (by simp))⟩

theorem openDistrict_opens (shut : (s.district d).state = .shut)
    (free : (s.valve (districtValve p)).claim = .unclaimed) (closed : (s.valve (districtValve p)).position = .closed)
    (away : (s.valve (districtValve p)).shown ≠ some .opened) (nobody : s.valves.refused = []) :
    ∃ e, openDistrict d p s = (.accepted, e) ∧ settle e =
      ((s.putClaim (districtValve p) (.district d)).moving d p .opening .answer).drive
        { valve := districtValve p, target := .opened, requesters := [.district d], protective := false } := by
  obtain ⟨begins, words⟩ := beginMove_opens (d := d) (p := p)
    (s := s.putClaim (districtValve p) (.district d)) outlet (by simp)
    (by simpa using sound) ⟨still.main, still.protect, still.queue⟩
    (by simp [closed]) (by simpa [Valve.shown] using away) nobody
  exact ⟨_, (openDistrict_claims run shut sound free still.queue).trans begins,
    words.ends (by omega) rest.1 (List.cons_ne_nil _ _) (reported_of_channels rest (by simp))⟩

omit run in
theorem openDistrict_reopens (tripped : (s.district d).state = .tripped)
    (claim : (s.valve (districtValve p)).claim = .district d) (closed : (s.valve (districtValve p)).position = .closed)
    (away : (s.valve (districtValve p)).shown ≠ some .opened) (nobody : s.valves.refused = []) :
    ∃ e, openDistrict d p s = (.accepted, e) ∧ settle e = (s.moving d p .opening .answer).drive
      { valve := districtValve p, target := .opened, requesters := [.district d], protective := false } := by
  obtain ⟨begins, words⟩ := beginMove_opens outlet claim sound still (by rw [closed]; nofun) away nobody
  have stands : s.stands (districtValve p) .closed = true := by simp [State.stands, closed, driven_of_idle still.main]
  exact ⟨_, (openDistrict_tripped tripped).trans ((if_pos stands).trans begins),
    words.ends (by omega) rest.1 (List.cons_ne_nil _ _) (reported_of_channels rest (by simp))⟩

end

end

/-- Settles O48. -/
theorem openDistrictOpens : Obligations.OpenDistrictOpens := by
  unfold Obligations.OpenDistrictOpens
  refine fun tag a s free => ⟨execOpenDistrict_badField free, fun d number =>
    ⟨execOpenDistrict_wrongPhase free number, execOpenDistrict_noSuch free number, fun p run outlet =>
      ⟨fun busy untripped => ?_, fun tripped away => ?_, fun shut faulted => ?_, ?_, ?_⟩⟩⟩
  · exact execOpenDistrict_refused free number run outlet (openDistrict_works (s := s.inHand) busy untripped)
  · have away' : ¬ s.inHand.stands (districtValve p) .closed = true := Bool.eq_false_iff.mp away
    exact execOpenDistrict_refused free number run outlet
      ((openDistrict_tripped (s := s.inHand) tripped).trans (if_neg away'))
  · exact execOpenDistrict_refused free number run outlet (openDistrict_faulted (s := s.inHand) run shut faulted)
  · intro shut sound unclaimed rest main protect queue nobody value lockout
    have still : s.valves.Resting := ⟨main, protect, queue⟩
    refine ⟨fun opened => ?_, fun closed away => ?_⟩
    · obtain ⟨e, opens, settled⟩ := openDistrict_lives (s := s.inHand) rest run outlet sound still shut unclaimed opened
      exact ⟨_, execOpenDistrict_settle free number run outlet opens settled, by simp; rfl, by simp; rfl, by simp,
        by simp, by simp, by simp, fun room => (notices_of_room _ (by simpa using room)).trans (by simp; rfl)⟩
    · obtain ⟨e, opens, settled⟩ := openDistrict_opens (s := s.inHand) rest run outlet sound still shut unclaimed closed
        away nobody
      refine ⟨_, execOpenDistrict_settle free number run outlet opens settled, by simp; rfl, ?_, by simp, by simp,
        by simp, by simp⟩
      rw [valves_drive_moving, State.putClaim, drive_putValve (d := ⟨districtValve p, _, _, _⟩)]
      rfl
  · intro tripped sound claim rest main protect queue nobody closed away
    obtain ⟨e, opens, settled⟩ := openDistrict_reopens (s := s.inHand) rest outlet sound ⟨main, protect, queue⟩ tripped
      claim closed away nobody
    exact ⟨_, execOpenDistrict_settle free number run outlet opens settled, by simp; rfl, valves_drive_moving _,
      by simp, by simp, by simp, by simp⟩

end Sys2Proof.Machine
end

section
/-!
SHUT DISTRICT.
-/

namespace Sys2Proof.Machine

/-! ## SHUT DISTRICT (R130, R131) -/

section
variable {tag a : Byte} {s t : State} {d : DistrictId} {p : OutletId} {k : Status} {e : Effect} {left : Nat}

section
variable (free : s.free) (number : numberOf 6 a.toNat = some d)

theorem execShutDistrict_badField (free : s.free) (nobody : numberOf 6 a.toNat = none) :
    execShutDistrict tag [a] s = .next (s.answered 37 tag Status.badField.body) := by
  refine request_sized_answer free rfl ?_
  simp only [field_singleton, nobody]

include free number

theorem execShutDistrict_wrongPhase (setup : s.control.phase = .setup) :
    execShutDistrict tag [a] s = .next (s.answered 37 tag Status.wrongPhase.body) := by
  refine request_sized_answer free rfl ?_
  simp only [field_singleton, number]
  exact if_pos (by simp [running_eq_false (s := s.inHand) setup])

variable (run : s.control.phase = .run)
include run

theorem execShutDistrict_settle (shuts : shutDistrict d s.inHand = (k, e)) (settled : settle e = t) :
    execShutDistrict tag [a] s = .next (t.answered 37 tag k.body) := by
  refine request_sized_settle (e := e) free rfl ?_ settled
  simp only [field_singleton, number, shuts]
  exact if_neg (by simp [running_eq_true (s := s.inHand) run])

theorem execShutDistrict_still (shuts : shutDistrict d s.inHand = (.ok, s.inHand, [])) :
    execShutDistrict tag [a] s = .next (s.answered 37 tag Status.ok.body) :=
  (execShutDistrict_settle free number run shuts (settle_nil (s := s.inHand) free.1) :)

theorem execShutDistrict_kept (shuts : shutDistrict d s.inHand = (k, e)) (quiet : Quiet s.inHand e)
    (rest : e.1.backlog = []) :
    ∃ t, execShutDistrict tag [a] s = .next t ∧ Kept (s.answered 37 tag k.body) t := by
  refine request_sized_quiet (e := e) free rfl ?_ quiet.kept rest quiet.inner
  simp only [field_singleton, number, shuts]
  exact if_neg (by simp [running_eq_true (s := s.inHand) run])

end

theorem shutDistrict_nowhere (nowhere : s.outletOf d = none) : shutDistrict d s = (.ok, s, []) :=
  if_pos (by rw [nowhere]; rfl)

theorem shutDistrict_still (still : (s.district d).state = .shut ∨ (s.district d).state = .closing) :
    shutDistrict d s = (.ok, s, []) := by
  rcases still with state | state <;> simp [shutDistrict, state]

section
variable (outlet : s.outletOf d ≠ none)
include outlet

theorem shutDistrict_fault (fault : (s.district d).state = .fault) : shutDistrict d s = (.ok, enterShut d s) := by
  simp [shutDistrict, Option.isNone_iff_eq_none, outlet, fault]

theorem shutDistrict_moves (moves : (s.district d).state = .opening ∨ (s.district d).state = .live
    ∨ (s.district d).state = .warn ∨ (s.district d).state = .tripped) :
    shutDistrict d s = beginMove d .closing [] s := by
  rcases moves with state | state | state | state <;> simp [shutDistrict, Option.isNone_iff_eq_none, outlet, state]

end

/-! ### A move request that meets a move of the same valve (R61, R62) -/

section
variable {v : ValveId} {r : Requester} {x : Drive}

theorem moveRequest_driving (holds : r.holdsUnder (s.valve v).claim = true) (sound : (s.valve v).fault = .noFault)
    (main : s.valves.main = .driving x left) (own : x.valve = v) : moveRequest r v .closed s =
      if x.target = .closed then (.accepted, s.putValves { s.valves with main := s.valves.main.join r }, [])
      else (.inUse, s, []) := by
  have driven : s.driveOf v = some x := by rw [driveOf_of_driving main, if_pos own]
  simp [moveRequest, holds, sound, driven]

/-- The opposite move that was queued for the requester alone gives way to its own (R62). -/
theorem moveRequest_replaces (holds : r.holdsUnder (s.valve v).claim = true) (sound : (s.valve v).fault = .noFault)
    (main : s.valves.main = .driving x left) (other : x.valve ≠ v) (protect : s.valves.protect = [])
    (queue : s.valves.queue = [{ valve := v, target := .opened, requesters := [r] }]) :
    moveRequest r v .closed s = (.accepted, s.putValves { s.valves with
      queue := [{ valve := v, target := .closed, requesters := [r] }] }, []) := by
  have undriven : s.driveOf v = none := by rw [driveOf_of_driving main, if_neg other]
  have queued : s.queueEntry v = some { valve := v, target := .opened, requesters := [r] } := by
    simp [State.queueEntry, queue]
  have room : placesFull [] r.cls = false := by cases r <;> rfl
  simp [moveRequest, holds, sound, undriven, protectEntry_of_empty protect, queued, mergeRequest, dropEntry, queue,
    newEntry, room, arbiterCall, main]
  rfl

end

/-! ### A district that closes -/

section
variable (rest : s.atRest) (outlet : s.outletOf d = some p)
include rest outlet

section
variable (claim : (s.valve (districtValve p)).claim = .district d)
include claim

/-- A district in FAULT is SHUT, its claim released (R130). -/
theorem shutDistrict_releases (fault : (s.district d).state = .fault) (nobody : ∀ c, s.pathWaits .claim c = false) :
    ∃ e, shutDistrict d s = (.ok, e) ∧ settle e = (s.shutDown d p).notify (s.enters d p .shut) := by
  have words : Takes 2 false _ _ _ :=
    enterShut_takes (s := s.shutDown d p) (t := s) (d := d) (p := p) (k := .shut) nobody
  refine ⟨_, (shutDistrict_fault (by simp [outlet]) fault).trans (by rw [enterShut_eq outlet (.inr fault) claim]), ?_⟩
  exact words.ends (by omega) rest.1 (List.cons_ne_nil _ _) (reported_of_channels rest (by simp))

variable (sound : (s.valve (districtValve p)).fault = .noFault)
include sound

/-- A valve that stands OPEN is driven closed (R131, R67, R68). -/
theorem shutDistrict_closes (loaded : (s.district d).state = .live ∨ (s.district d).state = .warn)
    (still : s.valves.Resting) (nobody : s.valves.refused = [])
    (opened : (s.valve (districtValve p)).position = .opened)
    (away : (s.valve (districtValve p)).shown ≠ some .closed) :
    ∃ e, shutDistrict d s = (.accepted, e) ∧ settle e = (s.moving d p .closing .answer).drive
      { valve := districtValve p, target := .closed, requesters := [.district d], protective := false } := by
  have drives : Takes 3 false [.arbiter] ((s.moving d p .closing .answer).enqueue
      { valve := districtValve p, target := .closed, requesters := [.district d] }) _ :=
    arbiter_drives still nobody away
  obtain ⟨begins, words⟩ := beginMove_waits (a := .accepted) (.inr rfl) outlet rfl (fun u same => by
    have valve : u.valve (districtValve p) = s.valve (districtValve p) := by rw [State.valve, same]; rfl
    have asked := moveRequest_resting (s := u) (v := districtValve p) (t := .closed) (r := .district d) (same ▸ still)
      (by simp [Requester.holdsUnder, valve, claim]) (valve ▸ sound) (by rw [valve, opened]; nofun)
    exact asked.trans (by rw [State.enqueue, same]; rfl)) drives
  exact ⟨_, (shutDistrict_moves (by simp [outlet]) (.inr (loaded.imp_right .inl))).trans begins,
    words.ends (by omega) rest.1 (List.cons_ne_nil _ _) (reported_of_channels rest (by simp))⟩

omit claim sound in
/-- A district whose asking is answered at once, but not DONE: the main goes on with what it does. -/
theorem shutDistrict_waits {m : MoveWait} {y : Answer} {w : ValveUnit} (moves : (s.district d).state = .opening
    ∨ (s.district d).state = .live ∨ (s.district d).state = .warn ∨ (s.district d).state = .tripped)
    (waits : y.wait = some m) (ask : ∀ u : State, u.valves = s.valves →
      moveRequest (.district d) (districtValve p) .closed u = (y, u.putValves w, [])) :
    ∃ e, shutDistrict d s = (.accepted, e) ∧ settle e = (s.moving d p .closing m).putValves w := by
  obtain ⟨begins, words⟩ := beginMove_waits (.inr rfl) outlet waits ask (.nil _ _)
  exact ⟨_, (shutDistrict_moves (by simp [outlet]) moves).trans begins,
    words.ends (by omega) rest.1 (List.cons_ne_nil _ _) (reported_of_channels rest (by simp))⟩

/-- The valve of a TRIPPED district that stands CLOSED is released at once (R130). -/
theorem shutDistrict_ends (tripped : (s.district d).state = .tripped) (still : s.valves.Resting)
    (closed : (s.valve (districtValve p)).position = .closed) (nobody : ∀ c, s.pathWaits .claim c = false) :
    ∃ e, shutDistrict d s = (.ok, e) ∧ settle e = ((s.moving d p .closing .unasked).shutDown d p).notify
      ((s.moving d p .closing .unasked).enters d p .shut) := by
  have ends : handle (.districtShut d) (s.moving d p .closing .unasked) = _ :=
    enterShut_eq (p := p) outlet (.inl (congrArg _ district_moving)) claim
  have shuts : Takes 3 false [.districtShut d] (s.moving d p .closing .unasked) _ := .cons rfl ends
    (enterShut_takes (s := (s.moving d p .closing .unasked).shutDown d p) (t := s.moving d p .closing .unasked)
      fun c => (pathWaits_of_channels (by simp) _ _).trans (nobody c))
  obtain ⟨begins, words⟩ := beginMove_done (.inr rfl) outlet (fun u same => by
    have valve : u.valve (districtValve p) = s.valve (districtValve p) := by rw [State.valve, same]; rfl
    exact moveRequest_resting_done (same ▸ still) (by simp [Requester.holdsUnder, valve, claim]) (valve ▸ sound)
      (by rw [valve, closed]; rfl)) shuts
  exact ⟨_, (shutDistrict_moves (by simp [outlet]) (.inr (.inr (.inr tripped)))).trans begins,
    words.ends (by omega) rest.1 (List.cons_ne_nil _ _) (reported_of_channels rest (by simp))⟩

end

end

end

/-- Settles O49. -/
theorem shutDistrictCloses : Obligations.ShutDistrictCloses := by
  unfold Obligations.ShutDistrictCloses
  refine fun tag a s free => ⟨execShutDistrict_badField free, fun d number =>
    ⟨execShutDistrict_wrongPhase free number, fun run => ⟨fun nowhere => ?_, fun still => ?_, fun outlet fault => ?_,
      fun p outlet rest claim => ⟨fun fault nobodyWaits => ?_, fun sound => ⟨?_, ?_, ?_, ?_, ?_⟩⟩⟩⟩⟩
  · exact execShutDistrict_still free number run (shutDistrict_nowhere (s := s.inHand) nowhere)
  · exact execShutDistrict_still free number run (shutDistrict_still (s := s.inHand) still)
  · exact execShutDistrict_kept free number run (shutDistrict_fault (s := s.inHand) outlet fault) (enterShut_quiet _ _)
      ((aside_enterShut ..).1.trans free.1)
  · obtain ⟨e, shuts, settled⟩ := shutDistrict_releases (s := s.inHand) rest outlet claim fault nobodyWaits
    exact ⟨_, execShutDistrict_settle free number run shuts settled, by simp; rfl, by simp [valves_shutDown]; rfl,
      by simp, by simp, by simp, by simp⟩
  · intro loaded main protect queue nobody opened away
    obtain ⟨e, shuts, settled⟩ := shutDistrict_closes (s := s.inHand) rest outlet claim sound loaded
      ⟨main, protect, queue⟩ nobody opened away
    exact ⟨_, execShutDistrict_settle free number run shuts settled, by simp; rfl, valves_drive_moving _, by simp,
      by simp, by simp, by simp⟩
  · intro left opening main
    obtain ⟨e, shuts, settled⟩ := shutDistrict_waits (s := s.inHand) (m := .drive) (w := s.valves) rest outlet
      (.inl opening) (y := .inUse) rfl fun u same => by
        have valve : u.valve (districtValve p) = s.valve (districtValve p) := by rw [State.valve, same]; rfl
        have asked := moveRequest_driving (s := u) (r := .district d)
          (by simp [Requester.holdsUnder, valve, claim]) (valve ▸ sound) ((congrArg _ same).trans main) rfl
        exact asked.trans (by rw [if_neg nofun, ← show u.valves = s.valves from same]; rfl)
    exact ⟨_, execShutDistrict_settle free number run shuts settled, by simp; rfl, by simp, by simp, by simp,
      by simp, by simp⟩
  · intro e left opening main other protect queue
    obtain ⟨e, shuts, settled⟩ := shutDistrict_waits (s := s.inHand) (m := .answer) (w := { s.valves with
      queue := [{ valve := districtValve p, target := .closed, requesters := [.district d] }] }) rest outlet
      (.inl opening) (y := .accepted) rfl fun u same => by
        have valve : u.valve (districtValve p) = s.valve (districtValve p) := by rw [State.valve, same]; rfl
        have asked := moveRequest_replaces (s := u) (r := .district d)
          (by simp [Requester.holdsUnder, valve, claim]) (valve ▸ sound) ((congrArg _ same).trans main) other
          ((congrArg _ same).trans protect) ((congrArg _ same).trans queue)
        exact asked.trans (by rw [same]; rfl)
    exact ⟨_, execShutDistrict_settle free number run shuts settled, by simp; rfl, by simp, by simp, by simp,
      by simp, by simp⟩
  · intro left tripped main
    obtain ⟨e, shuts, settled⟩ := shutDistrict_waits (s := s.inHand) (m := .answer) (w := { s.valves with
      main := .driving { valve := districtValve p, target := .closed, requesters := [.district d], protective := true }
        left }) rest outlet (.inr (.inr (.inr tripped))) (y := .accepted) rfl fun u same => by
        have valve : u.valve (districtValve p) = s.valve (districtValve p) := by rw [State.valve, same]; rfl
        have asked := moveRequest_driving (s := u) (r := .district d)
          (by simp [Requester.holdsUnder, valve, claim]) (valve ▸ sound) ((congrArg _ same).trans main) rfl
        exact asked.trans (by rw [if_pos rfl, same, show s.inHand.valves.main = _ from main]; rfl)
    exact ⟨_, execShutDistrict_settle free number run shuts settled, by simp; rfl, by simp, by simp, by simp,
      by simp, by simp⟩
  · intro tripped main protect queue closed nobodyWaits
    obtain ⟨e, shuts, settled⟩ := shutDistrict_ends (s := s.inHand) rest outlet claim sound tripped
      ⟨main, protect, queue⟩ closed nobodyWaits
    exact ⟨_, execShutDistrict_settle free number run shuts settled, by simp [resting_moving]; rfl,
      by simp [valves_shutDown]; rfl, by simp, by simp, by simp, by simp⟩

end Sys2Proof.Machine
end

section
/-!
The closes of a TRANSFER that ends.
-/

namespace Sys2Proof.Machine

/-! ## The closes of a TRANSFER that ends, asked in one event (R98) -/

/-- A close that a channel asks. -/
def closeEntry (c : ChannelId) (v : ValveId) : QueueEntry :=
  { valve := v, target := .closed, requesters := [.channel c] }

/-- A close that a channel has asked, and awaits. -/
def closeWork (v : ValveId) : Work := { valve := v, kind := .close, wait := .answer }

/-- The closes of some valves waiting in an empty move queue, asked for a channel that awaits them. -/
def State.closesAsked (s : State) (c : ChannelId) (vs : List ValveId) : State :=
  (s.putValves { s.valves with queue := vs.map (closeEntry c) }).putChannel c
    { s.channel c with work := vs.map closeWork }

section
variable {s : State} {c : ChannelId} {n : OrderId} {h : HolderId} {v : ValveId} {vs : List ValveId} {told : Bool}

@[simp] theorem channel_closesAsked (e : ChannelId) : (s.closesAsked c vs).channel e =
    if c = e then { s.channel c with work := vs.map closeWork } else s.channel e :=
  State.channel_putChannel _ _ _ _

@[simp] theorem order_closesAsked (m : OrderId) : (s.closesAsked c vs).order m = s.order m := rfl
@[simp] theorem valve_closesAsked (w : ValveId) : (s.closesAsked c vs).valve w = s.valve w := rfl

theorem valves_closesAsked : (s.closesAsked c vs).valves = { s.valves with queue := vs.map (closeEntry c) } := rfl

theorem cls_closeEntry : (closeEntry c v).cls = .channel := rfl
theorem rank_closeEntry : (closeEntry c v).rank = 1 := rfl

theorem limitedCount_closes : limitedCount (vs.map (closeEntry c)) = vs.length := by
  have all : (vs.map (closeEntry c)).filter (fun e => e.cls.limited) = vs.map (closeEntry c) := by
    refine List.filter_eq_self.mpr fun e asked => ?_
    obtain ⟨v, _, rfl⟩ := List.mem_map.mp asked
    rfl
  rw [limitedCount, all, List.length_map]

theorem placesFull_closes (few : vs.length < 8) : placesFull (vs.map (closeEntry c)) .channel = false := by
  simp only [placesFull, limitedCount_closes, List.length_map, Config.queuePlaces, Config.limitedPlaces,
    decide_eq_false (show ¬16 ≤ vs.length by omega), decide_eq_false (show ¬8 ≤ vs.length by omega)]
  rfl

theorem dropWork_closes (new : v ∉ vs) : dropWork (vs.map closeWork) v = vs.map closeWork := by
  refine List.filter_eq_self.mpr fun w asked => ?_
  obtain ⟨u, among, rfl⟩ := List.mem_map.mp asked
  exact decide_eq_true fun same : u = v => new (same ▸ among)

theorem queueEntry_closesAsked (new : v ∉ vs) : (s.closesAsked c vs).queueEntry v = none := by
  refine List.find?_eq_none.mpr fun e asked => ?_
  obtain ⟨u, among, rfl⟩ := List.mem_map.mp asked
  exact fun found => new (of_decide_eq_true found ▸ among)

/-- The channel awaits one more close, which has joined the queue. -/
theorem closesAsked_setWork (new : v ∉ vs) :
    ((s.closesAsked c vs).enqueue (closeEntry c v)).setWork c v .close .answer = s.closesAsked c (vs ++ [v]) := by
  have queue : (vs ++ [v]).map (closeEntry c) = vs.map (closeEntry c) ++ [closeEntry c v] := by simp
  have queued : (s.closesAsked c vs).enqueue (closeEntry c v) = (s.putValves { s.valves with
      queue := (vs ++ [v]).map (closeEntry c) }).putChannel c { s.channel c with work := vs.map closeWork } := by
    rw [queue]
    rfl
  rw [State.setWork, State.putWork, queued, State.putChannel_putChannel, State.channel_putChannel, if_pos rfl,
    dropWork_closes new]
  simp [State.closesAsked, closeWork]

/-- A close of one more valve of the path (R98). -/
theorem askClose_closesAsked (idle : s.valves.main = .idle) (protect : s.valves.protect = []) (new : v ∉ vs)
    (few : vs.length < 8) (claim : (s.valve v).claim = .channel c) (sound : (s.valve v).fault = .noFault)
    (opened : (s.valve v).position = .opened) :
    askClose c v (s.closesAsked c vs) = (s.closesAsked c (vs ++ [v]), [.arbiter]) := by
  have still : (s.closesAsked c vs).driven v = false := driven_of_idle idle
  have asked := moveRequest_enqueue (s := s.closesAsked c vs) (r := .channel c) (v := v) (t := .closed)
    (by simp [Requester.holdsUnder, claim]) (by simpa using sound)
    (shielded_of_undriven (protectEntry_of_empty protect) still) still (queueEntry_closesAsked new)
    (by simp [opened, limitPosition]) (placesFull_closes few)
  rw [arbiterCall_of_idle (s := s.closesAsked c vs) idle] at asked
  simp only [askClose, valve_closesAsked, claim, ne_eq, not_true, if_false, asked, Answer.workWait]
  exact congrArg (·, _) (closesAsked_setWork new)

/-- A move queue of closes asked for one channel: the first is driven (R67). -/
theorem bestEntry_closes : bestEntry ((v :: vs).map (closeEntry c)) = some (closeEntry c v) := by
  induction vs generalizing v with
  | nil => rfl
  | cons w vs ih =>
    rw [List.map_cons, bestEntry, ih]
    rfl

theorem dropEntry_closes (new : v ∉ vs) : dropEntry ((v :: vs).map (closeEntry c)) v = vs.map (closeEntry c) := by
  have own : (decide ((closeEntry c v).valve ≠ v)) = false := decide_eq_false (fun other => other rfl)
  rw [List.map_cons, dropEntry, List.filter_cons_of_neg (by rw [own]; nofun)]
  refine List.filter_eq_self.mpr fun e asked => ?_
  obtain ⟨u, among, rfl⟩ := List.mem_map.mp asked
  exact decide_eq_true fun same : u = v => new (same ▸ among)

/-- The arbiter's choice is driven, nobody waiting for the place that it frees (R67, R68). -/
theorem arbiter_picks {e : QueueEntry} (idle : s.valves.main = .idle) (protect : s.valves.protect = [])
    (nobody : s.valves.refused = []) (best : bestEntry s.valves.queue = some e)
    (away : (s.valve e.valve).shown ≠ some e.target) : Takes 3 told [.arbiter] s
      ((s.putValves { s.valves with queue := dropEntry s.valves.queue e.valve }).drive e.drive) := by
  have chooses : handle .arbiter s = ((s.putValves { s.valves with
      queue := dropEntry s.valves.queue e.valve, main := .chosen e.drive }), [.placeFreed, .driveStart]) := by
    simp only [handle, arbiterChoose, idle, protect, best, if_true]
    rfl
  exact .cons rfl chooses (.cons rfl (freePlace_of_nobody nobody) (.cons rfl (startDrive_of_chosen
    (s := s.putValves { s.valves with queue := dropEntry s.valves.queue e.valve }) (d := e.drive) away) (.nil _ _)))

/-- The closes of some valves behind a first that has left the queue. -/
def State.closesBehind (s : State) (c : ChannelId) (v : ValveId) (vs : List ValveId) : State :=
  (s.putValves { s.valves with queue := vs.map (closeEntry c) }).putChannel c
    { s.channel c with work := (v :: vs).map closeWork }

theorem arbiter_closes (idle : s.valves.main = .idle) (protect : s.valves.protect = [])
    (nobody : s.valves.refused = []) (new : v ∉ vs) (away : (s.valve v).shown ≠ some .closed) :
    Takes 3 told [.arbiter] (s.closesAsked c (v :: vs)) ((s.closesBehind c v vs).drive (closeEntry c v).drive) := by
  have picks := arbiter_picks (told := told) (s := s.closesAsked c (v :: vs)) idle protect nobody bestEntry_closes away
  have left : (s.closesAsked c (v :: vs)).putValves { (s.closesAsked c (v :: vs)).valves with
      queue := dropEntry (s.closesAsked c (v :: vs)).valves.queue v } = s.closesBehind c v vs := by
    rw [valves_closesAsked, dropEntry_closes new]
    rfl
  rw [← left]
  exact picks

/-- The arbiter's call finds the main driving. -/
theorem handle_arbiter_driving {d : Drive} {left : Nat} (main : s.valves.main = .driving d left) :
    handle .arbiter s = (s, []) := if_neg (by rw [main]; nofun)

/-- An order that still holds a claim is not posted (R99). -/
theorem handle_postIfFree_held (current : (s.channel c).current = some n) (held : (s.valve v).claim = .channel c) :
    handle (.postIfFree c) s = (s, []) := by
  have some : s.claimed (.channel c) ≠ [] := fun none => unclaimed_of_claimed none held
  simp only [handle, postIfFree, currentSlot_of_current current]
  cases (s.channel c).ending with
  | none => rfl
  | some pending => exact if_pos (.inr some)

/-- The path of a TRANSFER, in the order in which its closes are asked (R98). -/
def transferPath (h : HolderId) : List ValveId := [deliveryValve, suctionValve, inletValve h]

theorem nodup_transferPath : (transferPath h).Nodup := by
  revert h
  decide

/-- A TRANSFER with CLOSE asks the three closes of its path (R98). -/
theorem askCloses_transfer (current : (s.channel c).current = some n) (status : (s.order n).status = .closing)
    (kind : (s.order n).order.kind = some .transfer) (dest : (s.order n).order.dest = some h)
    (shut : (s.order n).order.disposition = some .close) (idle : s.valves.main = .idle)
    (protect : s.valves.protect = []) (queue : s.valves.queue = [])
    (path : ∀ v ∈ transferPath h, (s.valve v).claim = .channel c ∧ (s.valve v).fault = .noFault
      ∧ (s.valve v).position = .opened) :
    askCloses c s = (s.closesAsked c (transferPath h), [.arbiter, .arbiter, .arbiter, .postIfFree c]) := by
  have start : s.putWork c [] = s.closesAsked c [] := by
    rw [State.closesAsked, List.map_nil, ← queue]
    rfl
  have nodup := nodup_transferPath (h := h)
  simp only [transferPath, List.nodup_cons, List.mem_cons, List.not_mem_nil, or_false, not_or] at nodup
  simp only [transferPath, List.forall_mem_cons] at path
  obtain ⟨⟨claim, sound, opened⟩, ⟨claim', sound', opened'⟩, ⟨claim'', sound'', opened''⟩, _⟩ := path
  have first := askClose_closesAsked (vs := []) idle protect (by simp) (by simp) claim sound opened
  have second := askClose_closesAsked (vs := [deliveryValve]) idle protect (by simpa using Ne.symm nodup.1.1) (by simp)
    claim' sound' opened'
  have third := askClose_closesAsked (vs := [deliveryValve, suctionValve]) idle protect
    (by simpa using ⟨Ne.symm nodup.1.2, Ne.symm nodup.2.1⟩) (by simp) claim'' sound'' opened''
  simp only [askCloses, currentSlot_of_current current, status, kind, dest, shut, start, first, Effect.andThen,
    List.nil_append, second, List.cons_append, third]
  simp [transferPath]

/-- A FLOWING TRANSFER that holds its pin ends with its booster off (R87, R98). -/
theorem endOrder_transfer {k : OrderStatus} {cause : EndCause} (current : (s.channel c).current = some n)
    (flowing : (s.order n).status = .flowing) (kind : (s.order n).order.kind = some .transfer)
    (pin : s.holdsPin c = true) (change : s.selector.change = none) : endOrder c k cause s =
      ((s.closing c n k cause).setBooster false, [.releasePin c, .askCloses c]) := by
  simp only [endOrder, currentSlot_of_current current, if_true, kind, flowing, and_self, pin]
  simp [forgetServed, change, State.closing, State.setBooster, OrderStatus.working]

end

end Sys2Proof.Machine
end

section
/-!
METER PULSE.
-/

namespace Sys2Proof.Machine

/-! ## METER PULSE (R2, R88, R151, R168, R169) -/

section
variable {s t : State} {m : MeterId} {i : HalfId} {x : SourceId} {c : ChannelId} {n : OrderId} {w : Nat}

theorem takePulse_setup (setup : s.control.phase = .setup) : takePulse m s = (s, []) :=
  if_pos (by simp [running_eq_false setup])

/-- A pulse's weight in its column of a half (R151). -/
def State.counts (s : State) (m : MeterId) (i : HalfId) : State :=
  let col := meterColumn s.settings.map m
  s.putHalf i { s.half i with
    columns := (s.half i).columns.set col.val (capVolume ((s.half i).columns[col.val] + s.settings.weights[m])) }

/-- A pulse's weight in the take (R168). -/
def State.takes (s : State) (m : MeterId) : State :=
  s.putAccounts { s.accounts with take := capVolume (s.accounts.take + s.settings.weights[m]) }

@[simp] theorem units_counts : (s.counts m i).settings = s.settings ∧ (s.counts m i).channels = s.channels
    ∧ (s.counts m i).valves = s.valves ∧ (s.counts m i).stock = s.stock ∧ (s.counts m i).selector = s.selector
    ∧ (s.counts m i).link = s.link ∧ (s.counts m i).control = s.control ∧ (s.counts m i).backlog = s.backlog
    ∧ (s.counts m i).accounts.take = s.accounts.take ∧ (s.counts m i).accounts.cut = s.accounts.cut :=
  ⟨rfl, rfl, rfl, rfl, rfl, rfl, rfl, rfl, rfl, rfl⟩

theorem countPulse_eq (filling : s.halfIn .filling = some i) :
    countPulse m s.settings.weights[m] s = s.counts m i := by
  simp only [countPulse, filling]
  rfl

theorem contractMeter_none (other : ¬∃ x, s.settings.source = some x ∧ x.val = m.val) : s.contractMeter m = none := by
  simp only [State.contractMeter, Option.bind_eq_none_iff]
  exact fun x source => if_neg fun same => other ⟨x, source, same⟩

theorem contractMeter_some (source : s.settings.source = some x) (same : x.val = m.val) :
    s.contractMeter m = some x := by
  simp [State.contractMeter, source, same]

section
variable (run : s.control.phase = .run) (filling : s.halfIn .filling = some i)
include run filling

theorem takePulse_other (other : ¬∃ x, s.settings.source = some x ∧ x.val = m.val) : takePulse m s =
    (s.counts m i, if m.val = 10 then [.transferPulse s.settings.weights[m]] else []) := by
  have none : (s.counts m i).contractMeter m = none := contractMeter_none other
  simp only [takePulse, running_eq_true run, countPulse_eq filling, contractPulse, none]
  rfl

theorem takePulse_source (source : s.settings.source = some x) (same : x.val = m.val) : takePulse m s =
    if !s.accounts.cut && decide (s.settings.cap ≤ capVolume (s.accounts.take + s.settings.weights[m])) then
      cutContract x ((s.counts m i).takes m) else ((s.counts m i).takes m, []) := by
  have some : (s.counts m i).contractMeter m = some x := contractMeter_some source same
  have low : m.val ≠ 10 := by omega
  simp only [takePulse, running_eq_true run, countPulse_eq filling, contractPulse, some, if_neg low, List.append_nil]
  rfl

theorem takePulse_spared (source : s.settings.source = some x) (same : x.val = m.val)
    (spared : capVolume (s.accounts.take + s.settings.weights[m]) < s.settings.cap ∨ s.accounts.cut = true) :
    takePulse m s = ((s.counts m i).takes m, []) := by
  rw [takePulse_source run filling source same]
  refine if_neg ?_
  rcases spared with below | cut
  · rw [decide_eq_false (Nat.not_le.mpr below), Bool.and_false]
    nofun
  · simp [cut]

theorem takePulse_cuts (source : s.settings.source = some x) (same : x.val = m.val) (uncut : s.accounts.cut = false)
    (reached : s.settings.cap ≤ capVolume (s.accounts.take + s.settings.weights[m])) :
    takePulse m s = cutContract x ((s.counts m i).takes m) := by
  rw [takePulse_source run filling source same]
  exact if_pos (by rw [uncut, decide_eq_true reached]; rfl)

end

/-- The state whose facts a pulse keeps. -/
theorem takePulse_kept (run : s.control.phase = .run) (filling : s.halfIn .filling = some i) :
    Kept (if decide (s.settings.source.any fun x => x.val = m.val) then (s.counts m i).takes m else s.counts m i)
      (takePulse m s).1 := by
  by_cases contract : ∃ x, s.settings.source = some x ∧ x.val = m.val
  · obtain ⟨x, source, same⟩ := contract
    rw [if_pos (by simp [source, same]), takePulse_source run filling source same]
    split
    · exact Kept.putAccounts rfl rfl (List.prefix_refl _) id rfl
    · exact Kept.refl _
  · have none : ¬ decide (s.settings.source.any fun x => decide (x.val = m.val)) = true := by
      simpa [Option.any_eq_true] using contract
    rw [if_neg none, takePulse_other run filling contract]
    exact Kept.refl _

/-! ### A pulse of the M11 meter (R88) -/

theorem flowingTransfer_iff (flowing : s.flowingTransfer = some c) (current : (s.channel c).current = some n) :
    (s.order n).order.kind = some .transfer ∧ (s.order n).status = .flowing := by
  have found := List.find?_some flowing
  simpa [currentSlot_of_current current] using found

theorem flowingTransfer_of_channels (channels : t.channels = s.channels) : t.flowingTransfer = s.flowingTransfer := by
  simp only [State.flowingTransfer, State.currentSlot, channel_of_channels channels, order_of_channels channels]

/-- A weight in the counted volume of an order (R88). -/
def State.adds (s : State) (n : OrderId) (w : Nat) : State :=
  s.putOrder n { s.order n with counted := (s.order n).counted + w }

section
variable (flowing : s.flowingTransfer = some c) (current : (s.channel c).current = some n)
include flowing current

theorem transferPulse_counts (short : (s.order n).counted + w < (s.order n).order.target) :
    transferPulse w s = (s.adds n w, []) := by
  simp only [transferPulse, flowing, currentSlot_of_current current, if_neg (Nat.not_le.mpr short)]
  rfl

theorem transferPulse_ends (reached : (s.order n).order.target ≤ (s.order n).counted + w) :
    transferPulse w s = endOrder c .done .target (s.adds n w) := by
  simp only [transferPulse, flowing, currentSlot_of_current current, if_pos reached]
  rfl

end

theorem unreported_adds (e : ChannelId) : (s.adds n w).unreported e = s.unreported e :=
  unreported_of_alike rfl rfl fun k => by
    by_cases same : n = k
    · subst same
      simp [State.adds]
    · simp [State.adds, same]

theorem reported_of_adds (rest : s.unreported .a = none ∧ s.unreported .b = none) :
    (s.adds n w).unreported .a = none ∧ (s.adds n w).unreported .b = none :=
  ⟨(unreported_adds .a).trans rest.1, (unreported_adds .b).trans rest.2⟩

/-! ### A pulse that completes a TRANSFER (R88, R98) -/

/-- A TRANSFER in CLOSING, DONE with TARGET, its booster off and its pin released. -/
def State.completed (s : State) (c : ChannelId) (n : OrderId) : State :=
  ((s.closing c n .done .target).setBooster false).unpinned

theorem channel_completed (running : (s.channel c).state = .running) : (s.completed c n).channel c =
    { s.channel c with
      ending := some (.done, .target), pathTimer := none, limitTimer := none, waitTimer := none
      pathWait := .nothing } := by
  simp [State.completed, State.unpinned, State.closing, running]

theorem channel_completed_other : (s.completed c n).channel c.other = s.channel c.other := by
  simp [State.completed, State.unpinned, State.closing]

theorem order_completed : (s.completed c n).order n = { s.order n with status := .closing } := by
  simp [State.completed, State.unpinned, State.closing]

@[simp] theorem units_completed : (s.completed c n).settings = s.settings ∧ (s.completed c n).valves = s.valves
    ∧ (s.completed c n).stock = s.stock ∧ (s.completed c n).selector = { s.selector with pin := none }
    ∧ (s.completed c n).link = s.link ∧ (s.completed c n).control = s.control
    ∧ (s.completed c n).channels.booster = false := by
  simp [State.completed, State.unpinned, State.closing, State.setBooster]

/-- The closes of a TRANSFER's path with none begun, the first of them driven. -/
def State.closingPath (s : State) (c : ChannelId) (h : HolderId) : State :=
  (s.closesBehind c deliveryValve [suctionValve, inletValve h]).drive (closeEntry c deliveryValve).drive

section
variable {h : HolderId}

theorem units_closingPath : (s.closingPath c h).settings = s.settings ∧ (s.closingPath c h).stock = s.stock
    ∧ (s.closingPath c h).selector = s.selector ∧ (s.closingPath c h).link = s.link
    ∧ (s.closingPath c h).channels.booster = s.channels.booster ∧ (s.closingPath c h).order n = s.order n :=
  ⟨rfl, rfl, rfl, rfl, rfl, rfl⟩

theorem channel_closingPath (e : ChannelId) : (s.closingPath c h).channel e =
    if c = e then { s.channel c with work := (transferPath h).map closeWork } else s.channel e :=
  State.channel_putChannel _ _ _ _

theorem valves_closingPath : (s.closingPath c h).valves =
    { (s.putValve deliveryValve { s.valve deliveryValve with position := .movingClosed }).valves with
      queue := [closeEntry c suctionValve, closeEntry c (inletValve h)]
      main := .driving (closeEntry c deliveryValve).drive s.settings.travel[deliveryValve] } := rfl

end

section
variable (current : (s.channel c).current = some n) (kind : (s.order n).order.kind = some .transfer)
include current

omit current in
theorem eq_or_eq_other (c e : ChannelId) : e = c ∨ e = c.other := by
  cases c <;> cases e <;> simp [AB.other]

/-- An order that ends waits for no pin, and there is no other. -/
theorem pathWaits_closing {k : OrderStatus} {cause : EndCause} (other : (s.channel c.other).current = none)
    (y : PathWait) (e : ChannelId) : ((s.closing c n k cause).setBooster false).pathWaits y e = false := by
  rcases eq_or_eq_other c e with rfl | rfl
  · rw [State.pathWaits, currentSlot_of_current (n := n) (by simp [State.closing, current])]
    simp [State.closing]
  · rw [State.pathWaits, currentSlot_of_none (by simpa [State.closing] using other)]

omit current in
theorem usable_closing {k : OrderStatus} {cause : EndCause} {h : HolderId} :
    ((s.closing c n k cause).setBooster false).usable h = s.usable h := by
  have reported (e : ChannelId) : (((s.closing c n k cause).setBooster false).channel e).reported
      = (s.channel e).reported := by
    by_cases same : c = e <;> simp [State.closing, same]
  simp only [State.usable, reported]
  rfl

variable {h g : HolderId} (run : s.control.phase = .run) (other : (s.channel c.other).current = none)
variable (dest : (s.order n).order.dest = some h) (shut : (s.order n).order.disposition = some .close)
variable (steady : s.selector.state = .steady) (holder : s.selector.current = some g) (usable : s.usable g = true)
variable (pin : s.selector.pin = some { channel := c, holder := g }) (unknown : s.stock.condition = .unknown)
variable (path : ∀ v ∈ transferPath h, (s.valve v).claim = .channel c ∧ (s.valve v).fault = .noFault
  ∧ (s.valve v).position = .opened) (away : (s.valve deliveryValve).shown ≠ some .closed)
variable (still : s.valves.Resting) (nobody : s.valves.refused = [])
include kind run other dest shut steady holder usable pin unknown path away still nobody

/-- The pin is released, and the three closes are asked, the first driven (R98). -/
theorem transfer_completes : Takes 10 false [.releasePin c, .askCloses c]
    ((s.closing c n .done .target).setBooster false) ((s.completed c n).closingPath c h) := by
  have releases : Takes 3 false [.releasePin c] ((s.closing c n .done .target).setBooster false) (s.completed c n) :=
    releasePin_takes (s := (s.closing c n .done .target).setBooster false) run
      (by simp [State.holdsPin, State.closing, pin]) steady holder (usable_closing.trans usable) unknown
      (pathWaits_closing current other .pin)
  have valves : (s.completed c n).valves = s.valves := units_completed.2.1
  have valve (v : ValveId) : (s.completed c n).valve v = s.valve v := by rw [State.valve, valves]; rfl
  have own : ((s.completed c n).channel c).current = some n := by
    simp [State.completed, State.unpinned, State.closing, current]
  have asks : handle (.askCloses c) (s.completed c n) = _ :=
    askCloses_transfer (n := n) (h := h) own (by rw [order_completed]) (by rw [order_completed, kind])
      (by rw [order_completed, dest]) (by rw [order_completed, shut]) (by rw [valves, still.main])
      (by rw [valves, still.protect]) (by rw [valves, still.queue]) fun v inPath => valve v ▸ path v inPath
  have drives : Takes 3 false [.arbiter] ((s.completed c n).closesAsked c (transferPath h))
      ((s.completed c n).closingPath c h) :=
    arbiter_closes (by rw [valves, still.main]) (by rw [valves, still.protect]) (by rw [valves, nobody])
      (List.nodup_cons.mp nodup_transferPath).1 (by rw [valve]; exact away)
  have held : (((s.completed c n).closingPath c h).valve suctionValve).claim = .channel c := by
    have untouched : ((s.completed c n).closingPath c h).valve suctionValve = s.valve suctionValve :=
      (State.valve_putValve _ _ _ _).trans 
        ((if_neg (show ¬deliveryValve = suctionValve by decide)).trans (valve suctionValve))
    rw [untouched]
    exact (path suctionValve (by simp [transferPath])).1
  have after : Takes 3 false [.arbiter, .arbiter, .postIfFree c] ((s.completed c n).closingPath c h) _ :=
    .cons rfl (handle_arbiter_driving rfl) (.cons rfl (handle_arbiter_driving rfl)
      (.cons rfl (handle_postIfFree_held (n := n)
        (by simpa [State.closingPath, State.closesBehind] using own) held) (.nil _ _)))
  exact releases.followed (.cons rfl asks (drives.followed after rfl)) rfl

end

/-- An order that ends leaves every TRANSFER reported. -/
theorem reported_completed {h : HolderId} (rest : s.unreported .a = none ∧ s.unreported .b = none)
    (running : (s.order n).status.running = true) :
    ((s.completed c n).closingPath c h).unreported .a = none
      ∧ ((s.completed c n).closingPath c h).unreported .b = none := by
  have alike (e : ChannelId) : ((s.completed c n).closingPath c h).unreported e = s.unreported e := by
    refine unreported_of_alike ?_ ?_ fun k => ?_
    · by_cases same : c = e <;>
        simp [channel_closingPath, same, State.completed, State.unpinned, State.closing]
    · by_cases same : c = e <;>
        simp [channel_closingPath, same, State.completed, State.unpinned, State.closing]
    · obtain ⟨_, _, _, _, _, order⟩ := units_closingPath (s := s.completed c n) (c := c) (h := h) (n := k)
      rw [order]
      by_cases same : n = k
      · subst same
        rw [order_completed, running]
        exact ⟨rfl, rfl⟩
      · simp [State.completed, State.unpinned, State.closing, same]
  exact ⟨(alike .a).trans rest.1, (alike .b).trans rest.2⟩

/-- A pulse that brings a FLOWING TRANSFER with CLOSE to its target, to the end of its event (R88, R98). -/
theorem settle_transferPulse {h g : HolderId} (rest : s.atRest) (run : s.control.phase = .run)
    (flowing : s.flowingTransfer = some c) (current : (s.channel c).current = some n)
    (other : (s.channel c.other).current = none)
    (reached : (s.order n).order.target ≤ (s.order n).counted + w) (dest : (s.order n).order.dest = some h)
    (shut : (s.order n).order.disposition = some .close)
    (steady : s.selector.state = .steady) (holder : s.selector.current = some g) (usable : s.usable g = true)
    (change : s.selector.change = none) (pin : s.selector.pin = some { channel := c, holder := g })
    (unknown : s.stock.condition = .unknown)
    (path : ∀ v ∈ transferPath h, (s.valve v).claim = .channel c ∧ (s.valve v).fault = .noFault
      ∧ (s.valve v).position = .opened) (away : (s.valve deliveryValve).shown ≠ some .closed)
    (still : s.valves.Resting) (nobody : s.valves.refused = []) :
    settle (s, [.transferPulse w]) = ((s.adds n w).completed c n).closingPath c h := by
  obtain ⟨kind, status⟩ := flowingTransfer_iff flowing current
  have order : (s.adds n w).order n = { s.order n with counted := (s.order n).counted + w } :=
    (State.order_putOrder _ _ _ _).trans (if_pos rfl)
  have kind' : ((s.adds n w).order n).order.kind = some .transfer := by rw [order, kind]
  have status' : ((s.adds n w).order n).status = .flowing := by rw [order, status]
  have ends : handle (.transferPulse w) s = _ := (transferPulse_ends flowing current reached).trans
    (endOrder_transfer (s := s.adds n w) current status' kind' (by simp [State.holdsPin, State.adds, pin]) change)
  have completes := transfer_completes (s := s.adds n w) (h := h) current kind' run other (by rw [order, dest])
    (by rw [order, shut]) steady holder usable pin unknown path away still nobody
  have words : Takes 11 false [.transferPulse w] s _ := .cons rfl ends completes
  exact words.ends (by omega) rest.1 (List.cons_ne_nil _ _)
    (reported_completed (reported_of_adds rest.2) (by rw [status']; rfl))

theorem putValve_of_valves (valves : t.valves = s.valves) (v : ValveId) (y : Valve) :
    (t.putValve v y).valves = (s.putValve v y).valves := by
  simp only [State.putValve, valves]

/-- A contract that becomes CUT where the source valve stands CLOSED (R169). -/
theorem settle_cutContract (rest : s.atRest) (run : s.control.phase = .run) (still : s.valves.Resting)
    (closed : (s.valve (sourceValve x)).position = .closed) (unclaimed : (s.valve (sourceValve x)).claim = .unclaimed) :
    settle (cutContract x s) =
      (s.withCut true).notify (.contractCut x s.settings.cap s.accounts.take .closed) :=
  (cut_closed run still closed unclaimed).ends (by omega) rest.1 (List.cons_ne_nil _ _)
    (reported_of_channels rest rfl)

end

/-- Settles O52. -/
theorem pulsesAreCountedAndCut : Obligations.PulsesAreCountedAndCut := by
  unfold Obligations.PulsesAreCountedAndCut
  refine ⟨fun m s rest => ⟨fun setup => ?_, fun i run filling => ⟨?_, fun other plain => ?_, ?_,
    fun c n last atRest flowing current short => ?_⟩⟩, ?_, ?_⟩
  · exact (congrArg event (takePulse_setup setup)).trans (event_still rest)
  · exact ⟨_, rfl, (takePulse_kept run filling).trans
      (settle_kept ((backlog_takePulse m s).trans rest) (takePulse_inner m s))⟩
  · have counts := takePulse_other run filling other
    rw [if_neg plain] at counts
    exact (congrArg event counts).trans (event_still (t := s.counts m i) rest)
  · rintro ⟨x, source, same⟩ spared
    exact (congrArg event (takePulse_spared run filling source same spared)).trans
      (event_still (t := (s.counts m i).takes m) rest)
  · have other : ¬∃ x, s.settings.source = some x ∧ x.val = m.val := fun ⟨x, _, same⟩ => by omega
    have counts := takePulse_other run filling other
    rw [if_pos last] at counts
    have adds : handle (.transferPulse s.settings.weights[m]) (s.counts m i) = _ :=
      transferPulse_counts ((flowingTransfer_of_channels (by simp)).trans flowing) current short
    have words : Takes 1 false [.transferPulse s.settings.weights[m]] (s.counts m i) _ := .cons rfl adds (.nil _ _)
    refine (congrArg event counts).trans
      (congrArg Host.Outcome.next (words.ends (by omega) rest (List.cons_ne_nil _ _) ?_))
    exact reported_of_adds (reported_of_channels atRest (by simp))
  · intro x i s rest run filling source uncut reached main protect queue closed unclaimed
    have cuts := settle_cutContract (s := (s.counts ⟨x.val, by omega⟩ i).takes ⟨x.val, by omega⟩) (x := x) rest run
      ⟨main, protect, queue⟩ closed unclaimed
    have counts := takePulse_cuts (m := ⟨x.val, by omega⟩) run filling source rfl uncut reached
    refine ⟨_, (congrArg event counts).trans (congrArg Host.Outcome.next cuts), rfl, rfl, rfl, rfl, rfl, fun room => ?_⟩
    exact (notices_notify _ _).trans (if_pos room)
  · intro c n h g i s rest run filling flowing current other running reached dest shut steady holder usable change pin
      unknown path main protect queue nobody close entry v
    have plain : ¬∃ x, s.settings.source = some x ∧ x.val = (10 : MeterId).val := fun ⟨x, _, same⟩ => by
      have low := x.isLt
      rw [same] at low
      exact absurd low (by decide)
    have counts : takePulse 10 s = _ := takePulse_other run filling plain
    have within : ∀ v ∈ transferPath h, v ∈ [inletValve h, deliveryValve, suctionValve] := by
      simp [transferPath]
    have settled := settle_transferPulse (s := s.counts 10 i) (w := s.settings.weights[(10 : MeterId)]) (h := h) rest
      run ((flowingTransfer_of_channels (by simp)).trans flowing) current other reached dest shut steady holder usable
      change pin unknown (fun v inPath => by
        obtain ⟨claim, sound, opened, _⟩ := path v (within v inPath)
        exact ⟨claim, sound, opened⟩) (path deliveryValve (by simp)).2.2.2 ⟨main, protect, queue⟩ nobody
    obtain ⟨settings, stock, selector, link, booster, order⟩ := units_closingPath (c := c) (h := h) (n := n)
      (s := ((s.counts 10 i).adds n s.settings.weights[(10 : MeterId)]).completed c n)
    obtain ⟨settings', valves', stock', selector', link', _, booster'⟩ := units_completed (c := c) (n := n)
      (s := (s.counts 10 i).adds n s.settings.weights[(10 : MeterId)])
    have own := channel_completed (c := c) (n := n) (s := (s.counts 10 i).adds n s.settings.weights[(10 : MeterId)])
      running
    refine ⟨_, (congrArg event counts).trans (congrArg Host.Outcome.next settled), ?_, ?_, booster.trans booster',
      selector.trans selector', ?_, stock.trans stock', settings.trans settings', link.trans link'⟩
    · rw [order, order_completed]
      simp [State.adds]
      exact ⟨rfl, rfl, rfl, rfl⟩
    · rw [channel_closingPath, if_pos rfl, own]
      rfl
    · have same : (((s.counts 10 i).adds n s.settings.weights[(10 : MeterId)]).completed c n).valve deliveryValve
          = s.valve deliveryValve := by rw [State.valve, valves']; rfl
      rw [valves_closingPath, same, settings', putValve_of_valves valves']
      rfl

end Sys2Proof.Machine
end

section
/-!
STOP taken.
-/

namespace Sys2Proof.Machine

/-! ## STOP taken (R36, R58, R135, R197) -/

section
variable {s : State} {h : HolderId} {v : ValveId}

/-- A holder in ISOLATING gives up the claim on its inlet (R36). -/
def dropIsolating (t : State) (h : HolderId) : State :=
  if (t.holder h).state = .isolating then t.putClaim (inletValve h) .unclaimed else t

theorem holder_dropIsolating (g : HolderId) : (dropIsolating s h).holder g = s.holder g := by
  unfold dropIsolating
  split <;> rfl

theorem valve_dropIsolating : (dropIsolating s h).valve v =
    if (s.holder h).state = .isolating ∧ inletValve h = v then { s.valve v with claim := .unclaimed }
    else s.valve v := by
  unfold dropIsolating
  split
  next isolating =>
    rw [State.valve_putClaim]
    by_cases same : inletValve h = v
    · subst same
      simp [isolating]
    · simp [same]
  next other => simp [other]

/-- The valves where the holders of a list have given up their claims. -/
theorem valve_dropsIsolating (l : List HolderId) (s : State) (v : ValveId) : (l.foldl dropIsolating s).valve v =
    if ∃ h ∈ l, (s.holder h).state = .isolating ∧ inletValve h = v then { s.valve v with claim := .unclaimed }
    else s.valve v := by
  induction l generalizing s with
  | nil => simp
  | cons g l ih =>
    rw [List.foldl_cons, ih]
    simp only [holder_dropIsolating, valve_dropIsolating, List.mem_cons, exists_eq_or_imp]
    by_cases own : (s.holder g).state = .isolating ∧ inletValve g = v
    · simp [own]
    · simp [own]

/-- What the holders' giving up of their claims leaves alone. -/
theorem units_dropsIsolating (l : List HolderId) (s : State) : (l.foldl dropIsolating s).pending = s.pending
    ∧ (l.foldl dropIsolating s).settings = s.settings ∧ (l.foldl dropIsolating s).control = s.control
    ∧ (l.foldl dropIsolating s).clock = s.clock ∧ (l.foldl dropIsolating s).stock = s.stock
    ∧ (l.foldl dropIsolating s).channels = s.channels ∧ (l.foldl dropIsolating s).districts = s.districts
    ∧ (l.foldl dropIsolating s).accounts = s.accounts ∧ (l.foldl dropIsolating s).link = s.link := by
  refine ⟨?_, ?_, ?_, ?_, ?_, ?_, ?_, ?_, ?_⟩ <;> refine keeps_foldl _ (fun t h => ?_) l s <;> unfold dropIsolating <;>
    split <;> rfl

theorem stopStockUnit_eq (s : State) : stopStockUnit s = (allHolders.foldl dropIsolating s).putStock
    { holders := s.stock.holders.map Holder.stopped, condition := .unknown, release := none } := by
  obtain ⟨_, _, _, _, stock, _⟩ := units_dropsIsolating allHolders s
  have drops : (fun (t : State) h => if (t.holder h).state = .isolating then t.putClaim (inletValve h) .unclaimed
    else t) = dropIsolating := rfl
  simp only [stopStockUnit, drops, stock]

/-- A valve at STOP (R58). -/
def Valve.stopped (x : Valve) : Valve :=
  match x.claim with
  | .isolation _ => x
  | _ => { x with claim := .unclaimed }

theorem valve_stopValveUnit (s : State) (v : ValveId) : (stopValveUnit s).valve v = (s.valve v).stopped := by
  simp [stopValveUnit, State.valve, State.putValves, Valve.stopped] <;> rfl

/-- The part after STOP, with the valves released first. -/
theorem stopPart_released (s : State) : stopPart s = stopDistricts
    (((allHolders.foldl dropIsolating (stopValveUnit (stoppedClock s))).putStock
      { holders := s.stock.holders.map Holder.stopped, condition := .unknown, release := none }).putSelector
        { Selector.atReset with lastDecode := s.selector.lastDecode }) := by
  rw [stopPart_eq, stopStockUnit_eq]
  rfl

theorem units_stopPart (s : State) : (stopPart s).control = { s.control with phase := .setup }
    ∧ (stopPart s).clock = { s.clock with minuteOwed := false, boundaryOwed := none }
    ∧ (stopPart s).settings = s.settings ∧ (stopPart s).channels = s.channels ∧ (stopPart s).accounts = s.accounts
    ∧ (stopPart s).link = s.link ∧ (stopPart s).pending = s.pending
    ∧ (stopPart s).selector = { Selector.atReset with lastDecode := s.selector.lastDecode } := by
  obtain ⟨pending, settings, control, clock, _, channels, _, accounts, link⟩ :=
    units_dropsIsolating allHolders (stopValveUnit (stoppedClock s))
  rw [stopPart_released]
  generalize allHolders.foldl dropIsolating (stopValveUnit (stoppedClock s)) = released at *
  exact ⟨control, clock, settings, channels, accounts, link, pending, rfl⟩

theorem stock_stopPart (s : State) : (stopPart s).stock =
    { holders := s.stock.holders.map Holder.stopped, condition := .unknown, release := none } := by
  rw [stopPart_released]
  rfl

theorem holder_stopPart (h : HolderId) : (stopPart s).holder h = (s.holder h).stopped := by
  simp [State.holder, stock_stopPart]

theorem stopDistricts_of_districts {t : State} (districts : t.districts = s.districts) :
    (stopDistricts t).districts = (stopDistricts s).districts := by
  simp only [stopDistricts, districts]

theorem districts_stopPart (s : State) : (stopPart s).districts = (stopDistricts s).districts := by
  obtain ⟨_, _, _, _, _, _, districts, _⟩ := units_dropsIsolating allHolders (stopValveUnit (stoppedClock s))
  rw [stopPart_released]
  generalize allHolders.foldl dropIsolating (stopValveUnit (stoppedClock s)) = released at *
  exact stopDistricts_of_districts districts

theorem mem_allHolders (h : HolderId) : h ∈ allHolders := by
  revert h
  decide

theorem valve_stopPart (v : ValveId) : (stopPart s).valve v =
    if ∃ h, (s.holder h).state = .isolating ∧ inletValve h = v then { (s.valve v).stopped with claim := .unclaimed }
    else (s.valve v).stopped := by
  have drops := valve_dropsIsolating allHolders (stopValveUnit (stoppedClock s)) v
  rw [valve_stopValveUnit] at drops
  simp only [mem_allHolders, true_and] at drops
  rw [stopPart_released]
  generalize allHolders.foldl dropIsolating (stopValveUnit (stoppedClock s)) = released at *
  exact drops

theorem district_stopDistricts (d : DistrictId) : (stopDistricts s).district d = { s.district d with
    inForce := none, lockout := none, qualify := none, repeatLeft := none, moveWait := .unasked } := by
  simp [stopDistricts, State.district]

theorem outputs_stopDistricts (p : OutletId) : (stopDistricts s).districts.outputs[p] = 0 := by
  simp [stopDistricts]

theorem dropsIsolating_inHand (l : List HolderId) (s : State) :
    l.foldl dropIsolating s.inHand = (l.foldl dropIsolating s).inHand := by
  induction l generalizing s with
  | nil => rfl
  | cons h l ih =>
    have drops : dropIsolating s.inHand h = (dropIsolating s h).inHand := by
      have same : (s.inHand.holder h).state = (s.holder h).state := rfl
      simp only [dropIsolating, same]
      split <;> rfl
    rw [List.foldl_cons, List.foldl_cons, drops, ih]

/-- STOP does not look at the request in hand. -/
theorem stopPart_inHand : stopPart s.inHand = (stopPart s).inHand := by
  rw [stopPart_released, stopPart_released,
    show stopValveUnit (stoppedClock s.inHand) = (stopValveUnit (stoppedClock s)).inHand from rfl,
    dropsIsolating_inHand]
  generalize allHolders.foldl dropIsolating (stopValveUnit (stoppedClock s)) = released
  rfl

theorem backlog_stopPart : (stopPart s).backlog = s.backlog := by
  have backlog : (allHolders.foldl dropIsolating (stopValveUnit (stoppedClock s))).backlog = s.backlog :=
    backlog_foldl (fun t h => by unfold dropIsolating; split <;> rfl) _ _
  rw [stopPart_released]
  generalize allHolders.foldl dropIsolating (stopValveUnit (stoppedClock s)) = released at *
  exact backlog

/-! ### What becomes of a valve (R58) -/

theorem stopped_keeps (x : Valve) : x.stopped.position = x.position ∧ x.stopped.fault = x.fault
    ∧ x.stopped.openMade = x.openMade ∧ x.stopped.closedMade = x.closedMade := by
  unfold Valve.stopped
  split <;> exact ⟨rfl, rfl, rfl, rfl⟩

theorem stopped_claim {x : Valve} (free : ∀ h, x.claim ≠ .isolation h) : x.stopped.claim = .unclaimed := by
  unfold Valve.stopped
  split
  next h isolated => exact absurd isolated (free h)
  next => rfl

theorem stopped_of_isolation {x : Valve} (isolated : x.claim = .isolation h) : x.stopped = x := by
  simp only [Valve.stopped, isolated]

theorem inletValve_inj {g h : HolderId} : inletValve g = inletValve h ↔ g = h := by
  simp only [inletValve, Fin.ext_iff]

theorem valve_stopPart_keeps (v : ValveId) : ((stopPart s).valve v).position = (s.valve v).position
    ∧ ((stopPart s).valve v).fault = (s.valve v).fault ∧ ((stopPart s).valve v).openMade = (s.valve v).openMade
    ∧ ((stopPart s).valve v).closedMade = (s.valve v).closedMade := by
  rw [valve_stopPart]
  split <;> exact stopped_keeps _

theorem claim_stopPart (free : ∀ h, (s.valve v).claim ≠ .isolation h) :
    ((stopPart s).valve v).claim = .unclaimed := by
  rw [valve_stopPart]
  split
  · rfl
  · exact stopped_claim free

theorem claim_stopPart_isolating (isolating : (s.holder h).state = .isolating) :
    ((stopPart s).valve (inletValve h)).claim = .unclaimed := by
  rw [valve_stopPart, if_pos ⟨h, isolating, rfl⟩]

theorem claim_stopPart_isolated (claim : (s.valve (inletValve h)).claim = .isolation h)
    (isolated : (s.holder h).state = .isolated) : ((stopPart s).valve (inletValve h)).claim = .isolation h := by
  have none : ¬∃ g, (s.holder g).state = .isolating ∧ inletValve g = inletValve h := by
    rintro ⟨g, isolating, same⟩
    rw [inletValve_inj.mp same, isolated] at isolating
    cases isolating
  rw [valve_stopPart, if_neg none, stopped_of_isolation claim, claim]

theorem execStop_taken {tag : Byte} (free : s.free) (run : s.control.phase = .run)
    (idle : s.stopRefused = false) : execStop tag [] s = .next ((stopPart s).answered 4 tag Status.ok.body) := by
  have inHand : s.inHand.stopRefused = false := idle
  refine request_sized_taken (t := stopPart s) free rfl ?_ (backlog_stopPart.trans free.1)
  simp only [running_eq_true (s := s.inHand) run, inHand, stopPart_inHand]
  rfl

end

/-- Settles O14. -/
theorem stopReturnsToSetup : Obligations.StopReturnsToSetup := by
  unfold Obligations.StopReturnsToSetup
  intro tag s free run idle shut steady protect queue main
  have working : s.stopRefused = false := by
    rw [Bool.eq_false_iff, Ne, stopRefused_iff]
    simp [idle, shut, steady, protect, queue, main]
  obtain ⟨control, clock, settings, channels, accounts, link, pending, selector⟩ := units_stopPart s
  have districts := districts_stopPart s
  refine ⟨_, execStop_taken free run working, control, clock, settings, channels, accounts, link, pending, selector,
    congrArg _ (stock_stopPart s), congrArg _ (stock_stopPart s), holder_stopPart, valve_stopPart_keeps,
    fun v => claim_stopPart, fun h => claim_stopPart_isolating, fun h => claim_stopPart_isolated, fun d => ?_,
    fun p => ?_⟩
  · rw [State.district, districts]
    exact district_stopDistricts d
  · rw [districts]
    exact outputs_stopDistricts p

end Sys2Proof.Machine
end

section
/-!
What the inner words keep of the account unit's record.
-/

namespace Sys2Proof.Machine

/-! ## The account unit's record -/

/-- The words that the account unit acts on (R153 to R174). -/
def Act.toAccounts : Act → Bool
  | .basisChanged | .mapChanged | .boundary _ | .clockSet _ _ _ | .postReady | .judgeContract | .startAccounts
  | .secondPasses => true
  | _ => false

@[simp] theorem accounts_contractFaultCleared (s : State) : (contractFaultCleared s).1.accounts = s.accounts := by
  grind [contractFaultCleared]

/-- A word to another unit leaves the account unit's record alone. -/
theorem accounts_handle {a : Act} (elsewhere : a.toAccounts = false) (s : State) :
    (handle a s).1.accounts = s.accounts := by
  unfold handle
  split
  case h_6 v cause => split <;> simp
  all_goals first
    | exact Bool.noConfusion (show true = false from elsewhere)
    | simp

/-! ## What the inner words keep of it -/

/-- What inner words keep of the account unit's record beside what `Kept` names: the day of the contract take; the marks
of the FILLING half that no change of basis or of map sets; the contract OPEN while the take is below the cap; and,
with a full book, the book and the READY half that is known to wait for it. -/
structure Booked (s t : State) : Prop extends Kept s t where
  takeDay : t.accounts.takeDay = s.accounts.takeDay
  marks : ∀ i, (s.half i).state = .filling → ∃ map basis,
    (t.half i).marks = { (s.half i).marks with mapChanged := map, basisChanged := basis }
  opened : s.accounts.take < s.settings.cap → s.accounts.cut = false → t.accounts.cut = false
  waiting : Config.bookPlaces ≤ s.accounts.book.length → ∀ i, (s.half i).state = .ready →
    (s.half i.other).state = .filling → (s.half i).fullNoticed = true →
    t.accounts.book = s.accounts.book ∧ t.half i = s.half i

theorem Booked.refl (s : State) : Booked s s :=
  ⟨.refl s, rfl, fun _ _ => ⟨_, _, rfl⟩, fun _ h => h, fun _ _ _ _ _ => ⟨rfl, rfl⟩⟩

section
variable {s t u : State}

theorem Booked.filling_state (k : Booked s t) {i : HalfId} (filling : (s.half i).state = .filling) :
    (t.half i).state = .filling := by
  rw [k.filling i filling]
  exact filling

theorem Booked.trans (first : Booked s t) (second : Booked t u) : Booked s u where
  toKept := first.toKept.trans second.toKept
  takeDay := second.takeDay.trans first.takeDay
  marks i filling := by
    obtain ⟨map, basis, marks⟩ := second.marks i (first.filling_state filling)
    obtain ⟨_, _, before⟩ := first.marks i filling
    exact ⟨map, basis, by rw [marks, before]⟩
  opened below cut := second.opened (by rw [first.take, first.settings]; exact below) (first.opened below cut)
  waiting full i ready filling noticed := by
    obtain ⟨book, half⟩ := first.waiting full i ready filling noticed
    obtain ⟨book', half'⟩ :=
      second.waiting (book ▸ full) i (half ▸ ready) (first.filling_state filling) (half ▸ noticed)
    exact ⟨book'.trans book, half'.trans half⟩

theorem Kept.booked (k : Kept s t) (same : t.accounts = s.accounts) : Booked s t where
  toKept := k
  takeDay := by rw [same]
  marks i _ := ⟨_, _, by rw [State.half, same, ← State.half]⟩
  opened _ cut := by rw [same]; exact cut
  waiting _ i _ _ _ := ⟨by rw [same], by simp only [State.half, same]⟩

theorem Booked.backlog (s : State) (l : List Act) : Booked s { s with backlog := l } := (Kept.backlog s l).booked rfl

/-- A mark of a change of basis or of map (R155). -/
theorem markFilling_booked {f : Marks → Marks} (s : State)
    (mark : ∀ m, ∃ map basis, f m = { m with mapChanged := map, basisChanged := basis }) :
    Booked s (markFilling f s) := by
  have kept := markFilling_kept f s
  revert kept
  simp only [markFilling]
  split
  next j found =>
    intro kept
    refine ⟨kept, rfl, fun i _ => ?_, fun _ cut => cut, fun _ i ready _ _ => ⟨rfl, ?_⟩⟩
    · simp only [State.half_putHalf]
      split
      next same => subst same; exact mark _
      next => exact ⟨_, _, rfl⟩
    · have other : j ≠ i := fun same => by
        rw [same] at found
        rw [halfIn_state found] at ready
        cases ready
      simp [other]
  next => exact fun _ => .refl s

theorem basisChanged_booked (s : State) : Booked s (basisChanged s) := by
  simp only [basisChanged]
  split
  · exact markFilling_booked s fun m => ⟨m.mapChanged, true, rfl⟩
  · exact .refl s

theorem mapChanged_booked (s : State) : Booked s (mapChanged s) := by
  simp only [mapChanged]
  split
  · exact markFilling_booked s fun m => ⟨true, m.basisChanged, rfl⟩
  · exact .refl s

/-- Of two halves, one READY and one FILLING, the READY one is found. -/
theorem halfIn_ready_of {i : HalfId} (ready : (s.half i).state = .ready) (filling : (s.half i.other).state = .filling) :
    s.halfIn .ready = some i := by
  cases i
  · simp [State.halfIn, ready]
  · have first : (s.half .a).state = .filling := filling
    simp [State.halfIn, ready, first]

theorem half_posted {i : HalfId} {x : Half} {book : List Slot} {last : Option Interval} :
    ((s.putHalf i x).putAccounts { (s.putHalf i x).accounts with book := book, lastPosted := last }).half =
      (s.putHalf i x).half := rfl

/-- Posting keeps the marks of the FILLING half, and a full book leaves a half that waits alone (R157, R158). -/
theorem postReady_booked (s : State) : Booked s (postReady s).1 where
  toKept := (postReady_quiet s).kept
  takeDay := by
    simp only [postReady]
    repeat' split
    all_goals rfl
  marks i filling := by
    simp only [postReady]
    split
    · exact ⟨_, _, rfl⟩
    next j found =>
      have other : j ≠ i := fun same => by
        rw [same] at found
        rw [halfIn_state found] at filling
        cases filling
      split
      · exact ⟨_, _, rfl⟩
      split
      · exact ⟨_, _, by rw [half_posted, State.half_putHalf, if_neg other]⟩
      split
      · exact ⟨_, _, rfl⟩
      · exact ⟨_, _, by rw [State.half_putHalf, if_neg other]⟩
  opened _ cut := by
    simp only [postReady]
    repeat' split
    all_goals exact cut
  waiting full i ready filling noticed := by
    simp only [postReady, halfIn_ready_of ready filling]
    split
    · exact ⟨rfl, rfl⟩
    · rw [if_neg (Nat.not_lt.mpr full), noticed]
      exact ⟨rfl, rfl⟩

/-- A judging of the contract below the cap leaves it OPEN (R171). -/
theorem judgeContract_booked (s : State) : Booked s (judgeContract s).1 := by
  have kept := (judgeContract_quiet s).kept
  have record : (judgeContract s).1.accounts.halves = s.accounts.halves ∧
      (judgeContract s).1.accounts.book = s.accounts.book ∧
      (judgeContract s).1.accounts.takeDay = s.accounts.takeDay := by
    simp only [judgeContract, cutContract]
    repeat' split
    all_goals exact ⟨rfl, rfl, rfl⟩
  obtain ⟨halves, book, takeDay⟩ := record
  have half : ∀ i, (judgeContract s).1.half i = s.half i := fun i => by rw [State.half, halves, State.half]
  refine ⟨kept, takeDay, fun i _ => ⟨_, _, by rw [half]⟩, fun below cut => ?_, fun _ i _ _ _ => ⟨book, half i⟩⟩
  simp only [judgeContract, below, if_true]
  split <;> rfl

theorem handle_booked {a : Act} (inner : a.inner = true) (s : State) : Booked s (handle a s).1 := by
  by_cases elsewhere : a.toAccounts = false
  · exact (handle_quiet inner s).kept.booked (accounts_handle elsewhere s)
  · cases a with
    | basisChanged => exact basisChanged_booked s
    | mapChanged => exact mapChanged_booked s
    | postReady => exact postReady_booked s
    | judgeContract => exact judgeContract_booked s
    | _ => first | exact absurd rfl elsewhere | cases inner

theorem run_booked (n : Nat) (acts : List Act) (s : State) (inner : acts.all Act.inner = true) :
    Booked s (run n acts s) := by
  induction n generalizing acts s with
  | zero => exact .backlog s acts
  | succ n ih =>
    cases acts with
    | nil => exact .refl s
    | cons a rest =>
      rw [List.all_cons, Bool.and_eq_true] at inner
      obtain ⟨first, others⟩ := inner
      simp only [run]
      split
      · exact ih _ _ others
      · refine (handle_booked first s).trans (ih _ _ ?_)
        rw [List.all_append, (handle_quiet first s).inner, others]
        rfl

/-- The first word, with the words that it hands on. -/
theorem Steps.first {told : Bool} {a : Act} {l : List Act} {e : Effect}
    (single : (a.triggers && (told || l.any Act.endsStock)) = false) (effect : handle a s = e) :
    Steps 1 told (a :: l) s (e.2 ++ l) e.1 := .cons single effect (.refl _ _ _)

theorem Steps.word {told : Bool} {a : Act} {e : Effect} (single : a.triggers = false)
    (effect : handle a s = e) : Steps 1 told [a] s e.2 e.1 := by
  have first : Steps 1 told [a] s (e.2 ++ []) e.1 := .first (by rw [single]; rfl) effect
  rwa [List.append_nil] at first

/-- Words that come to inner ones. -/
theorem Steps.settle_booked {k : Nat} {l m : List Act} (h : Steps k false l s m t) (few : k ≤ 4096)
    (rest : s.backlog = []) (words : l ≠ []) (inner : m.all Act.inner = true) : Booked t (Machine.settle (s, l)) := by
  rw [h.settle_eq few rest words]
  refine run_booked _ _ _ ?_
  rw [List.all_append, inner]
  rfl

end

end Sys2Proof.Machine
end

section
/-!
The halves at a boundary and at a clock set (R153, R154, R156, R168).
-/

namespace Sys2Proof.Machine

/-! ## The halves at a boundary and at a clock set (R153, R154, R156, R168) -/

/-- A gas-day start on the way, where there is one. -/
def turnDay (day : Bool) (begins : Interval) (e : Effect) : Effect :=
  if day then e.andThen (gasDayStart begins.day) else e

/-- The FILLING half `i`, with the record `x`, turned or stretched to the interval that begins, `day` telling whether a
gas day starts on the way: what a boundary and a clock set have in common. -/
def advance (i : HalfId) (x : Half) (begins : Interval) (day : Bool) (s : State) : Effect :=
  turnDay day begins <|
    if (s.half i.other).state = .empty then turnHalves i x begins false s
    else (s.putHalf i (x.stretched begins day), [])

section
variable {s : State} {i : HalfId} {x : Half} {begins : Interval} {day atStart : Bool} {e : Effect}

theorem handle_boundary {b : Boundary} (filling : s.halfIn .filling = some i) :
    handle (.boundary b) s = advance i (s.half i) b.beginning b.dayStart s := by
  simp only [handle, takeBoundary, filling]
  rfl

theorem handle_clockSet {old : Interval} (filling : s.halfIn .filling = some i) :
    handle (.clockSet old begins day) s = advance i (s.half i).clockSet begins day s := by
  simp only [handle, takeClockSet, filling]
  rfl

/-! ### A gas-day start -/

theorem half_gasDayStart (n : Nat) (j : HalfId) : (gasDayStart n s).1.half j = s.half j := by
  simp only [gasDayStart, judgeContract, cutContract]
  repeat' split
  all_goals rfl

theorem book_gasDayStart (n : Nat) : (gasDayStart n s).1.accounts.book = s.accounts.book := by
  simp only [gasDayStart, judgeContract, cutContract]
  repeat' split
  all_goals rfl

/-- With a cap above 0 the contract is OPEN for the new day (R168, R171). -/
theorem gasDayStart_of_cap (cap : 0 < s.settings.cap) (n : Nat) :
    gasDayStart n s = (s.putAccounts { s.accounts with take := 0, takeDay := n, cut := false }, []) := by
  simp only [gasDayStart, judgeContract, State.settings_putAccounts, State.accounts_putAccounts, cap, if_true]
  split <;> rfl

theorem half_turnDay (j : HalfId) : (turnDay day begins e).1.half j = e.1.half j := by
  cases day
  · rfl
  · exact half_gasDayStart _ j

theorem book_turnDay : (turnDay day begins e).1.accounts.book = e.1.accounts.book := by
  cases day
  · rfl
  · exact book_gasDayStart _

theorem settings_turnDay : (turnDay day begins e).1.settings = e.1.settings := by
  cases day
  · rfl
  · exact (gasDayStart_quiet0 _ _).kept.settings

theorem accounts_turnDay_of_cap (cap : 0 < e.1.settings.cap) : (turnDay true begins e).1.accounts =
    { e.1.accounts with take := 0, takeDay := begins.day, cut := false } := by
  show (gasDayStart begins.day e.1).1.accounts = _
  rw [gasDayStart_of_cap cap]
  rfl

theorem turnDay_words (quiet : day = false ∨ 0 < e.1.settings.cap) : (turnDay day begins e).2 = e.2 := by
  rcases quiet with rfl | cap
  · rfl
  · cases day
    · rfl
    · show e.2 ++ (gasDayStart begins.day e.1).2 = _
      rw [gasDayStart_of_cap cap, List.append_nil]

/-! ### Posting -/

/-- The half `i` closed and the other opened (R153). -/
def State.turned (s : State) (i : HalfId) (x : Half) (begins : Interval) (atStart : Bool) : State :=
  (s.putHalf i (x.closed s.stockReading)).putHalf i.other (openedHalf begins s.stockReading noMarks atStart)

theorem turnHalves_eq : turnHalves i x begins atStart s = postReady (s.turned i x begins atStart) := rfl

theorem half_turned : (s.turned i x begins atStart).half i = x.closed s.stockReading := by
  cases i <;> simp [State.turned, AB.other]

theorem half_turned_other : (s.turned i x begins atStart).half i.other =
    openedHalf begins s.stockReading noMarks atStart := by
  simp [State.turned]

theorem halfIn_ready_turned : (s.turned i x begins atStart).halfIn .ready = some i :=
  halfIn_ready_of (by rw [half_turned]; rfl) (by rw [half_turned_other]; rfl)

theorem book_turned : (s.turned i x begins atStart).accounts.book = s.accounts.book := rfl

/-- The state with the closed half posted (R157). -/
def State.turnedPosted (s : State) (i : HalfId) (x : Half) (begins : Interval) (atStart : Bool) : State :=
  let slot := slotOfHalf x s.stockReading s.settings.discrepancy
  let emptied := (s.turned i x begins atStart).putHalf i Half.empty
  emptied.putAccounts { emptied.accounts with book := s.accounts.book ++ [slot], lastPosted := some slot.last }

/-- Where the book has room, the closed half posts (R157). -/
theorem turnHalves_of_room (room : s.accounts.book.length < 64) :
    (turnHalves i x begins atStart s).1 = s.turnedPosted i x begins atStart := by
  simp only [turnHalves_eq, postReady, halfIn_ready_turned, half_turned, book_turned]
  simp only [Half.closed, Config.bookPlaces, room, if_true]
  rfl

/-- With a full book the closed half waits, found at once (R158). -/
theorem turnHalves_of_full (full : 64 ≤ s.accounts.book.length) :
    turnHalves i x begins atStart s =
      ((s.turned i x begins atStart).putHalf i { x.closed s.stockReading with fullNoticed := true },
        [.notice (.dayBookFull x.first)]) := by
  simp only [turnHalves_eq, postReady, halfIn_ready_turned, half_turned, book_turned]
  simp only [Half.closed, Config.bookPlaces, Nat.not_lt.mpr full, if_false]
  rfl

theorem other_ne (i : HalfId) : i.other ≠ i := by
  cases i <;> exact nofun

theorem half_turnedPosted_other : (s.turnedPosted i x begins atStart).half i.other =
    openedHalf begins s.stockReading noMarks atStart := by
  show ((s.turned i x begins atStart).putHalf i Half.empty).half i.other = _
  rw [State.half_putHalf, if_neg (other_ne i).symm, half_turned_other]

/-! ### What becomes of the halves -/

theorem half_turnHalves_other : (turnHalves i x begins atStart s).1.half i.other =
    openedHalf begins s.stockReading noMarks atStart := by
  by_cases room : s.accounts.book.length < 64
  · rw [turnHalves_of_room room, half_turnedPosted_other]
  · rw [turnHalves_of_full (Nat.not_lt.mp room), State.half_putHalf, if_neg (other_ne i).symm, half_turned_other]

theorem take_turnHalves : (turnHalves i x begins atStart s).1.accounts.take = s.accounts.take ∧
    (turnHalves i x begins atStart s).1.accounts.takeDay = s.accounts.takeDay := by
  by_cases room : s.accounts.book.length < 64
  · rw [turnHalves_of_room room]
    exact ⟨rfl, rfl⟩
  · rw [turnHalves_of_full (Nat.not_lt.mp room)]
    exact ⟨rfl, rfl⟩

theorem advance_turns (empty : (s.half i.other).state = .empty) :
    advance i x begins day s = turnDay day begins (turnHalves i x begins false s) := by
  rw [advance, if_pos empty]

theorem advance_stretches (busy : (s.half i.other).state ≠ .empty) :
    advance i x begins day s = turnDay day begins (s.putHalf i (x.stretched begins day), []) := by
  rw [advance, if_neg busy]

/-- The other half, EMPTY, opens with the interval that begins (R153). -/
theorem advance_opens (empty : (s.half i.other).state = .empty) :
    (advance i x begins day s).1.half i.other = openedHalf begins s.stockReading noMarks false := by
  rw [advance_turns empty, half_turnDay, half_turnHalves_other]

theorem advance_posts (empty : (s.half i.other).state = .empty) (room : s.accounts.book.length < 64) :
    (advance i x begins day s).1.accounts.book =
      s.accounts.book ++ [slotOfHalf x s.stockReading s.settings.discrepancy] := by
  rw [advance_turns empty, book_turnDay, turnHalves_of_room room]
  rfl

theorem advance_waits (empty : (s.half i.other).state = .empty) (full : 64 ≤ s.accounts.book.length) :
    (advance i x begins day s).1.accounts.book = s.accounts.book ∧
      (advance i x begins day s).1.half i = { x.closed s.stockReading with fullNoticed := true } := by
  rw [advance_turns empty, book_turnDay, half_turnDay, turnHalves_of_full full]
  exact ⟨rfl, by simp⟩

theorem advance_stretched (busy : (s.half i.other).state ≠ .empty) :
    (advance i x begins day s).1.half i = x.stretched begins day ∧
      (advance i x begins day s).1.accounts.book = s.accounts.book := by
  rw [advance_stretches busy, half_turnDay, book_turnDay]
  exact ⟨by simp, rfl⟩

/-- The stretching leaves the other half alone. -/
theorem half_advance_stretched (busy : (s.half i.other).state ≠ .empty) (j : HalfId) :
    (advance i x begins day s).1.half j = (s.putHalf i (x.stretched begins day)).half j := by
  rw [advance_stretches busy, half_turnDay]

theorem advance_quiet0 : Quiet0 s (advance i x begins day s) := by
  have turns : Quiet0 s (if (s.half i.other).state = .empty then turnHalves i x begins false s
      else (s.putHalf i (x.stretched begins day), [])) := by
    split
    · exact turnHalves_quiet i x begins false s
    · exact ⟨Kept0.putHalf _ _ _, rfl⟩
  cases day
  · exact turns
  · exact turns.andThen fun t => gasDayStart_quiet0 _ t

/-- Within the day the take goes on; a new day starts with none, the contract OPEN under a cap above 0 (R168, R171). -/
theorem advance_take : let u := (advance i x begins day s).1
    (day = false → u.accounts.take = s.accounts.take ∧ u.accounts.takeDay = s.accounts.takeDay) ∧
    (day = true → 0 < s.settings.cap →
      u.accounts.take = 0 ∧ u.accounts.takeDay = begins.day ∧ u.accounts.cut = false) := by
  refine ⟨?_, ?_⟩
  · rintro rfl
    simp only [advance, turnDay, Bool.false_eq_true, if_false]
    split
    · exact take_turnHalves
    · exact ⟨rfl, rfl⟩
  · rintro rfl cap
    rw [advance, accounts_turnDay_of_cap]
    · exact ⟨rfl, rfl, rfl⟩
    · split
      · rwa [(turnHalves_quiet i x begins false s).kept.settings]
      · exact cap

/-- With a full book and a contract that stays OPEN, DAY BOOK FULL is the one word (R158). -/
theorem advance_full (empty : (s.half i.other).state = .empty) (full : 64 ≤ s.accounts.book.length)
    (quiet : day = false ∨ 0 < s.settings.cap) : let u := (advance i x begins day s).1
    (advance i x begins day s).2 = [.notice (.dayBookFull x.first)] ∧ u.link = s.link ∧ u.channels = s.channels := by
  rw [advance_turns empty, turnHalves_of_full full]
  refine ⟨turnDay_words quiet, ?_⟩
  rcases quiet with rfl | cap
  · exact ⟨rfl, rfl⟩
  · cases day
    · exact ⟨rfl, rfl⟩
    · show (gasDayStart begins.day _).1.link = _ ∧ _
      simp only [turnDay, if_true, Effect.andThen]
      rw [gasDayStart_of_cap (by exact cap)]
      exact ⟨rfl, rfl⟩

/-! ### What the rest of the event leaves of it -/

section
variable {t : State}

/-- The half that opened, at the end of the event. -/
theorem advance_ends_opened (ends : Booked (advance i x begins day s).1 t) (empty : (s.half i.other).state = .empty) :
    (t.half i.other).state = .filling ∧ (t.half i.other).first = begins ∧ (t.half i.other).last = begins ∧
      (t.half i.other).span = 1 ∧ (t.half i.other).columns = Vector.replicate 12 0 ∧
      (t.half i.other).atOpen = s.stockReading ∧
      (s.accounts.book.length < 64 →
        s.accounts.book ++ [slotOfHalf x s.stockReading s.settings.discrepancy] <+: t.accounts.book) := by
  have opened := ends.filling i.other (by rw [advance_opens empty]; rfl)
  rw [advance_opens empty] at opened
  refine ⟨?_, ?_, ?_, ?_, ?_, ?_, fun room => advance_posts empty room ▸ ends.book⟩ <;> rw [opened] <;> rfl

theorem advance_ends_waiting (ends : Booked (advance i x begins day s).1 t) (empty : (s.half i.other).state = .empty)
    (full : 64 ≤ s.accounts.book.length) : t.accounts.book = s.accounts.book ∧
      t.half i = { x.closed s.stockReading with fullNoticed := true } := by
  obtain ⟨book, half⟩ := advance_waits (begins := begins) (day := day) (x := x) empty full
  have kept := ends.waiting (book ▸ full) i (half ▸ rfl) (by rw [advance_opens empty]; rfl) (half ▸ rfl)
  exact ⟨kept.1.trans book, kept.2.trans half⟩

/-- The half that was stretched, at the end of the event. -/
theorem advance_ends_stretched (ends : Booked (advance i x begins day s).1 t)
    (filling : x.state = .filling) (busy : (s.half i.other).state ≠ .empty) :
    (t.half i).state = .filling ∧ (t.half i).first = x.first ∧ (t.half i).last = begins ∧
      (t.half i).span = x.span + 1 ∧ (t.half i).columns = x.columns ∧ (t.half i).marks.overrun = true ∧
      (t.half i).marks.clockSet = x.marks.clockSet ∧
      (t.half i).marks.dayCrossed = (x.marks.dayCrossed || day) ∧ s.accounts.book <+: t.accounts.book := by
  obtain ⟨half, book⟩ := advance_stretched (x := x) (begins := begins) (day := day) busy
  have state : ((advance i x begins day s).1.half i).state = .filling := half ▸ filling
  have kept := ends.filling i state
  obtain ⟨map, basis, marks⟩ := ends.marks i state
  rw [half] at kept marks
  refine ⟨?_, ?_, ?_, ?_, ?_, by rw [marks]; rfl, by rw [marks]; rfl, by rw [marks]; rfl, book ▸ ends.book⟩ <;>
    rw [kept]
  · exact filling
  all_goals rfl

theorem advance_ends_take (ends : Booked (advance i x begins day s).1 t) :
    (day = false → t.accounts.take = s.accounts.take ∧ t.accounts.takeDay = s.accounts.takeDay) ∧
    (day = true → 0 < s.settings.cap →
      t.accounts.take = 0 ∧ t.accounts.takeDay = begins.day ∧ t.accounts.cut = false) := by
  obtain ⟨sameDay, newDay⟩ := advance_take (s := s) (i := i) (x := x) (begins := begins) (day := day)
  rw [ends.take, ends.takeDay]
  refine ⟨sameDay, fun starts cap => ?_⟩
  obtain ⟨take, takeDay, cut⟩ := newDay starts cap
  exact ⟨take, takeDay, ends.opened (by rw [take, advance_quiet0.kept.settings]; exact cap) cut⟩

end

end

end Sys2Proof.Machine
end

section
/-!
INTERVAL BOUNDARY.
-/

namespace Sys2Proof.Machine

/-! ## INTERVAL BOUNDARY (R9, R153, R154, R168) -/

/-- The state in which the clock has handed its boundary on. -/
def State.boundaryHanded (s : State) : State := s.putClock { s.clock with boundaryOwed := none }

section
variable {s : State} {b : Boundary} {i : HalfId}

theorem execIntervalBoundary_owed (run : s.control.phase = .run) (owed : s.clock.boundaryOwed = some b) :
    exec .intervalBoundary s = .next (settle (s.boundaryHanded, [.boundary b])) := by
  show event (handBoundary s) = _
  rw [show handBoundary s = handle .handBoundary s from rfl, handle_handBoundary_owed run owed]
  rfl

theorem boundary_words (filling : s.halfIn .filling = some i) (told : Bool) :
    Steps 1 told [.boundary b] s (advance i (s.half i) b.beginning b.dayStart s).2
      (advance i (s.half i) b.beginning b.dayStart s).1 :=
  .word rfl (handle_boundary filling)

/-- What the rest of the event leaves of the boundary's work. -/
theorem boundary_booked (rest : s.backlog = []) (filling : s.halfIn .filling = some i) :
    Booked (advance i (s.half i) b.beginning b.dayStart s.boundaryHanded).1
      (settle (s.boundaryHanded, [.boundary b])) :=
  Steps.settle_booked (boundary_words (s := s.boundaryHanded) filling false) (by omega) rest (List.cons_ne_nil _ _)
    advance_quiet0.inner

/-- The clock, the settings and the phase after a boundary. -/
theorem boundary_records (rest : s.backlog = []) (filling : s.halfIn .filling = some i) :
    let t := settle (s.boundaryHanded, [.boundary b])
    t.clock = { s.clock with boundaryOwed := none } ∧ t.settings = s.settings ∧ t.control = s.control := by
  have kept := advance_quiet0.kept.trans (boundary_booked (b := b) rest filling).toKept0
  exact ⟨kept.clock, kept.settings, kept.control⟩

/-- With a full book and every TRANSFER reported, DAY BOOK FULL is the event's one notice (R158). -/
theorem boundary_notices_full (rest : s.backlog = []) (reported : s.unreported .a = none ∧ s.unreported .b = none)
    (filling : s.halfIn .filling = some i) (empty : (s.half i.other).state = .empty)
    (full : 64 ≤ s.accounts.book.length) (quiet : b.dayStart = false ∨ 0 < s.settings.cap)
    (room : s.link.queue.length < 32) : (settle (s.boundaryHanded, [.boundary b])).link.notices =
      s.link.notices ++ [.dayBookFull (s.half i).first] := by
  obtain ⟨handed, link, channels⟩ := advance_full (s := s.boundaryHanded) (i := i) (x := s.half i)
    (begins := b.beginning) (day := b.dayStart) empty full quiet
  have words : Steps 1 false [.boundary b] s.boundaryHanded
      (advance i (s.half i) b.beginning b.dayStart s.boundaryHanded).2
      (advance i (s.half i) b.beginning b.dayStart s.boundaryHanded).1 :=
    boundary_words (s := s.boundaryHanded) filling false
  revert handed link channels words
  generalize advance i (s.half i) b.beginning b.dayStart s.boundaryHanded = e
  intro handed link channels words
  rw [handed] at words
  rw [(words.trans (.notice _ _)).ends (by omega) rest (List.cons_ne_nil _ _)
    ⟨(unreported_congr (s := s) channels .a).trans reported.1,
      (unreported_congr (s := s) channels .b).trans reported.2⟩]
  exact (notices_notify _ _).trans (by rw [link, if_pos (by exact room)]; rfl)

end

/-- Settles O21. -/
theorem intervalBoundaryTurnsOrStretches : Obligations.IntervalBoundaryTurnsOrStretches := by
  unfold Obligations.IntervalBoundaryTurnsOrStretches
  refine ⟨fun s b i rest run owed filling empty => ?_, fun s rest =>
    ⟨fun idle => ?_, fun b i run owed filling busy => ?_⟩⟩
  · obtain ⟨clock, settings, control⟩ := boundary_records (b := b) rest filling
    have ends := boundary_booked (b := b) rest filling
    obtain ⟨state, first, last, span, columns, atOpen, posted⟩ := advance_ends_opened ends empty
    obtain ⟨sameDay, newDay⟩ := advance_ends_take ends
    refine ⟨_, execIntervalBoundary_owed run owed, clock, settings, control, state, first, last, span, columns, atOpen,
      posted, fun full quiet => ?_, sameDay, newDay⟩
    obtain ⟨book, half⟩ := advance_ends_waiting ends empty full
    exact ⟨book, half ▸ rfl, half ▸ rfl, half ▸ rfl, half ▸ rfl, fun a b room =>
      boundary_notices_full rest ⟨a, b⟩ filling empty full quiet room⟩
  · exact (congrArg event (handle_handBoundary_idle idle)).trans (event_still rest)
  · obtain ⟨clock, -, -⟩ := boundary_records (b := b) rest filling
    have ends := boundary_booked (b := b) rest filling
    obtain ⟨state, first, last, span, columns, overrun, -, dayCrossed, book⟩ :=
      advance_ends_stretched ends (halfIn_state filling) busy
    obtain ⟨sameDay, newDay⟩ := advance_ends_take ends
    exact ⟨_, execIntervalBoundary_owed run owed, clock, state, first, last, span, columns, overrun, dayCrossed, book,
      sameDay, newDay⟩

end Sys2Proof.Machine
end

section
/-!
Words that leave the channels alone.
-/

namespace Sys2Proof.Machine

/-! ## Words that leave the channels alone -/

/-- What the clock's words keep while no order is current and the contract stays OPEN. -/
structure Calm (s t : State) : Prop extends Kept0 s t where
  channels : t.channels = s.channels
  backlog : t.backlog = s.backlog

section
variable {s t u : State} {a : Act} {e : Effect} {i : HalfId} {x : Half} {begins : Interval} {day : Bool}

theorem Calm.refl (s : State) : Calm s s := ⟨.refl s, rfl, rfl⟩

theorem Calm.trans (first : Calm s t) (second : Calm t u) : Calm s u :=
  ⟨first.toKept0.trans second.toKept0, second.channels.trans first.channels, second.backlog.trans first.backlog⟩

theorem Calm.told (l : List Notice) (s : State) : Calm s (l.foldl State.notify s) := by
  induction l generalizing s with
  | nil => exact .refl s
  | cons n l ih => exact .trans ⟨(Kept.notify s n).toKept0, rfl, rfl⟩ (ih _)

theorem accounts_notices (l : List Notice) (s : State) : (l.foldl State.notify s).accounts = s.accounts :=
  keeps_foldl State.accounts State.accounts_notify l s

/-- An effect whose words are a few notices. -/
structure Tells (s : State) (e : Effect) : Prop where
  calm : Calm s e.1
  notices : ∃ l : List Notice, l.length ≤ 3 ∧ e.2 = l.map .notice

theorem Tells.nil (s : State) : Tells s (s, []) := ⟨.refl s, [], by simp, rfl⟩

/-- A word that leads to notices alone. -/
theorem Tells.takes (tells : Tells s (handle a s)) (single : a.triggers = false) :
    ∃ k ≤ 4, ∃ t, Takes k false [a] s t ∧ Calm s t ∧ t.accounts = (handle a s).1.accounts := by
  obtain ⟨l, few, words⟩ := tells.notices
  have first : Steps 1 false [a] s _ _ := .word single rfl
  rw [words] at first
  exact ⟨1 + l.length, by omega, _, first.trans (.notices l _), tells.calm.trans (.told l _),
    accounts_notices l _⟩

/-! ### The halves turned or stretched -/

theorem postReady_notices (s : State) : ∃ l : List Notice, l.length ≤ 3 ∧ (postReady s).2 = l.map .notice := by
  simp only [postReady]
  split
  · exact ⟨[], by simp, rfl⟩
  split
  · exact ⟨[], by simp, rfl⟩
  split
  · simp only [discrepancyWords]
    split
    · split
      · exact ⟨[_, _], by simp, rfl⟩
      · exact ⟨[_], by simp, rfl⟩
    · exact ⟨[_], by simp, rfl⟩
  · split
    · exact ⟨[], by simp, rfl⟩
    · exact ⟨[_], by simp, rfl⟩

theorem channels_postReady (s : State) : (postReady s).1.channels = s.channels := by
  simp only [postReady]
  repeat' split
  all_goals rfl

theorem channels_gasDayStart (n : Nat) (s : State) : (gasDayStart n s).1.channels = s.channels := by
  simp only [gasDayStart, judgeContract, cutContract]
  repeat' split
  all_goals rfl

/-- With a cap above 0 the halves turn or stretch with notices alone. -/
theorem advance_tells (cap : 0 < s.settings.cap) : Tells s (advance i x begins day s) := by
  have turns : Tells s (if (s.half i.other).state = .empty then turnHalves i x begins false s
      else (s.putHalf i (x.stretched begins day), [])) := by
    split
    · exact ⟨⟨(turnHalves_quiet i x begins false s).kept, channels_postReady _, backlog_turnHalves ..⟩,
        postReady_notices _⟩
    · exact ⟨⟨Kept0.putHalf _ _ _, rfl, rfl⟩, [], by simp, rfl⟩
  cases day
  · exact turns
  · refine ⟨turns.calm.trans ⟨(gasDayStart_quiet0 _ _).kept, channels_gasDayStart _ _, backlog_gasDayStart ..⟩, ?_⟩
    obtain ⟨l, few, words⟩ := turns.notices
    exact ⟨l, few, (turnDay_words (day := true) (.inr (by rwa [turns.calm.settings]))).trans words⟩

theorem boundary_tells (cap : 0 < s.settings.cap) (b : Boundary) : Tells s (handle (.boundary b) s) := by
  cases filling : s.halfIn .filling with
  | none =>
    rw [show handle (.boundary b) s = (s, []) by simp [handle, takeBoundary, filling]]
    exact .nil s
  | some i =>
    rw [handle_boundary filling]
    exact advance_tells cap

theorem clockSet_tells (cap : 0 < s.settings.cap) (old new : Interval) (day : Bool) :
    Tells s (handle (.clockSet old new day) s) := by
  cases filling : s.halfIn .filling with
  | none =>
    rw [show handle (.clockSet old new day) s = (s, []) by simp [handle, takeClockSet, filling]]
    exact .nil s
  | some i =>
    rw [handle_clockSet filling]
    exact advance_tells cap

/-! ### The clock's words -/

theorem findSetpoints_calm (s : State) : Calm s (findSetpoints s) :=
  ⟨(findSetpoints_kept s).toKept0, by rw [findSetpoints_eq], by rw [findSetpoints_eq]⟩

theorem minute_takes_nobody (nobody : ∀ c, (s.channel c).current = none) :
    Takes 2 false [.findSetpoints, .minuteToChannels] s (findSetpoints s) :=
  minute_takes (.cons rfl (minuteToChannels_none fun c => by
    rw [State.channel, (findSetpoints_calm s).channels]
    exact nobody c) (.nil _ _))

/-- The minute handed on, if it is owed. -/
theorem handMinute_takes (run : s.control.phase = .run) (nobody : ∀ c, (s.channel c).current = none) :
    ∃ k ≤ 3, ∃ t, Takes k false [.handMinute] s t ∧ Calm s.minuteHanded t ∧ t.accounts = s.accounts := by
  by_cases owed : s.clock.minuteOwed = true
  · have minutes := minute_takes_nobody (s := s.minuteHanded) nobody
    refine ⟨3, by omega, _, .cons rfl (handle_handMinute_owed run owed) minutes, findSetpoints_calm _, ?_⟩
    rw [findSetpoints_eq]
    rfl
  · have idle : s.minuteHanded = s := by
      rw [State.minuteHanded, ← Bool.eq_false_iff.mpr owed]
      rfl
    have still := handle_handMinute_idle (s := s) (.inr (Bool.eq_false_iff.mpr owed))
    refine ⟨1, by omega, s, .cons rfl still (.nil _ _), ?_, rfl⟩
    rw [idle]
    exact .refl s

/-- The boundary handed on, if one is owed. -/
theorem handBoundary_takes (run : s.control.phase = .run) (cap : 0 < s.settings.cap) :
    ∃ k ≤ 5, ∃ t, Takes k false [.handBoundary] s t ∧ Calm s.boundaryHanded t ∧
      ∀ b, s.clock.boundaryOwed = some b → t.accounts = (handle (.boundary b) s.boundaryHanded).1.accounts := by
  cases owed : s.clock.boundaryOwed with
  | none =>
    have idle : s.boundaryHanded = s := by
      rw [State.boundaryHanded, ← owed]
      rfl
    refine ⟨1, by omega, s, .cons rfl (handle_handBoundary_idle (.inr owed)) (.nil _ _), ?_, nofun⟩
    rw [idle]
    exact .refl s
  | some b =>
    obtain ⟨k, few, t, takes, calm, accounts⟩ :=
      (boundary_tells (s := s.boundaryHanded) cap b).takes rfl
    refine ⟨k + 1, by omega, t, .cons rfl (handle_handBoundary_owed run owed) takes, calm, ?_⟩
    rintro _ ⟨⟩
    exact accounts

end

end Sys2Proof.Machine
end

section
/-!
SET CLOCK.
-/

namespace Sys2Proof.Machine

/-! ## SET CLOCK (R12, R13, R156) -/

/-- The clock that a set gives. -/
def clockAt (day minute second start : Nat) : ClockUnit :=
  { day := day, minute := minute, second := second, dayStartMinute := start, unset := false, minuteOwed := false,
    boundaryOwed := none }

section
variable {s t : State} {day minute second start : Nat} {b : Boundary} {i : HalfId}

/-- SET CLOCK's fields in range (R12). -/
def clockInRange (minute second start : Nat) : Prop := minute ≤ 1439 ∧ second ≤ 59 ∧ start % 30 = 0 ∧ start ≤ 1410

theorem clockFieldsOk_iff : clockFieldsOk minute second start = true ↔ clockInRange minute second start := by
  simp [clockFieldsOk, clockInRange, and_assoc]

theorem setClockCheck_badField (outside : ¬clockInRange minute second start) :
    setClockCheck day minute second start s = .badField := by
  rw [← clockFieldsOk_iff] at outside
  simp [setClockCheck, outside]

section
variable (inRange : clockInRange minute second start)
include inRange

theorem setClockCheck_setup (setup : s.control.phase = .setup) : setClockCheck day minute second start s = .ok := by
  simp [setClockCheck, clockFieldsOk_iff.mpr inRange, running_eq_false setup]

variable (run : s.control.phase = .run)
include run

theorem setClockCheck_wrongPhase (changed : start ≠ s.clock.dayStartMinute) :
    setClockCheck day minute second start s = .wrongPhase := by
  simp [setClockCheck, clockFieldsOk_iff.mpr inRange, running_eq_true run, changed]

theorem setClockCheck_run (same : start = s.clock.dayStartMinute) : setClockCheck day minute second start s =
    if (clockAt day minute second start).interval.earlier s.clock.interval = true then .clockBack else .ok := by
  simp only [setClockCheck, clockFieldsOk_iff.mpr inRange, running_eq_true run, Bool.not_true, Bool.false_eq_true,
    if_false]
  rw [if_neg (not_not_intro same)]
  rfl

end

/-! ### The set itself -/

theorem handle_setClock_setup (setup : s.control.phase = .setup) :
    handle (.setClock day minute second start) s = (s.putClock (clockAt day minute second start), []) := by
  simp only [handle, setClock, running_eq_false setup]
  rfl

theorem handle_setClock_same (run : s.control.phase = .run)
    (same : (clockAt day minute second start).interval = s.clock.interval) :
    handle (.setClock day minute second start) s = (s.putClock (clockAt day minute second start),
      if minute = s.clock.minute then [] else [.findSetpoints, .minuteToChannels]) := by
  simp only [handle, setClock, running_eq_true run, Bool.not_true, Bool.false_eq_true, if_false]
  exact if_pos same

theorem handle_setClock_later (run : s.control.phase = .run)
    (later : (clockAt day minute second start).interval ≠ s.clock.interval) :
    handle (.setClock day minute second start) s = (s.putClock (clockAt day minute second start),
      [.clockSet s.clock.interval (clockAt day minute second start).interval (dayLater day s.clock.day),
        .findSetpoints, .minuteToChannels]) := by
  simp only [handle, setClock, running_eq_true run, Bool.not_true, Bool.false_eq_true, if_false]
  exact if_neg later

/-- The whole set, with no order current: a set into a later interval turns or stretches the halves (R156). -/
theorem setClock_takes (run : s.control.phase = .run) (nobody : ∀ c, (s.channel c).current = none)
    (cap : 0 < s.settings.cap) : let v := s.putClock (clockAt day minute second start)
    ∃ k ≤ 7, ∃ t, Takes k false [.setClock day minute second start] s t ∧ Calm v t ∧
      t.accounts = if v.clock.interval = s.clock.interval then s.accounts else
        (handle (.clockSet s.clock.interval v.clock.interval (dayLater day s.clock.day)) v).1.accounts := by
  intro v
  by_cases same : v.clock.interval = s.clock.interval
  · have effect := handle_setClock_same run same
    rw [if_pos same]
    split at effect
    · exact ⟨1, by omega, v, .cons rfl effect (.nil _ _), .refl v, rfl⟩
    · refine ⟨3, by omega, _, .cons rfl effect (minute_takes_nobody nobody), findSetpoints_calm _, ?_⟩
      rw [findSetpoints_eq]
      rfl
  · rw [if_neg same]
    obtain ⟨k, few, u, takes, calm, accounts⟩ := (clockSet_tells (s := v) cap s.clock.interval v.clock.interval
      (dayLater day s.clock.day)).takes rfl
    have minutes := minute_takes_nobody (s := u) fun c => by
      rw [State.channel, calm.channels]
      exact nobody c
    refine ⟨k + 2 + 1, by omega, _, .cons rfl (handle_setClock_later run same) (takes.followed minutes rfl),
      calm.trans (findSetpoints_calm _), ?_⟩
    rw [findSetpoints_eq]
    exact accounts

/-! ### With nothing owed -/

/-- The words that SET CLOCK hands on. -/
def clockWords (day minute second start : Nat) : List Act :=
  [.handBoundary, .handMinute, .setClock day minute second start]

section
variable (run : s.control.phase = .run) (minuteOwed : s.clock.minuteOwed = false)
  (boundaryOwed : s.clock.boundaryOwed = none)
include run minuteOwed boundaryOwed

omit run in
theorem clockWords_steps {e : Effect} (effect : handle (.setClock day minute second start) s = e) :
    Steps 3 false (clockWords day minute second start) s e.2 e.1 :=
  .cons rfl (handle_handBoundary_idle (.inr boundaryOwed)) <| .cons rfl (handle_handMinute_idle (.inr minuteOwed)) <|
    .word rfl effect

theorem clockWords_kept0 (rest : s.backlog = []) : Kept0 (s.putClock (clockAt day minute second start))
    (settle (s, clockWords day minute second start)) := by
  by_cases same : (clockAt day minute second start).interval = s.clock.interval
  · refine (clockWords_steps minuteOwed boundaryOwed (handle_setClock_same run same)).settle_kept0 (by omega) rest
      (List.cons_ne_nil _ _) ?_
    split <;> rfl
  · exact (clockWords_steps minuteOwed boundaryOwed (handle_setClock_later run same)).settle_kept0 (by omega) rest
      (List.cons_ne_nil _ _) rfl

theorem clockWords_booked (rest : s.backlog = []) (filling : s.halfIn .filling = some i)
    (later : (clockAt day minute second start).interval ≠ s.clock.interval) :
    Booked (advance i (s.half i).clockSet (clockAt day minute second start).interval (dayLater day s.clock.day)
      (s.putClock (clockAt day minute second start))).1 (settle (s, clockWords day minute second start)) := by
  have sets := clockWords_steps minuteOwed boundaryOwed (handle_setClock_later run later)
  have turns := Steps.first (told := false) (l := [.findSetpoints, .minuteToChannels]) rfl
    (handle_clockSet (s := s.putClock (clockAt day minute second start)) (old := s.clock.interval)
      (begins := (clockAt day minute second start).interval) (day := dayLater day s.clock.day) filling)
  refine (sets.trans turns).settle_booked (by omega) rest (List.cons_ne_nil _ _) ?_
  rw [List.all_append, advance_quiet0.inner]
  rfl

end

/-! ### With no order current -/

theorem half_of_accounts {u : State} (accounts : t.accounts = u.accounts) (j : HalfId) : t.half j = u.half j := by
  rw [State.half, accounts, State.half]

/-- A FILLING half that is stretched is the one found still. -/
theorem halfIn_stretched {x : Half} (filling : s.halfIn .filling = some i) (state : x.state = .filling)
    (halves : ∀ j, t.half j = (s.putHalf i x).half j) : t.halfIn .filling = some i := by
  cases i with
  | a => simp [State.halfIn, halves, state]
  | b =>
    have first : (s.half .a).state ≠ .filling := fun first => by simp [State.halfIn, first] at filling
    simp [State.halfIn, halves, state, first]

/-- A boundary and a set, each of which stretches the FILLING half (R154, R156; log 3). -/
theorem stretched_twice {u v w : State} (filling : s.halfIn .filling = some i)
    (busy : (s.half i.other).state ≠ .empty)
    (boundary : u.accounts = (handle (.boundary b) s.boundaryHanded).1.accounts)
    (handed : v.accounts = u.accounts)
    (set : w.accounts = if v.clock.interval = s.clock.interval then v.accounts else
      (handle (.clockSet s.clock.interval v.clock.interval (dayLater day s.clock.day)) v).1.accounts) :
    (w.half i).span = (s.half i).span + (if v.clock.interval = s.clock.interval then 1 else 2) ∧
      (w.half i).last = (if v.clock.interval = s.clock.interval then b.beginning else v.clock.interval) ∧
      (w.half i).marks.overrun = true := by
  have halves (j : HalfId) : v.half j = (s.putHalf i ((s.half i).stretched b.beginning b.dayStart)).half j := by
    rw [half_of_accounts (handed.trans boundary), handle_boundary (s := s.boundaryHanded) filling]
    exact half_advance_stretched (s := s.boundaryHanded) busy j
  have own : v.half i = (s.half i).stretched b.beginning b.dayStart := (halves i).trans (by simp)
  by_cases same : v.clock.interval = s.clock.interval
  · rw [if_pos same] at set
    rw [if_pos same, if_pos same, half_of_accounts set, own]
    exact ⟨rfl, rfl, rfl⟩
  · have found : v.halfIn .filling = some i := halfIn_stretched filling (by exact halfIn_state filling) halves
    have still : (v.half i.other).state ≠ .empty := by
      rw [halves, State.half_putHalf, if_neg (other_ne i).symm]
      exact busy
    rw [if_neg same, handle_clockSet found] at set
    rw [if_neg same, if_neg same, half_of_accounts set, half_advance_stretched still,
      State.half_putHalf, if_pos rfl, own]
    exact ⟨rfl, rfl, rfl⟩

/-- The whole of SET CLOCK's event with no order current (R13; log 3). -/
theorem clockWords_ends (rest : s.backlog = []) (run : s.control.phase = .run)
    (nobody : ∀ c, (s.channel c).current = none) (cap : 0 < s.settings.cap) :
    let t := settle (s, clockWords day minute second start)
    t.clock = clockAt day minute second start ∧ t.settings = s.settings ∧ t.control = s.control ∧
      t.channels = s.channels ∧
      ∀ b i, s.clock.boundaryOwed = some b → s.halfIn .filling = some i → (s.half i.other).state ≠ .empty →
        let new := (clockAt day minute second start).interval
        (t.half i).span = (s.half i).span + (if new = s.clock.interval then 1 else 2) ∧
        (t.half i).last = (if new = s.clock.interval then b.beginning else new) ∧
        (t.half i).marks.overrun = true := by
  obtain ⟨j, fewJ, u, takesU, calmU, accountsU⟩ := handBoundary_takes run cap
  have channelsU : u.channels = s.channels := calmU.channels
  have nobodyU (c : ChannelId) : (u.channel c).current = none := by
    rw [State.channel, channelsU]
    exact nobody c
  obtain ⟨k, fewK, v, takesV, calmV, accountsV⟩ := handMinute_takes
    (show u.control.phase = .run by rw [calmU.control]; exact run) nobodyU
  have channelsV : v.channels = s.channels := calmV.channels.trans channelsU
  have nobodyV (c : ChannelId) : (v.channel c).current = none := by
    rw [State.channel, channelsV]
    exact nobody c
  have settingsV : v.settings = s.settings := calmV.settings.trans calmU.settings
  have controlV : v.control = s.control := calmV.control.trans calmU.control
  have clockV : v.clock = { s.clock with boundaryOwed := none, minuteOwed := false } := by
    rw [calmV.clock, State.minuteHanded, State.clock_putClock, calmU.clock, State.boundaryHanded, State.clock_putClock]
  obtain ⟨n, fewN, w, takesW, calmW, accountsW⟩ := setClock_takes (day := day) (minute := minute) (second := second)
    (start := start) (show v.control.phase = .run by rw [controlV]; exact run) nobodyV (by rw [settingsV]; exact cap)
  have channelsW : w.channels = s.channels := calmW.channels.trans channelsV
  have whole : settle (s, clockWords day minute second start) = w := by
    refine (takesU.followed (takesV.followed takesW rfl) rfl).ends (by omega) rest (List.cons_ne_nil _ _) ?_
    have idle (c : ChannelId) : w.unreported c = none := unreported_of_none (by
      rw [State.channel, channelsW]
      exact nobody c)
    exact ⟨idle .a, idle .b⟩
  rw [whole]
  refine ⟨calmW.clock, calmW.settings.trans settingsV, calmW.control.trans controlV, channelsW,
    fun b i owed filling busy => ?_⟩
  rw [clockV] at accountsW
  exact stretched_twice (v := v.putClock (clockAt day minute second start)) (day := day) filling busy
    (accountsU b owed) accountsV accountsW

/-! ### The request -/

section
variable {tag : Byte} {body : List Byte} {k : Status}

theorem execSetClock_refused (free : s.free) (length : body.length = 7) (refused : k ≠ .ok)
    (check : setClockCheck (field body 0 2) (field body 2 2) (field body 4 1) (field body 5 2) s = k) :
    execSetClock tag body s = .next (s.answered 7 tag k.body) := by
  refine request_sized_answer free length ?_
  simp only [show setClockCheck (field body 0 2) (field body 2 2) (field body 4 1) (field body 5 2) s.inHand = k
    from check]

theorem execSetClock_ok (free : s.free) (length : body.length = 7)
    (check : setClockCheck (field body 0 2) (field body 2 2) (field body 4 1) (field body 5 2) s = .ok) :
    execSetClock tag body s = .next ((settle (s.inHand, clockWords (field body 0 2) (field body 2 2) (field body 4 1)
      (field body 5 2))).answered 7 tag Status.ok.body) := by
  refine request_sized_settle (e := (s.inHand, _)) free length ?_ rfl
  simp only [show setClockCheck (field body 0 2) (field body 2 2) (field body 4 1) (field body 5 2) s.inHand = .ok
    from check]
  rfl

end

end

/-- Settles O19. -/
theorem setClockReplacesTheTime : Obligations.SetClockReplacesTheTime := by
  unfold Obligations.SetClockReplacesTheTime
  intro tag body s free length day minute second start new inRange refusal
  refine ⟨fun outside => execSetClock_refused free length nofun (setClockCheck_badField outside),
    fun valid setup a b => ?_,
    fun valid run changed => execSetClock_refused free length nofun (setClockCheck_wrongPhase valid run changed),
    fun valid run same => ⟨fun back => ?_, fun ahead minuteOwed boundaryOwed => ?_, fun ahead nobody cap => ?_⟩⟩
  · refine (execSetClock_ok free length (setClockCheck_setup valid setup)).trans ?_
    have words : Takes 3 false (clockWords day minute second start) s.inHand (s.inHand.putClock new) :=
      .cons rfl (handle_handBoundary_idle (.inl setup)) <| .cons rfl (handle_handMinute_idle (.inl setup)) <|
        .cons rfl (handle_setClock_setup (s := s.inHand) setup) (.nil _ _)
    rw [words.ends (by omega) free.1 (List.cons_ne_nil _ _) ⟨a, b⟩]
    rfl
  · exact execSetClock_refused free length nofun ((setClockCheck_run valid run same).trans (if_pos back))
  · have check : setClockCheck day minute second start s = .ok :=
      (setClockCheck_run valid run same).trans (if_neg (ne_true_of_eq_false ahead))
    refine ⟨_, execSetClock_ok free length check, (clockWords_kept0 (s := s.inHand) run minuteOwed boundaryOwed
      free.1).answered 7 tag _, fun i filling later => ?_⟩
    have ends := clockWords_booked (s := s.inHand) (second := second) run minuteOwed boundaryOwed free.1 filling later
    refine ⟨fun empty => (advance_ends_opened ends empty :), fun busy => ?_⟩
    obtain ⟨state, first, last, span, columns, overrun, clockSet, dayCrossed, -⟩ :=
      advance_ends_stretched ends (by exact halfIn_state filling) busy
    exact ⟨state, first, last, span, columns, clockSet, overrun, dayCrossed⟩
  · have check : setClockCheck day minute second start s = .ok :=
      (setClockCheck_run valid run same).trans (if_neg (ne_true_of_eq_false ahead))
    obtain ⟨clock, settings, control, channels, twice⟩ :=
      clockWords_ends (s := s.inHand) (day := day) (minute := minute) (second := second) (start := start) free.1 run
        nobody cap
    exact ⟨_, execSetClock_ok free length check, clock, settings, control, channels, composeReply_reply _ _ _ _, twice⟩

end Sys2Proof.Machine
end

section
/-!
START's checks (R193).
-/

namespace Sys2Proof.Machine

/-! ## START's checks (R193) -/

section
variable {s : State} {tag : Byte} {k : Status}

theorem configuredCount_eq_zero : s.configuredCount = 0 ↔ ¬∃ h : HolderId, s.settings.holders[h].configured = true := by
  simp only [State.configuredCount, List.length_eq_zero_iff, List.filter_eq_nil_iff, not_exists]
  exact ⟨fun none h => none h (mem_allHolders h), fun none h _ => none h⟩

theorem holdersOk_iff : s.holdersOk = true ↔ ∀ h : HolderId, s.settings.holders[h].configured = true →
    holderSettingsOk s.settings.holders[h] = true := by
  simp only [State.holdersOk, List.all_eq_true, Bool.or_eq_true, Bool.not_eq_true', State.holderSettings]
  constructor
  · intro all h configured
    rcases all h (mem_allHolders h) with plain | ok
    · rw [configured] at plain; cases plain
    · exact ok
  · intro all h _
    cases configured : s.settings.holders[h].configured
    · exact .inl rfl
    · exact .inr (all h configured)

theorem entriesOk_iff : s.entriesOk = true ↔ ∀ e : EntryId, s.settings.supply[e].low ≤ s.settings.supply[e].high →
    s.settings.holders[s.settings.supply[e].holder].configured = true := by
  simp only [State.entriesOk, List.all_eq_true, Bool.or_eq_true, decide_eq_true_eq, State.holderSettings]
  constructor
  · intro all e enabled
    exact (all s.settings.supply[e] (by simp)).resolve_left (by omega)
  · intro all x mem
    obtain ⟨i, lt, rfl⟩ := List.getElem_of_mem mem
    by_cases enabled : s.settings.supply.toList[i].high < s.settings.supply.toList[i].low
    · exact .inl enabled
    · exact .inr (all ⟨i, by simpa using lt⟩ (by simpa using enabled))

theorem startCheck_run (run : s.control.phase = .run) : startCheck s = .wrongPhase :=
  if_pos (running_eq_true run)

section
variable (setup : s.control.phase = .setup)
include setup

/-- In SETUP START is refused with BAD FIELD for the clock, the holders or the supply entries. -/
theorem startCheck_badField (bad : s.clock.unset = true ∨ s.configuredCount = 0 ∨ s.holdersOk = false ∨
    s.entriesOk = false) : startCheck s = .badField := by
  simp only [startCheck, running_eq_false setup, Bool.false_eq_true, if_false]
  rcases bad with bad | bad | bad | bad <;> simp [bad] <;> grind

theorem startCheck_setup (clock : s.clock.unset = false) (some : ¬s.configuredCount = 0) (holders : s.holdersOk = true)
    (entries : s.entriesOk = true) : startCheck s = if s.clockBehind = true then .clockBack else .ok := by
  simp [startCheck, running_eq_false setup, clock, some, holders, entries]

end

theorem execStart_refused (free : s.free) (refused : k ≠ .ok) (check : startCheck s = k) :
    execStart tag [] s = .next (s.answered 3 tag k.body) := by
  refine request_sized_answer free rfl ?_
  simp only [show startCheck s.inHand = k from check]

/-- RUN entered (R193). -/
def State.started (s : State) : State := s.putControl { s.control with phase := .run }

theorem execStart_kept (free : s.free) (check : startCheck s = .ok) :
    ∃ t, execStart tag [] s = .next t ∧ Kept0 (s.started.answered 3 tag Status.ok.body) t := by
  refine request_quiet0 (e := startPart s.inHand) (k := .ok) free ?_ free.1 rfl
  refine (if_pos rfl).trans ?_
  simp only [show startCheck s.inHand = .ok from check]

end

end Sys2Proof.Machine
end

section
/-!
START at the valve unit, the stock unit and the selector.
-/

namespace Sys2Proof.Machine

/-! ## START at the valve unit, the stock unit and the selector (R35, R40, R55, R58) -/

section
variable {s t : State}

theorem notices_eq (l : List Notice) (s : State) :
    l.foldl State.notify s = { s with link := (l.foldl State.notify s).link } := by
  induction l generalizing s with
  | nil => rfl
  | cons n l ih =>
    rw [List.foldl_cons, ih]
    rfl

/-! ### The valve unit -/

/-- The position that a valve's switch record gives (R58). -/
def Valve.adopted (x : Valve) : Position := (x.shown.map limitPosition).getD .unknown

theorem adoptValves_eq (s : State) : adoptValves s = { s with valves := (adoptValves s).valves } := by
  simp only [adoptValves, allHolders, List.foldl_cons, List.foldl_nil]
  rfl

theorem valve_claimOutlets (l : List HolderId) (s : State) (v : ValveId) :
    (l.foldl (fun t h => t.putClaim (outletValve h) .selector) s).valve v = { s.valve v with
      claim := if l.any (fun h => outletValve h = v) then .selector else (s.valve v).claim } := by
  induction l generalizing s with
  | nil => rfl
  | cons h l ih =>
    rw [List.foldl_cons, ih, State.valve_putClaim]
    by_cases same : outletValve h = v
    · simp [same]
    · simp [same]

theorem valve_adoptValves (v : ValveId) : (adoptValves s).valve v = { s.valve v with
    position := (s.valve v).adopted,
    claim := if allHolders.any (fun h => outletValve h = v) then .selector else (s.valve v).claim } := by
  refine (valve_claimOutlets _ _ v).trans ?_
  simp only [State.valve, State.putValves, Fin.getElem_fin, Vector.getElem_map, Valve.adopted]
  cases (s.valves.table[v.val]).shown <;> rfl

theorem startValves_takes (s : State) : Takes 1 false [.startValves] s (adoptValves s) := .cons rfl rfl (.nil _ _)

/-! ### The stock unit -/

/-- A holder whose silence timer START sets (R35). -/
def Holder.started (x : Holder) (settings : HolderSettings) : Holder := { x with
  sinceReading := none
  silence := if settings.configured && decide (x.state = .service) then some settings.silence else none }

/-- START at one holder. -/
def startHolder (t : State) (h : HolderId) : State := t.putHolder h ((t.holder h).started (t.holderSettings h))

theorem startHolder_eq (t : State) (h : HolderId) : startHolder t h =
    { t with stock := { t.stock with holders := (startHolder t h).stock.holders } } := rfl

theorem startHolders_eq (l : List HolderId) (s : State) : l.foldl startHolder s =
    { s with stock := { s.stock with holders := (l.foldl startHolder s).stock.holders } } := by
  induction l generalizing s with
  | nil => rfl
  | cons h l ih =>
    rw [List.foldl_cons, ih]
    rfl

theorem holder_startHolders (l : List HolderId) (once : l.Nodup) (s : State) (h : HolderId) :
    (l.foldl startHolder s).holder h = if h ∈ l then (s.holder h).started (s.holderSettings h) else s.holder h := by
  induction l generalizing s with
  | nil => rfl
  | cons k l ih =>
    obtain ⟨fresh, once⟩ := List.nodup_cons.mp once
    rw [List.foldl_cons, ih once]
    by_cases same : k = h
    · subst same
      simp [fresh, startHolder]
    · simp [startHolder, same, Ne.symm same, State.holderSettings]

/-- The part with its silence timers set and its condition judged (R35). -/
def State.stockStarted (s : State) : State := setCondition (allHolders.foldl startHolder s)

theorem handle_startStock (s : State) : handle .startStock s =
    (s.stockStarted, conditionWords s.stock.condition s.stockStarted) := by
  show judgeStock (allHolders.foldl startHolder s) = _
  rw [judgeStock, State.stockStarted, startHolders_eq]

theorem stockStarted_eq (s : State) : s.stockStarted = { s with stock := s.stockStarted.stock } := by
  rw [State.stockStarted, setCondition, startHolders_eq]
  split <;> rfl

theorem settings_stockStarted (s : State) : s.stockStarted.settings = s.settings := by
  rw [stockStarted_eq]

theorem holder_stockStarted (h : HolderId) : s.stockStarted.holder h = (s.holder h).started (s.holderSettings h) := by
  have holder : s.stockStarted.holder h = (allHolders.foldl startHolder s).holder h := by
    rw [State.stockStarted, setCondition]
    split <;> rfl
  rw [holder, holder_startHolders _ (by decide), if_pos (mem_allHolders h)]

theorem conditionNow_congr (settings : t.settings = s.settings) (stock : t.stock = s.stock) :
    t.conditionNow = s.conditionNow := by
  simp only [State.conditionNow, State.stockReading, State.yardStock, State.stockComplete, State.holder,
    State.inStock, State.holderSettings, settings, stock] <;> rfl

theorem condition_stockStarted (run : s.control.phase = .run) :
    s.stockStarted.stock.condition = s.stockStarted.conditionNow := by
  have still : (allHolders.foldl startHolder s).control = s.control := by rw [startHolders_eq]
  rw [State.stockStarted, setCondition, if_pos (running_eq_true (by rw [still]; exact run))]
  rfl

/-! ### Setpoints found at districts that are not loaded -/

theorem state_findSetpoint (d e : DistrictId) (s : State) :
    ((findSetpoint d s).district e).state = (s.district e).state := by
  unfold findSetpoint
  split
  · dsimp only
    split
    all_goals
      by_cases same : d = e
      · subst same
        simp [startLockout]
      · simp [startLockout, same]
  · rfl

theorem state_findSetpoints (e : DistrictId) (s : State) :
    ((findSetpoints s).district e).state = (s.district e).state :=
  keeps_foldl (fun t => (t.district e).state) (fun t d => state_findSetpoint d e t) allDistricts s

theorem findSetpoints_notify (s : State) (n : Notice) : findSetpoints (s.notify n) = { s with
    districts := (findSetpoints (s.notify n)).districts, link := (findSetpoints (s.notify n)).link } := by
  generalize found : findSetpoints (s.notify n) = t
  rw [findSetpoints_eq] at found
  rw [← found]
  rfl

/-- The whole of START at the stock unit, the setpoints found afresh where the condition changes (R31, R35). -/
theorem startStock_takes (s : State) : ∃ k ≤ 3, ∃ t, Takes k false [.startStock] s t ∧
    t = { s with stock := s.stockStarted.stock, districts := t.districts, link := t.link } ∧
    ∀ d, (t.district d).state = (s.district d).state := by
  have effect := handle_startStock s
  obtain ⟨stock, record⟩ : ∃ stock, s.stockStarted = { s with stock := stock } := ⟨_, stockStarted_eq s⟩
  rw [record] at effect ⊢
  simp only [conditionWords] at effect
  split at effect
  · exact ⟨1, by omega, _, .cons rfl effect (.nil _ _), rfl, fun _ => rfl⟩
  · generalize Notice.stockCondition .. = n at effect
    refine ⟨3, by omega, _, .cons rfl effect (.cons rfl rfl (.cons rfl rfl (.nil _ _))),
      findSetpoints_notify _ n, fun d => state_findSetpoints d _⟩

/-! ### The selector -/

theorem find_candidate {chosen : Option HolderId} (candidates : ∀ h, s.candidate h = true ↔ chosen = some h) :
    allHolders.find? s.candidate = chosen := by
  cases chosen with
  | none => exact List.find?_eq_none.mpr fun h _ found => nomatch (candidates h).mp found
  | some h =>
    cases found : allHolders.find? s.candidate with
    | none => exact absurd ((candidates h).mpr rfl) (List.find?_eq_none.mp found h (mem_allHolders h))
    | some k => exact ((candidates k).mp (List.find?_some found)).symm

/-- START at the selector with one open holder at most, and no stray outlet (R55). -/
theorem handle_startSelector {chosen : Option HolderId} (candidates : ∀ h, s.candidate h = true ↔ chosen = some h)
    (shut : ∀ h, chosen ≠ some h → s.openOutlet h = false) : handle .startSelector s =
      (s.putSelector { Selector.atReset with state := restState chosen, current := chosen }, []) := by
  have strays : (allHolders.filter fun h => !decide (chosen = some h) && (s.candidate h || s.openOutlet h)) = [] := by
    refine List.filter_eq_nil_iff.mpr fun h _ => ?_
    by_cases same : chosen = some h
    · simp [same]
    · have none : s.candidate h = false := Bool.eq_false_iff.mpr fun found => same ((candidates h).mp found)
      simp [shut h same, none]
  simp only [handle, startSelector, find_candidate candidates, strays, List.isEmpty_nil, if_true]

end

end Sys2Proof.Machine
end

section
/-!
START at the district unit.
-/

namespace Sys2Proof.Machine

/-! ## START at the district unit (R135) -/

section
variable {s t u : State} {d e : DistrictId} {p q : OutletId}

/-- Two districts do not share an outlet (R117). -/
theorem district_of_outlet (own : s.outletOf d = some p) (other : s.outletOf e = some p) : d = e := by
  have at_d := List.find?_some own
  have at_e := List.find?_some other
  rw [decide_eq_true_eq] at at_d at_e
  exact Option.some.inj (at_d.symm.trans at_e)

/-- The valve of an outlet is its own. -/
theorem districtValve_inj (same : districtValve p = districtValve q) : p = q := by
  simpa [districtValve, Fin.ext_iff] using same

/-- A mapped district as START adopts it from `s`: what `t` has of it. -/
structure DistrictStarted (s : State) (d : DistrictId) (p : OutletId) (t : State) : Prop where
  held : (t.district d).held = (s.district d).held
  inForce : (t.district d).inForce = some (s.setpointNow d)
  shut : (s.valve (districtValve p)).position ≠ .opened → (t.district d).state = (s.district d).state ∧
    (t.valve (districtValve p)).claim = (s.valve (districtValve p)).claim
  live : (s.valve (districtValve p)).position = .opened → (s.valve (districtValve p)).fault = .noFault →
    (t.district d).state = .live ∧
    (t.district d).lockout =
      (if (s.districtSettings d).lockout = 0 then none else some (s.districtSettings d).lockout) ∧
    (t.valve (districtValve p)).claim = .district d ∧ t.districts.outputs[p] = (s.setpointNow d).value
  faulted : (s.valve (districtValve p)).position = .opened → (s.valve (districtValve p)).fault ≠ .noFault →
    (t.district d).state = .fault ∧ (t.valve (districtValve p)).claim = .district d ∧ t.districts.outputs[p] = 0

theorem DistrictStarted.congr (started : DistrictStarted s d p t) (valves : u.valves = t.valves)
    (districts : u.districts = t.districts) : DistrictStarted s d p u := by
  have district : u.district d = t.district d := by rw [State.district, districts, State.district]
  have valve : u.valve (districtValve p) = t.valve (districtValve p) := by rw [State.valve, valves, State.valve]
  obtain ⟨held, inForce, shut, live, faulted⟩ := started
  rw [← district] at held inForce shut live faulted
  rw [← valve] at shut live faulted
  rw [← districts] at live faulted
  exact ⟨held, inForce, shut, live, faulted⟩

/-- What START at a district with the outlet `p` leaves alone. -/
structure BesideDistrict (d : DistrictId) (p : OutletId) (s t : State) : Prop where
  units : t = { s with valves := t.valves, districts := t.districts }
  valve : ∀ v, t.valve v = { s.valve v with claim := (t.valve v).claim }
  otherValve : ∀ v, v ≠ districtValve p → t.valve v = s.valve v
  otherDistrict : ∀ e, e ≠ d → t.district e = s.district e
  otherOutlet : ∀ q, q ≠ p → t.districts.outputs[q] = s.districts.outputs[q]

theorem BesideDistrict.trans (first : BesideDistrict d p s t) (second : BesideDistrict d p t u) :
    BesideDistrict d p s u where
  units := by rw [second.units, first.units]
  valve v := by rw [second.valve, first.valve]
  otherValve v other := (second.otherValve v other).trans (first.otherValve v other)
  otherDistrict e other := (second.otherDistrict e other).trans (first.otherDistrict e other)
  otherOutlet q other := (second.otherOutlet q other).trans (first.otherOutlet q other)

theorem BesideDistrict.putDistrict (x : District) : BesideDistrict d p s (s.putDistrict d x) where
  units := rfl
  valve _ := rfl
  otherValve _ _ := rfl
  otherDistrict e other := by rw [State.district_putDistrict, if_neg (Ne.symm other)]
  otherOutlet _ _ := rfl

theorem BesideDistrict.putOutput (n : Nat) : BesideDistrict d p s (s.putOutput p n) where
  units := rfl
  valve _ := rfl
  otherValve _ _ := rfl
  otherDistrict _ _ := rfl
  otherOutlet q other := by rw [State.outputs_putOutput, if_neg (Ne.symm other)]

theorem BesideDistrict.putClaim (k : Claim) : BesideDistrict d p s (s.putClaim (districtValve p) k) where
  units := rfl
  valve v := by
    rw [State.valve_putClaim]
    split
    next same => rw [same]
    next => rfl
  otherValve v other := by rw [State.valve_putClaim, if_neg (Ne.symm other)]
  otherDistrict _ _ := rfl
  otherOutlet _ _ := rfl

/-- A district with its setpoint found. -/
def State.setpointFound (s : State) (d : DistrictId) : State :=
  s.putDistrict d { s.district d with inForce := some (s.setpointNow d) }

section
variable (outlet : s.outletOf d = some p)
include outlet

theorem startDistrict_shut (position : (s.valve (districtValve p)).position ≠ .opened) :
    startDistrict d s = (s.setpointFound d, []) := by
  simp [startDistrict, outlet, position, State.setpointFound]

theorem startDistrict_live (position : (s.valve (districtValve p)).position = .opened)
    (fault : (s.valve (districtValve p)).fault = .noFault) : ∃ n, startDistrict d s =
      (((s.setpointFound d).putClaim (districtValve p) (.district d)).live d p, [.notice n]) := by
  have mapped : ((s.setpointFound d).putClaim (districtValve p) (.district d)).outletOf d = some p := outlet
  have lives := startLockout_setDistrictState mapped
  rw [State.setpointFound] at lives ⊢
  simp only [startDistrict, outlet, position, fault, ne_eq, not_true_eq_false, if_false, if_true, lives]
  exact ⟨_, rfl⟩

theorem startDistrict_faulted (position : (s.valve (districtValve p)).position = .opened)
    (fault : (s.valve (districtValve p)).fault ≠ .noFault) : ∃ n, startDistrict d s =
      (((s.setpointFound d).putClaim (districtValve p) (.district d)).resting d p .fault .unasked, [.notice n]) := by
  have mapped : ((s.setpointFound d).putClaim (districtValve p) (.district d)).outletOf d = some p := outlet
  have rests := setDistrictState_unloaded (k := .fault) rfl mapped
  rw [State.setpointFound] at rests ⊢
  simp only [startDistrict, outlet, position, fault, ne_eq, not_true_eq_false, if_false, rests]
  exact ⟨_, rfl⟩

/-- What START at a mapped district does, and what it leaves alone (R135). -/
theorem startDistrict_adopts : BesideDistrict d p s (startDistrict d s).1 ∧
    DistrictStarted s d p (startDistrict d s).1 ∧
    ∃ l : List Notice, l.length ≤ 1 ∧ (startDistrict d s).2 = l.map .notice := by
  have found : BesideDistrict d p s ((s.setpointFound d).putClaim (districtValve p) (.district d)) :=
    .trans (.putDistrict _) (.putClaim _)
  by_cases position : (s.valve (districtValve p)).position = .opened
  · by_cases fault : (s.valve (districtValve p)).fault = .noFault
    · obtain ⟨n, effect⟩ := startDistrict_live outlet position fault
      rw [effect]
      refine ⟨found.trans (.trans (.putDistrict _) (.putOutput _)), ⟨?_, ?_, fun other => absurd position other,
        fun _ _ => ?_, fun _ other => absurd fault other⟩, [n], Nat.le_refl _, rfl⟩
      · simp [State.live, State.setpointFound]
      · simp [State.live, State.setpointFound]
      · refine ⟨by simp [State.live], by simp [State.live, State.setpointFound, State.districtSettings] <;> rfl,
          by simp [State.live], ?_⟩
        refine (State.outputs_putOutput _ p p _).trans ((if_pos rfl).trans ?_)
        simp [State.setpointFound]
    · obtain ⟨n, effect⟩ := startDistrict_faulted outlet position fault
      rw [effect]
      refine ⟨found.trans (.trans (.putDistrict _) (.putOutput _)), ⟨?_, ?_, fun other => absurd position other,
        fun _ other => absurd other fault, fun _ _ => ?_⟩, [n], Nat.le_refl _, rfl⟩
      · simp [State.resting, State.setpointFound]
      · simp [State.resting, State.setpointFound]
      · refine ⟨by simp [State.resting], by simp [State.resting], ?_⟩
        exact (State.outputs_putOutput _ p p _).trans (if_pos rfl)
  · rw [startDistrict_shut outlet position]
    exact ⟨.putDistrict _, ⟨by simp [State.setpointFound], by simp [State.setpointFound],
      fun _ => by simp [State.setpointFound], fun other => absurd other position,
      fun other => absurd other position⟩, [], Nat.zero_le _, rfl⟩

end

theorem startDistrict_unmapped (unmapped : s.outletOf d = none) : startDistrict d s = (s, []) := by
  simp [startDistrict, unmapped]

/-! ### The districts one after another -/

/-- The districts of `rest` are still as `s` has them, the others adopted from `s`. -/
structure DistrictsStarted (s : State) (rest : List DistrictId) (t : State) : Prop where
  units : t = { s with valves := t.valves, districts := t.districts }
  valve : ∀ v, t.valve v = { s.valve v with claim := (t.valve v).claim }
  elsewhere : ∀ v, (∀ d p, s.outletOf d = some p → v ≠ districtValve p) → t.valve v = s.valve v
  waiting : ∀ d ∈ rest, ∀ p, s.outletOf d = some p →
    t.district d = s.district d ∧ t.valve (districtValve p) = s.valve (districtValve p)
  adopted : ∀ d, d ∉ rest → ∀ p, s.outletOf d = some p → DistrictStarted s d p t

theorem setpointNow_congr (settings : t.settings = s.settings) (stock : t.stock = s.stock) (clock : t.clock = s.clock)
    (held : (t.district d).held = (s.district d).held) : t.setpointNow d = s.setpointNow d := by
  simp only [State.setpointNow, State.districtSettings, settings, stock, clock, held]

/-- A district that is as it was is adopted as it would have been. -/
theorem DistrictStarted.of_same (started : DistrictStarted t d p u) (settings : t.settings = s.settings)
    (stock : t.stock = s.stock) (clock : t.clock = s.clock) (district : t.district d = s.district d)
    (valve : t.valve (districtValve p) = s.valve (districtValve p)) : DistrictStarted s d p u := by
  obtain ⟨held, inForce, shut, live, faulted⟩ := started
  rw [setpointNow_congr settings stock clock (by rw [district])] at inForce live
  rw [valve] at shut live faulted
  rw [district] at held shut
  rw [State.districtSettings, settings] at live
  exact ⟨held, inForce, shut, live, faulted⟩

/-- What another district's START leaves of an adopted one. -/
theorem DistrictStarted.beside (started : DistrictStarted s e q t) (beside : BesideDistrict d p t u) (other : e ≠ d)
    (outlet : q ≠ p) : DistrictStarted s e q u := by
  obtain ⟨held, inForce, shut, live, faulted⟩ := started
  have district := beside.otherDistrict e other
  have valve := beside.otherValve (districtValve q) fun same => outlet (districtValve_inj same)
  have output := beside.otherOutlet q outlet
  exact ⟨district ▸ held, district ▸ inForce, by rw [district, valve]; exact shut,
    by rw [district, valve, output]; exact live, by rw [district, valve, output]; exact faulted⟩

theorem DistrictsStarted.step {rest : List DistrictId} (before : DistrictsStarted s (d :: rest) t)
    (once : d ∉ rest) : DistrictsStarted s rest (startDistrict d t).1 ∧
      ∃ l : List Notice, l.length ≤ 1 ∧ (startDistrict d t).2 = l.map .notice := by
  have settings : t.settings = s.settings := by rw [before.units]
  have mapped (e : DistrictId) : t.outletOf e = s.outletOf e := by rw [State.outletOf, settings, State.outletOf]
  cases outlet : s.outletOf d with
  | none =>
    rw [startDistrict_unmapped ((mapped d).trans outlet)]
    refine ⟨⟨before.units, before.valve, before.elsewhere, fun e mem => before.waiting e (.tail _ mem),
      fun e fresh q at_q => before.adopted e ?_ q at_q⟩, [], Nat.zero_le _, rfl⟩
    rintro (_ | ⟨_, mem⟩)
    · exact nomatch outlet.symm.trans at_q
    · exact fresh mem
  | some p =>
    obtain ⟨beside, started, words⟩ := startDistrict_adopts ((mapped d).trans outlet)
    obtain ⟨district, valve⟩ := before.waiting d (.head _) p outlet
    have apart (e : DistrictId) (other : e ≠ d) (q : OutletId) (at_q : s.outletOf e = some q) : q ≠ p :=
      fun same => other (district_of_outlet at_q (same ▸ outlet))
    refine ⟨⟨?_, ?_, ?_, ?_, ?_⟩, words⟩
    · rw [beside.units, before.units]
    · exact fun v => by rw [beside.valve, before.valve]
    · exact fun v none => (beside.otherValve v (none d p outlet)).trans (before.elsewhere v none)
    · intro e mem q at_q
      have other : e ≠ d := fun same => once (same ▸ mem)
      obtain ⟨still, closed⟩ := before.waiting e (.tail _ mem) q at_q
      exact ⟨(beside.otherDistrict e other).trans still,
        (beside.otherValve _ fun same => apart e other q at_q (districtValve_inj same)).trans closed⟩
    · intro e fresh q at_q
      by_cases same : e = d
      · subst same
        obtain rfl : p = q := Option.some.inj (outlet.symm.trans at_q)
        exact started.of_same settings (by rw [before.units]) (by rw [before.units]) district valve
      · have done : e ∉ d :: rest := by
          rintro (_ | ⟨_, mem⟩)
          · exact same rfl
          · exact fresh mem
        exact (before.adopted e done q at_q).beside beside same (apart e same q at_q)

theorem DistrictsStarted.fold {rest : List DistrictId} {l : List Notice}
    (before : DistrictsStarted s rest t) (once : rest.Nodup) :
    ∃ m : List Notice, m.length ≤ l.length + rest.length ∧
      (rest.foldl (fun e d => Effect.andThen e (startDistrict d)) (t, l.map .notice)).2 = m.map .notice ∧
      DistrictsStarted s [] (rest.foldl (fun e d => Effect.andThen e (startDistrict d)) (t, l.map .notice)).1 := by
  induction rest generalizing t l with
  | nil => exact ⟨l, Nat.le_refl _, rfl, before⟩
  | cons d rest ih =>
    obtain ⟨fresh, once⟩ := List.nodup_cons.mp once
    obtain ⟨step, n, few, words⟩ := before.step fresh
    obtain ⟨m, short, told, done⟩ := ih step once (l := l ++ n)
    have next : Effect.andThen (t, l.map .notice) (startDistrict d) =
        ((startDistrict d t).1, (l ++ n).map .notice) := by
      rw [List.map_append, ← words]
      rfl
    rw [List.foldl_cons, next]
    refine ⟨m, ?_, told, done⟩
    rw [List.length_append] at short
    rw [List.length_cons]
    omega

/-- The whole of START at the district unit. -/
theorem startDistricts_takes (s : State) : ∃ k ≤ 7, ∃ t link, Takes k false [.startDistricts] s (t.putLink link) ∧
    DistrictsStarted s [] t := by
  have before : DistrictsStarted s allDistricts s :=
    ⟨rfl, fun _ => rfl, fun _ _ => rfl, fun _ _ _ _ => ⟨rfl, rfl⟩,
      fun d fresh => absurd (mem_allDistricts d) fresh⟩
  obtain ⟨m, few, words, started⟩ := before.fold (l := []) (by decide)
  have six : m.length ≤ 6 := few
  have first := Steps.word (told := false) (a := .startDistricts) (s := s) rfl rfl
  rw [show (handle .startDistricts s).2 = m.map .notice from words] at first
  have whole := first.trans (.notices m _)
  rw [notices_eq] at whole
  exact ⟨1 + m.length, by omega, (startDistricts s).1, _, whole, started⟩

end

end Sys2Proof.Machine
end

section
/-!
START at the account unit.
-/

namespace Sys2Proof.Machine

/-! ## START at the account unit (R168, R174) -/

section
variable {s t u : State} {i : HalfId}

/-! ### The take summed over slots and halves -/

/-- What a half adds to the take of a day (R168). -/
def Half.share (h : Half) (source : SourceId) (day : Nat) : Nat :=
  if h.state ≠ .empty ∧ h.first.day = day then h.columns[source.val] else 0

/-- What the posted slots add to it. -/
def bookShare (book : List Slot) (source : SourceId) (day : Nat) : Nat :=
  ((book.filter fun b => b.first.day = day).map fun b => b.columns[source.val]).sum

/-- The take of a day before it is held to its bound. -/
def State.dayTake (s : State) (source : SourceId) : Nat :=
  bookShare s.accounts.book source s.clock.day +
    ((s.half .a).share source s.clock.day + (s.half .b).share source s.clock.day)

theorem sumTake_eq {source : SourceId} (contract : s.settings.source = some source) :
    s.sumTake = capVolume (s.dayTake source) := by
  simp only [State.sumTake, contract, State.dayTake, bookShare, Half.share]
  congr 2
  by_cases a : (s.half .a).state ≠ .empty ∧ (s.half .a).first.day = s.clock.day <;>
    by_cases b : (s.half .b).state ≠ .empty ∧ (s.half .b).first.day = s.clock.day <;>
    simp [a, b]

theorem capVolume_mono {m n : Nat} (le : m ≤ n) : capVolume m ≤ capVolume n := by
  simp only [capVolume]
  split <;> split <;> omega

/-- The two halves, counted from either. -/
theorem dayTake_halves (i : HalfId) (source : SourceId) : s.dayTake source =
    bookShare s.accounts.book source s.clock.day +
      ((s.half i).share source s.clock.day + (s.half i.other).share source s.clock.day) := by
  cases i
  · rfl
  · rw [State.dayTake, Nat.add_comm ((s.half .a).share _ _)]
    rfl

theorem share_openedHalf (begins : Interval) (reading : StockReading) (marks : Marks) (atStart : Bool)
    (source : SourceId) (day : Nat) : (openedHalf begins reading marks atStart).share source day = 0 := by
  simp [Half.share, openedHalf]

theorem share_of_empty {h : Half} (empty : h.state = .empty) (source : SourceId) (day : Nat) : h.share source day = 0 :=
  if_neg fun counted => counted.1 empty

theorem bookShare_append (book : List Slot) (x : Slot) (source : SourceId) (day : Nat) :
    bookShare (book ++ [x]) source day = bookShare book source day +
      if x.first.day = day then x.columns[source.val] else 0 := by
  by_cases inDay : x.first.day = day <;> simp [bookShare, inDay]

/-- Counted from one half, whatever that half becomes. -/
theorem dayTake_putHalf (i : HalfId) (y : Half) (source : SourceId) : (s.putHalf i y).dayTake source =
    bookShare s.accounts.book source s.clock.day +
      (y.share source s.clock.day + (s.half i.other).share source s.clock.day) := by
  rw [dayTake_halves i, State.half_putHalf, if_pos rfl, State.half_putHalf, if_neg (other_ne i).symm]
  rfl

/-! ### The halves -/

/-- The FILLING half that START takes up (R155, R174). -/
def Half.takenUp (x : Half) : Half := { x with marks := { x.marks with mapChanged := true, basisChanged := true } }

theorem startHalves_none (none : s.halfIn .filling = none) : startHalves s =
    (s.putHalf .a (openedHalf s.clock.interval s.stockReading { noMarks with powerGap := s.accounts.gapPending }
      s.unknownContent), []) := by
  simp only [startHalves, none]

section
variable (filling : s.halfIn .filling = some i)
include filling

theorem startHalves_same (last : (s.half i).last = s.clock.interval) :
    startHalves s = (s.putHalf i (s.half i).takenUp, []) := by
  simp only [startHalves, filling]
  rw [if_pos last]
  rfl

variable (later : (s.half i).last ≠ s.clock.interval)
include later

theorem startHalves_turns (empty : (s.half i.other).state = .empty) : startHalves s =
    turnHalves i (s.half i).takenUp.clockSet s.clock.interval s.unknownContent s := by
  simp only [startHalves, filling, later, empty, if_true, if_false]
  rfl

theorem startHalves_stretches (busy : (s.half i.other).state ≠ .empty) : startHalves s =
    (s.putHalf i ((s.half i).takenUp.clockSet.stretched s.clock.interval
      (dayLater s.clock.day (s.half i).last.day)), []) := by
  simp only [startHalves, filling, later, busy, if_false]
  rfl

end

theorem dayTake_turnHalves {x : Half} {begins : Interval} {atStart : Bool} {source : SourceId}
    (share : x.share source s.clock.day = (s.half i).share source s.clock.day)
    (filling : x.state = .filling) (empty : (s.half i.other).state = .empty) :
    (turnHalves i x begins atStart s).1.dayTake source = s.dayTake source := by
  have counted : x.share source s.clock.day = if x.first.day = s.clock.day then x.columns[source.val] else 0 := by
    simp [Half.share, filling]
  have before : s.dayTake source = bookShare s.accounts.book source s.clock.day + x.share source s.clock.day := by
    rw [dayTake_halves i, share_of_empty empty, Nat.add_zero, share]
  by_cases room : s.accounts.book.length < 64
  · have posted : ((s.turnedPosted i x begins atStart).half i) = Half.empty := by
      show ((s.turned i x begins atStart).putHalf i Half.empty).half i = _
      rw [State.half_putHalf, if_pos rfl]
    rw [turnHalves_of_room room, dayTake_halves i, half_turnedPosted_other, share_openedHalf, posted,
      share_of_empty rfl, before, counted]
    exact bookShare_append _ _ _ _
  · rw [turnHalves_of_full (Nat.not_lt.mp room), dayTake_putHalf, half_turned_other, share_openedHalf, before, counted]
    simp [Half.share, Half.closed, State.turned]

/-- START's taking up of the halves counts nothing twice (R168, R174). -/
theorem dayTake_startHalves (source : SourceId) : (startHalves s).1.dayTake source ≤ s.dayTake source := by
  cases filling : s.halfIn .filling with
  | none =>
    rw [startHalves_none filling, dayTake_putHalf, share_openedHalf, dayTake_halves .a]
    omega
  | some i =>
    have state := halfIn_state filling
    by_cases last : (s.half i).last = s.clock.interval
    · rw [startHalves_same filling last, dayTake_putHalf, dayTake_halves i]
      exact Nat.le_refl _
    · by_cases empty : (s.half i.other).state = .empty
      · rw [startHalves_turns filling last empty]
        exact Nat.le_of_eq (dayTake_turnHalves (x := (s.half i).takenUp.clockSet) rfl state empty)
      · rw [startHalves_stretches filling last empty, dayTake_putHalf, dayTake_halves i]
        exact Nat.le_refl _

/-! ### The contract and the gap -/

/-- The contract is not spent as START judges it (R168, R171). -/
def State.unspent (s : State) : Prop := s.settings.source = none ∨
  (if s.clock.day = s.accounts.takeDay then s.accounts.take else s.sumTake) < s.settings.cap

theorem startContract_of_unspent (unspent : s.unspent) : ∃ take takeDay, startContract s =
    (s.putAccounts { s.accounts with take := take, takeDay := takeDay, cut := false }, []) := by
  by_cases today : s.clock.day = s.accounts.takeDay
  · refine ⟨s.accounts.take, s.accounts.takeDay, ?_⟩
    simp only [State.unspent, today, if_true] at unspent
    simp only [startContract, today, if_true]
    exact judgeContract_open (s := s.putAccounts { s.accounts with cut := false }) unspent
  · refine ⟨s.sumTake, s.clock.day, ?_⟩
    simp only [State.unspent, today, if_false] at unspent
    simp only [startContract, today, if_false]
    exact judgeContract_open (s := (recomputeTake s).putAccounts { (recomputeTake s).accounts with cut := false })
      unspent

/-- START changes one half, or turns the two. -/
theorem startHalves_form (s : State) : (∃ i y, startHalves s = (s.putHalf i y, [])) ∨
    ∃ i x, startHalves s = turnHalves i x s.clock.interval s.unknownContent s := by
  cases filling : s.halfIn .filling with
  | none => exact .inl ⟨_, _, startHalves_none filling⟩
  | some i =>
    by_cases last : (s.half i).last = s.clock.interval
    · exact .inl ⟨_, _, startHalves_same filling last⟩
    · by_cases empty : (s.half i.other).state = .empty
      · exact .inr ⟨_, _, startHalves_turns filling last empty⟩
      · exact .inl ⟨_, _, startHalves_stretches filling last empty⟩

/-- The contract's record but for the halves and the book is as before START took the halves up. -/
theorem startHalves_contract (s : State) : (startHalves s).1.accounts.take = s.accounts.take ∧
    (startHalves s).1.accounts.takeDay = s.accounts.takeDay := by
  obtain ⟨i, y, effect⟩ | ⟨i, x, effect⟩ := startHalves_form s <;> rw [effect]
  · exact ⟨rfl, rfl⟩
  · exact take_turnHalves

theorem turnHalves_eq_accounts {x : Half} {begins : Interval} {atStart : Bool} :
    (turnHalves i x begins atStart s).1 = { s with accounts := (turnHalves i x begins atStart s).1.accounts } := by
  by_cases room : s.accounts.book.length < 64
  · rw [turnHalves_of_room room]
    rfl
  · rw [turnHalves_of_full (Nat.not_lt.mp room)]
    rfl

theorem startHalves_eq (s : State) : (startHalves s).1 = { s with accounts := (startHalves s).1.accounts } := by
  obtain ⟨i, y, effect⟩ | ⟨i, x, effect⟩ := startHalves_form s <;> rw [effect]
  · rfl
  · exact turnHalves_eq_accounts

theorem startHalves_notices (s : State) : ∃ l : List Notice, l.length ≤ 3 ∧ (startHalves s).2 = l.map .notice := by
  obtain ⟨i, y, effect⟩ | ⟨i, x, effect⟩ := startHalves_form s <;> rw [effect]
  · exact ⟨[], Nat.zero_le _, rfl⟩
  · exact postReady_notices _

/-- A contract unspent before the halves are taken up is so after. -/
theorem startHalves_unspent (unspent : s.unspent) : (startHalves s).1.unspent := by
  have units := startHalves_eq s
  have settings : (startHalves s).1.settings = s.settings := by rw [units]
  have clock : (startHalves s).1.clock = s.clock := by rw [units]
  obtain ⟨take, takeDay⟩ := startHalves_contract s
  rw [State.unspent, settings, clock, take, takeDay]
  cases contract : s.settings.source with
  | none => exact .inl rfl
  | some source =>
    right
    rw [State.unspent, contract] at unspent
    have below := unspent.resolve_left nofun
    by_cases today : s.clock.day = s.accounts.takeDay
    · rw [if_pos today] at below ⊢
      exact below
    · rw [if_neg today] at below ⊢
      rw [sumTake_eq ((congrArg Settings.source settings).trans contract)]
      rw [sumTake_eq contract] at below
      exact Nat.lt_of_le_of_lt (capVolume_mono (dayTake_startHalves source)) below

/-- The gap, told and forgotten (R172). -/
theorem startGap_keeps (s : State) : (startGap s).1 = { s with accounts := (startGap s).1.accounts } ∧
    (startGap s).1.accounts.halves = s.accounts.halves ∧ (startGap s).1.accounts.book = s.accounts.book ∧
    ∃ l : List Notice, l.length ≤ 1 ∧ (startGap s).2 = l.map .notice := by
  simp only [startGap]
  split
  · exact ⟨rfl, rfl, rfl, [_], Nat.le_refl _, rfl⟩
  · exact ⟨rfl, rfl, rfl, [], Nat.zero_le _, rfl⟩

/-- The whole of START at the account unit, with a contract unspent: the halves and the book are as the taking up of the
halves left them. -/
theorem startAccounts_takes (unspent : s.unspent) : ∃ k ≤ 5, ∃ (t : State) (link : LinkPort),
    Takes k false [.startAccounts] s (t.putLink link) ∧ t = { s with accounts := t.accounts } ∧
    t.accounts.halves = (startHalves s).1.accounts.halves ∧ t.accounts.book = (startHalves s).1.accounts.book := by
  have units := startHalves_eq s
  obtain ⟨l, few, words⟩ := startHalves_notices s
  obtain ⟨take, takeDay, contract⟩ := startContract_of_unspent (startHalves_unspent unspent)
  have effect : startAccounts s = ((startGap (startContract (startHalves s).1).1).1,
    (startHalves s).2 ++ (startContract (startHalves s).1).2 ++ (startGap (startContract (startHalves s).1).1).2) := rfl
  rw [contract, words] at effect
  generalize startHalves s = e at effect units ⊢
  obtain ⟨gap, halves, book, m, short, told⟩ := startGap_keeps
    (e.1.putAccounts { e.1.accounts with take := take, takeDay := takeDay, cut := false })
  rw [told, List.append_nil, ← List.map_append] at effect
  have first := (Steps.word (told := false) (a := .startAccounts) (s := s) rfl effect).trans (.notices (l ++ m) _)
  rw [notices_eq] at first
  refine ⟨1 + (l ++ m).length, by rw [List.length_append]; omega, _, _, first, ?_, halves, book⟩
  rw [gap, units]
  rfl

end

end Sys2Proof.Machine
end

section
/-!
START taken (R194).
-/

namespace Sys2Proof.Machine

/-! ## START taken (R194) -/

section
variable {s t : State} {chosen : Option HolderId}

/-- A holder whose open outlet START takes as the one in SERVICE (R55). -/
def State.opensAt (s : State) (h : HolderId) : Prop := s.settings.holders[h].configured = true ∧
  (s.holder h).state = .service ∧ (s.valve (outletValve h)).adopted = .opened

/-- A part in RUN on which START's steps find nothing on its way: one open holder at most, no stray outlet, the contract
not spent. -/
structure Startable (s : State) (chosen : Option HolderId) : Prop where
  run : s.control.phase = .run
  stop : s.control.stopAsserted = false
  idle : ∀ c, (s.channel c).current = none
  unspent : s.unspent
  candidate : ∀ h, chosen = some h → s.opensAt h
  others : ∀ h, chosen ≠ some h → ¬s.opensAt h ∧
    ((s.valve (outletValve h)).adopted = .closed ∨ (s.valve (outletValve h)).fault ≠ .noFault)

theorem outletValve_ne_districtValve (h : HolderId) (p : OutletId) : outletValve h ≠ districtValve p := by
  simp only [outletValve, districtValve, ne_eq, Fin.mk.injEq]
  omega

theorem claimsOutlets_outletValve (h : HolderId) : allHolders.any (fun k => outletValve k = outletValve h) = true :=
  List.any_eq_true.mpr ⟨h, mem_allHolders h, by simp⟩

theorem claimsOutlets_districtValve (p : OutletId) :
    allHolders.any (fun k => outletValve k = districtValve p) = false :=
  List.any_eq_false.mpr fun k _ => by simpa using outletValve_ne_districtValve k p

/-! ### The valve unit, the stock unit and the selector -/

/-- What START leaves of `s` at the valve unit, the stock unit and the selector. -/
structure PlantStarted (s : State) (chosen : Option HolderId) (t : State) : Prop where
  valve : ∀ v, t.valve v = { s.valve v with
    position := (s.valve v).adopted,
    claim := if allHolders.any (fun h => outletValve h = v) then .selector else (s.valve v).claim }
  holder : ∀ h, t.holder h = (s.holder h).started s.settings.holders[h]
  condition : t.stock.condition = t.conditionNow
  selector : t.selector = { Selector.atReset with state := restState chosen, current := chosen }
  district : ∀ d, (t.district d).state = (s.district d).state
  settings : t.settings = s.settings
  control : t.control = s.control
  clock : t.clock = s.clock
  channels : t.channels = s.channels
  accounts : t.accounts = s.accounts

theorem startPlant_takes (ready : Startable s chosen) : ∃ k ≤ 5, ∃ t,
    Takes k false [.startValves, .startStock, .startSelector] s t ∧ PlantStarted s chosen t := by
  obtain ⟨vs, adopted⟩ : ∃ vs, adoptValves s = { s with valves := vs } := ⟨_, adoptValves_eq s⟩
  obtain ⟨k, few, u, takes, units, states⟩ := startStock_takes (adoptValves s)
  have valve (v : ValveId) : u.valve v = { s.valve v with
      position := (s.valve v).adopted,
      claim := if allHolders.any (fun h => outletValve h = v) then .selector else (s.valve v).claim } := by
    rw [← valve_adoptValves, State.valve, units, State.valve]
  have stock : u.stock = (adoptValves s).stockStarted.stock := by rw [units]
  have settings : u.settings = s.settings := by rw [units, adopted]
  have holder (h : HolderId) : u.holder h = (s.holder h).started s.settings.holders[h] := by
    rw [State.holder, stock]
    refine (holder_stockStarted h).trans ?_
    rw [adopted]
    rfl
  have condition : u.stock.condition = u.conditionNow := by
    rw [stock, condition_stockStarted (by rw [adopted]; exact ready.run)]
    exact (conditionNow_congr (by rw [units, settings_stockStarted]) stock).symm
  have candidates (h : HolderId) : u.candidate h = true ↔ chosen = some h := by
    simp only [State.candidate, State.holderSettings, settings, holder, valve, Bool.and_eq_true, decide_eq_true_eq,
      and_assoc]
    constructor
    · intro opens
      refine Decidable.byContradiction fun other => ?_
      exact (ready.others h other).1 opens
    · exact ready.candidate h
  have shut (h : HolderId) (other : chosen ≠ some h) : u.openOutlet h = false := by
    simp only [State.openOutlet, valve]
    rcases (ready.others h other).2 with closed | fault
    · simp [closed]
    · simp [fault]
  refine ⟨1 + (k + 1), by omega, _, (startValves_takes s).followed (takes.followed
    (.cons rfl (handle_startSelector candidates shut) (.nil _ _)) rfl) rfl, ?_⟩
  exact {
    valve := valve
    holder := holder
    condition := condition
    selector := rfl
    district := fun d => (states d).trans (by rw [adopted]; rfl)
    settings := settings
    control := by show u.control = _; rw [units, adopted]
    clock := by show u.clock = _; rw [units, adopted]
    channels := by show u.channels = _; rw [units, adopted]
    accounts := by show u.accounts = _; rw [units, adopted] }

/-! ### The districts, the account unit and the channels -/

/-- What START's later steps leave of `s`. -/
structure UnitsStarted (s t : State) : Prop where
  valve : ∀ v, t.valve v = { s.valve v with claim := (t.valve v).claim }
  elsewhere : ∀ v, (∀ p, v ≠ districtValve p) → t.valve v = s.valve v
  district : ∀ d p, s.outletOf d = some p → DistrictStarted s d p t
  stock : t.stock = s.stock
  selector : t.selector = s.selector
  settings : t.settings = s.settings
  clock : t.clock = s.clock
  channels : t.channels = s.channels
  accounts : ∃ u : State, u.accounts = s.accounts ∧ u.clock = s.clock ∧
    t.accounts.halves = (startHalves u).1.accounts.halves ∧ t.accounts.book = (startHalves u).1.accounts.book

theorem unspent_congr (settings : t.settings = s.settings) (clock : t.clock = s.clock)
    (accounts : t.accounts = s.accounts) (unspent : s.unspent) : t.unspent := by
  simpa only [State.unspent, State.sumTake, State.half, settings, clock, accounts] using unspent

theorem startUnits_takes (stop : s.control.stopAsserted = false) (unspent : s.unspent) : ∃ k ≤ 13, ∃ t,
    Takes k false [.startDistricts, .startAccounts, .startChannels] s t ∧ UnitsStarted s t := by
  obtain ⟨j, few, u, link, takes, districts⟩ := startDistricts_takes s
  obtain ⟨units, valve, elsewhere, -, adopted⟩ := districts
  generalize found : u.putLink link = v at takes
  have control : v.control = s.control := by rw [← found, units]; rfl
  have settings : v.settings = s.settings := by rw [← found, units]; rfl
  have clock : v.clock = s.clock := by rw [← found, units]; rfl
  have accounts : v.accounts = s.accounts := by rw [← found, units]; rfl
  obtain ⟨k, short, w, after, next, whole, halves, book⟩ :=
    startAccounts_takes (unspent_congr settings clock accounts unspent)
  have released : startChannels (w.putLink after) = (w.putLink after, []) := by
    have stands : (w.putLink after).control.stopAsserted = false := by
      show w.control.stopAsserted = false
      rw [whole, control]
      exact stop
    exact if_neg (by rw [stands]; exact Bool.false_ne_true)
  refine ⟨j + (k + 1), by omega, _, takes.followed (next.followed (.cons rfl released (.nil _ _)) rfl) rfl, ?_⟩
  have valves : w.valves = u.valves := by rw [whole, ← found]; rfl
  have table (q : ValveId) : w.valve q = u.valve q := by rw [State.valve, valves, State.valve]
  exact {
    valve := fun q => (table q).trans ((valve q).trans (by rw [← table q]; rfl))
    elsewhere := fun q other => (table q).trans (elsewhere q fun _ p _ => other p)
    district := fun d p outlet => (adopted d (List.not_mem_nil) p outlet).congr valves (by
      show w.districts = _
      rw [whole, ← found]
      rfl)
    stock := by show w.stock = _; rw [whole, ← found, units]; rfl
    selector := by show w.selector = _; rw [whole, ← found, units]; rfl
    settings := by show w.settings = _; rw [whole, settings]
    clock := by show w.clock = _; rw [whole, clock]
    channels := by show w.channels = _; rw [whole, ← found, units]; rfl
    accounts := ⟨v, accounts, clock, halves, book⟩ }

/-! ### The part after START -/

theorem halfIn_of_accounts {x : State} (accounts : x.accounts = s.accounts) (k : HalfState) :
    x.halfIn k = s.halfIn k := by
  simp only [State.halfIn, State.half, accounts] <;> rfl

/-- The words of START. -/
def startWords : List Act :=
  [.startValves, .startStock, .startSelector, .startDistricts, .startAccounts, .startChannels]

theorem startWords_settle (rest : s.backlog = []) (ready : Startable s chosen) :
    ∃ u, PlantStarted s chosen u ∧ UnitsStarted u (settle (s, startWords)) := by
  obtain ⟨j, few, u, plant, started⟩ := startPlant_takes ready
  obtain ⟨k, short, t, units, adopted⟩ := startUnits_takes (s := u) (by rw [started.control]; exact ready.stop)
    (unspent_congr started.settings started.clock started.accounts ready.unspent)
  have idle (c : ChannelId) : t.unreported c = none := unreported_of_none (by
    rw [State.channel, adopted.channels, started.channels]
    exact ready.idle c)
  have whole : settle (s, startWords) = t :=
    (plant.followed units rfl).ends (by omega) rest (List.cons_ne_nil _ _) ⟨idle .a, idle .b⟩
  rw [whole]
  exact ⟨u, started, adopted⟩

section
variable {u : State} (plant : PlantStarted s chosen u) (units : UnitsStarted u t)
include plant units

theorem started_position (v : ValveId) : (t.valve v).position = (s.valve v).adopted := by
  rw [units.valve v, plant.valve v]

theorem started_outlet (h : HolderId) : (t.valve (outletValve h)).claim = .selector := by
  rw [units.elsewhere _ fun p => outletValve_ne_districtValve h p, plant.valve, claimsOutlets_outletValve]
  rfl

theorem started_holder (h : HolderId) : t.holder h = (s.holder h).started s.settings.holders[h] := by
  rw [State.holder, units.stock]
  exact plant.holder h

theorem started_condition : t.stock.condition = t.conditionNow := by
  rw [units.stock, plant.condition, conditionNow_congr units.settings units.stock]

/-- A mapped district that was SHUT (R135). -/
theorem started_district {d : DistrictId} {p : OutletId} (outlet : s.outletOf d = some p)
    (shut : (s.district d).state = .shut) :
    let v := districtValve p
    let lockout := s.settings.districts[d].lockout
    (t.district d).inForce = some (t.setpointNow d) ∧
      ((s.valve v).adopted ≠ .opened → (t.district d).state = .shut ∧ (t.valve v).claim = (s.valve v).claim) ∧
      ((s.valve v).adopted = .opened → (s.valve v).fault = .noFault → (t.district d).state = .live
        ∧ (t.district d).lockout = (if lockout = 0 then none else some lockout)
        ∧ (t.valve v).claim = .district d ∧ t.districts.outputs[p] = (t.setpointNow d).value) ∧
      ((s.valve v).adopted = .opened → (s.valve v).fault ≠ .noFault → (t.district d).state = .fault
        ∧ (t.valve v).claim = .district d ∧ t.districts.outputs[p] = 0) := by
  have mapped : u.outletOf d = some p := by
    rw [State.outletOf, plant.settings]
    exact outlet
  have started := units.district d p mapped
  have setpoint : t.setpointNow d = u.setpointNow d :=
    setpointNow_congr units.settings units.stock units.clock started.held
  have valve := plant.valve (districtValve p)
  rw [claimsOutlets_districtValve] at valve
  obtain ⟨-, inForce, closed, live, faulted⟩ := started
  rw [valve] at closed live faulted
  rw [plant.district, shut] at closed
  rw [State.districtSettings, plant.settings] at live
  rw [setpoint]
  exact ⟨inForce, closed, live, faulted⟩

/-- The halves and the book are what the taking up of the halves makes of them. -/
theorem started_halves : ∃ x : State, x.accounts = s.accounts ∧ x.clock = s.clock ∧
    (∀ i, t.half i = (startHalves x).1.half i) ∧ t.accounts.book = (startHalves x).1.accounts.book := by
  obtain ⟨x, accounts, clock, halves, book⟩ := units.accounts
  exact ⟨x, accounts.trans plant.accounts, clock.trans plant.clock,
    fun i => by rw [State.half, halves, State.half], book⟩

/-- No half FILLING: one opens, with POWER GAP where a gap waits to be told (R174). -/
theorem started_half_opens (none : s.halfIn .filling = none) : ∃ reading atStart, t.half .a =
    openedHalf s.clock.interval reading { noMarks with powerGap := s.accounts.gapPending } atStart := by
  obtain ⟨x, accounts, clock, halves, -⟩ := started_halves plant units
  rw [halves, startHalves_none ((halfIn_of_accounts accounts _).trans none), State.half_putHalf, if_pos rfl, clock,
    accounts]
  exact ⟨_, _, rfl⟩

section
variable {i : HalfId} (filling : s.halfIn .filling = some i)
include filling

theorem started_half_same (last : (s.half i).last = s.clock.interval) : t.half i = (s.half i).takenUp := by
  obtain ⟨x, accounts, clock, halves, -⟩ := started_halves plant units
  have half (j : HalfId) : x.half j = s.half j := half_of_accounts accounts j
  rw [halves, startHalves_same ((halfIn_of_accounts accounts _).trans filling) (by rw [half, clock]; exact last),
    State.half_putHalf, if_pos rfl, half]

variable (later : (s.half i).last ≠ s.clock.interval)
include later

theorem started_half_stretched (busy : (s.half i.other).state ≠ .empty) : t.half i =
    (s.half i).takenUp.clockSet.stretched s.clock.interval (dayLater s.clock.day (s.half i).last.day) := by
  obtain ⟨x, accounts, clock, halves, -⟩ := started_halves plant units
  have half (j : HalfId) : x.half j = s.half j := half_of_accounts accounts j
  rw [halves, startHalves_stretches ((halfIn_of_accounts accounts _).trans filling)
    (by rw [half, clock]; exact later) (by rw [half]; exact busy), State.half_putHalf, if_pos rfl, half, clock]

theorem started_half_turned (empty : (s.half i.other).state = .empty) :
    (∃ reading atStart, t.half i.other = openedHalf s.clock.interval reading noMarks atStart) ∧
      (s.accounts.book.length < 64 → ∃ reading threshold, t.accounts.book =
        s.accounts.book ++ [slotOfHalf (s.half i).takenUp.clockSet reading threshold]) := by
  obtain ⟨x, accounts, clock, halves, book⟩ := started_halves plant units
  have half (j : HalfId) : x.half j = s.half j := half_of_accounts accounts j
  have turns := startHalves_turns ((halfIn_of_accounts accounts _).trans filling)
    (by rw [half, clock]; exact later) (by rw [half]; exact empty)
  rw [turns] at halves book
  refine ⟨⟨x.stockReading, x.unknownContent, ?_⟩, fun room => ⟨x.stockReading, x.settings.discrepancy, ?_⟩⟩
  · rw [halves, half_turnHalves_other, clock]
  · rw [book, turnHalves_of_room (by rw [accounts]; exact room), ← half, ← accounts]
    rfl

end

end

end

/-- A part on which START's hypotheses hold is one its steps start. -/
theorem startable_of {s : State} {chosen : Option HolderId} (stop : s.control.stopAsserted = false)
    (idle : ∀ c, s.channel c = Channel.idle) (unspent : s.unspent) (candidate : ∀ h, chosen = some h → s.opensAt h)
    (others : ∀ h, chosen ≠ some h → ¬s.opensAt h ∧
      ((s.valve (outletValve h)).adopted = .closed ∨ (s.valve (outletValve h)).fault ≠ .noFault)) :
    Startable s.inHand.started chosen :=
  ⟨rfl, stop, fun c => congrArg Channel.current (idle c), unspent, candidate, others⟩

theorem execStart_ok {tag : Byte} {s : State} (free : s.free) (check : startCheck s = .ok) :
    execStart tag [] s = .next ((settle (s.inHand.started, startWords)).answered 3 tag Status.ok.body) := by
  refine request_sized_settle (e := (s.inHand.started, startWords)) free rfl ?_ rfl
  simp only [show startCheck s.inHand = .ok from check]
  rfl

/-- Settles O12. -/
theorem startEntersRun : Obligations.StartEntersRun := by
  unfold Obligations.StartEntersRun
  refine ⟨fun tag s free => ?_, fun tag chosen s free check stop _ _ _ idle shut unspent => ?_⟩
  · intro refusal someConfigured holdersPass entriesPass
    have bad (setup : s.control.phase = .setup) (bad : s.clock.unset = true ∨ s.configuredCount = 0 ∨
        s.holdersOk = false ∨ s.entriesOk = false) : refusal .badField :=
      execStart_refused free nofun (startCheck_badField setup bad)
    refine ⟨fun run => execStart_refused free nofun (startCheck_run run), fun setup clock => bad setup (.inl clock),
      fun setup none => bad setup (.inr (.inl (configuredCount_eq_zero.mpr none))),
      fun setup fails => bad setup (.inr (.inr (.inl (Bool.eq_false_iff.mpr fun ok => fails (holdersOk_iff.mp ok))))),
      fun setup fails => bad setup (.inr (.inr (.inr (Bool.eq_false_iff.mpr fun ok => fails (entriesOk_iff.mp ok))))),
      fun setup clock configured holders entries => ?_⟩
    have check := startCheck_setup setup clock (fun none => configuredCount_eq_zero.mp none configured)
      (holdersOk_iff.mpr holders) (entriesOk_iff.mpr entries)
    exact ⟨fun behind => execStart_refused free nofun (check.trans (if_pos behind)),
      fun ahead => execStart_kept free (check.trans (if_neg (ne_true_of_eq_false ahead)))⟩
  · intro shown candidate candidates others
    obtain ⟨u, plant, units⟩ := startWords_settle (s := s.inHand.started) free.1
      (startable_of stop idle unspent candidates others)
    refine ⟨_, execStart_ok free check, (started_position plant units :), (started_outlet plant units :),
      (started_holder plant units :), ?_, (started_condition plant units :),
      fun d p outlet => (started_district plant units outlet (shut d) :), fun none => ?_, fun i filling => ?_⟩
    · refine (units.selector.trans plant.selector).trans ?_
      cases chosen <;> rfl
    · obtain ⟨reading, atStart, half⟩ := started_half_opens plant units none
      exact ⟨congrArg Half.state half, congrArg Half.first half, congrArg Half.last half, congrArg Half.span half,
        congrArg Half.columns half, congrArg (·.marks.powerGap) half⟩
    · refine ⟨started_half_same plant units filling, fun later busy =>
        started_half_stretched plant units filling later busy, fun later empty => ?_⟩
      obtain ⟨⟨reading, atStart, half⟩, posted⟩ := started_half_turned plant units filling later empty
      refine ⟨congrArg Half.state half, congrArg Half.first half, congrArg Half.last half, congrArg Half.span half,
        congrArg Half.columns half, fun room => ?_⟩
      obtain ⟨reading, threshold, book⟩ := posted room
      exact ⟨_, book, rfl, rfl, rfl⟩

end Sys2Proof.Machine
end

section
/-!
LIFT READING.
-/

namespace Sys2Proof.Machine

/-! ## LIFT READING (R3, R16 to R19) -/

section
variable {s t u : State} {h : HolderId} {n : Nat} {g : Guard} {v : ValveId} {c : ChannelId} {told : Bool}

/-- A holder with a reading judged against its guards (R17 to R19). -/
def Holder.read (x : Holder) (settings : HolderSettings) (n : Nat) : Holder := { x with
  content := some n, sinceReading := some 0,
  silence := if x.state = .isolated then x.silence else some settings.silence,
  atCrown := crownAfter settings x.atCrown n, atLow := lowAfter settings x.atLow n }

/-- The part with a reading taken, the condition not yet judged. -/
def State.read (s : State) (h : HolderId) (n : Nat) : State :=
  s.putHolder h ((s.holder h).read s.settings.holders[h] n)

theorem crownAfter_cases (x : HolderSettings) (raised : Bool) (n : Nat) :
    (x.crownStop ≤ n → crownAfter x raised n = true) ∧
    (n + x.margin < x.crownStop → crownAfter x raised n = false) ∧
    (n < x.crownStop → x.crownStop ≤ n + x.margin → crownAfter x raised n = raised) := by
  refine ⟨fun above => ?_, fun below => ?_, fun under within => ?_⟩ <;> cases raised <;> simp [crownAfter] <;> omega

theorem lowAfter_cases (x : HolderSettings) (raised : Bool) (n : Nat) :
    (n ≤ x.lowStop → lowAfter x raised n = true) ∧
    (x.lowStop + x.margin < n → lowAfter x raised n = false) ∧
    (x.lowStop < n → n ≤ x.lowStop + x.margin → lowAfter x raised n = raised) := by
  refine ⟨fun below => ?_, fun above => ?_, fun clear within => ?_⟩ <;> cases raised <;> simp [lowAfter] <;> omega

theorem takeReading_idle (idle : s.control.phase = .setup ∨ s.settings.holders[h].configured = false ∨
    (s.holder h).state = .fault) : takeReading h n s = (s, []) := by
  refine if_pos ?_
  rcases idle with setup | plain | fault
  · simp [running_eq_false setup]
  · simp only [State.holderSettings, plain, Bool.not_false, Bool.or_true, Bool.true_or]
  · simp [fault]

section
variable (run : s.control.phase = .run) (configured : s.settings.holders[h].configured = true)
  (sound : (s.holder h).state ≠ .fault) (within : n ≤ s.settings.holders[h].capacity)
include run configured sound within

theorem takeReading_within : takeReading h n s = (setCondition (s.read h n),
    guardWords h (s.holder h) ((s.holder h).read s.settings.holders[h] n) n ++ [.contentTaken h] ++
      conditionWords s.stock.condition (setCondition (s.read h n)) ++ [.stockTold]) := by
  have taken : ¬(!s.running || !s.settings.holders[h].configured || decide ((s.holder h).state = .fault)) = true := by
    simp only [running_eq_true run, configured, sound, Bool.not_true, Bool.or_self, decide_false]
    exact Bool.false_ne_true
  exact (if_neg taken).trans (if_neg (Nat.not_lt.mpr within))

theorem liftReading_kept (rest : s.backlog = []) : let t := settle (takeReading h n s)
    Kept0 (s.read h n) t ∧ ((s.holder h).state ≠ .isolating → t.holder h = (s.read h n).holder h) ∧
      ((∀ k, (s.holder k).state ≠ .isolating) → t.stock.condition = (s.read h n).conditionNow) := by
  have kept : Kept (setCondition (s.read h n)) (settle (takeReading h n s)) := by
    have inner := takeReading_inner h n s
    rw [takeReading_within run configured sound within] at inner ⊢
    exact settle_kept (e := (setCondition (s.read h n), _)) ((aside_setCondition _).1.trans rest) inner
  have judged : setCondition (s.read h n) = (s.read h n).putStock { (s.read h n).stock with
      condition := (s.read h n).conditionNow } := if_pos (running_eq_true (s := s.read h n) run)
  have holder (k : HolderId) : (setCondition (s.read h n)).holder k = (s.read h n).holder k := by
    rw [judged]
    rfl
  have state (k : HolderId) : ((s.read h n).holder k).state = (s.holder k).state := by
    rw [State.read, State.holder_putHolder]
    split
    next same => rw [← same]; rfl
    next => rfl
  refine ⟨(setCondition_kept _).toKept0.trans kept.toKept0, fun stands => ?_, fun none => ?_⟩
  · exact (kept.holder h (by rw [holder, state]; exact stands)).trans (holder h)
  · refine (kept.condition (fun k => by rw [holder, state]; exact none k) ?_).trans ?_
    · rw [judged]
      rfl
    · rw [judged]
      rfl

end

/-! ### A guard raised in SERVICE (R18, R19, R93) -/

/-- The valve that a guard closes (R18, R19). -/
def Guard.valve (g : Guard) (h : HolderId) : ValveId :=
  match g with
  | .crown => inletValve h
  | .low => outletValve h

/-- What one guard's raising hands on (R18, R19). -/
def raisedWords (h : HolderId) (g : Guard) (n : Nat) : List Act :=
  [.protectClose (g.valve h) .guard, .guardRaised h g, .notice (.holderGuard h g true n)]

theorem guardWords_crown {old new : Holder} (before : old.atCrown = false) (after : new.atCrown = true)
    (low : new.atLow = old.atLow) : guardWords h old new n = raisedWords h .crown n := by
  simp [guardWords, before, after, low, raisedWords, Guard.valve]

theorem guardWords_low {old new : Holder} (before : old.atLow = false) (after : new.atLow = true)
    (crown : new.atCrown = old.atCrown) : guardWords h old new n = raisedWords h .low n := by
  simp [guardWords, before, after, crown, raisedWords, Guard.valve]

/-- A reading that raises one guard and leaves the condition UNKNOWN. -/
theorem takeReading_raises (run : s.control.phase = .run) (configured : s.settings.holders[h].configured = true)
    (service : (s.holder h).state = .service) (within : n ≤ s.settings.holders[h].capacity)
    (unknown : s.stock.condition = .unknown) (still : (s.read h n).conditionNow = .unknown)
    (words : guardWords h (s.holder h) ((s.holder h).read s.settings.holders[h] n) n = raisedWords h g n) :
    takeReading h n s = (s.read h n, raisedWords h g n ++ [.contentTaken h, .stockTold]) := by
  have same : setCondition (s.read h n) = s.read h n := by
    have judged : (s.read h n).stock.condition = (s.read h n).conditionNow := unknown.trans still.symm
    unfold setCondition
    rw [← judged]
    exact ite_self _
  rw [takeReading_within run configured (by rw [service]; exact nofun) within, same, words, conditionWords,
    if_pos (show (s.read h n).stock.condition = s.stock.condition from rfl)]
  simp

/-- The protective close of a guard. -/
def guardClose (v : ValveId) : ProtectEntry := { valve := v, cause := .guard, requesters := [] }

/-- With no holder at the send-out and the condition UNKNOWN the selector makes no decode (R43, R45). -/
theorem handle_stockTold_nobody (run : s.control.phase = .run) (nobody : s.selector.state = .noHolder)
    (unknown : s.stock.condition = .unknown) : handle .stockTold s = (s, []) := by
  simp [handle, decodeTrigger, running_eq_true run, nobody, unknown]

/-- A guard's words, one after another. -/
theorem raised_takes {j k : Nat} {x : State} (run : s.control.phase = .run) (still : s.valves.Resting)
    (opened : (s.valve (g.valve h)).position = .opened) (away : (s.valve (g.valve h)).shown ≠ some .closed)
    (claimant : Takes j true (tellTaken s (g.valve h) .guard) (s.shield (guardClose (g.valve h)))
      (s.shield (guardClose (g.valve h))))
    (raises : Takes k true [.guardRaised h g] (s.drive (guardClose (g.valve h)).drive) x)
    (content : handle (.contentTaken h) (x.notify (.holderGuard h g true n)) =
      (x.notify (.holderGuard h g true n), []))
    (phase : x.control.phase = .run) (nobody : x.selector.state = .noHolder) (unknown : x.stock.condition = .unknown) :
    Takes (j + k + 6) false (raisedWords h g n ++ [.contentTaken h, .stockTold]) s
      (x.notify (.holderGuard h g true n)) := by
  have closes : handle (.protectClose (g.valve h) .guard) s = (s.shield (guardClose (g.valve h)),
      tellTaken s (g.valve h) .guard ++ [.arbiter]) :=
    (if_pos (running_eq_true run)).trans (protectiveClose_resting still (by rw [opened]; exact nofun))
  have told : Takes 1 false [.stockTold] (x.notify (.holderGuard h g true n)) _ :=
    .cons rfl (handle_stockTold_nobody phase nobody unknown) (.nil _ _)
  have taken : Takes 3 false [.notice (.holderGuard h g true n), .contentTaken h, .stockTold] x _ :=
    .cons rfl rfl (.cons rfl content told)
  have raised : Takes (3 + k) false ([.guardRaised h g] ++ [.notice (.holderGuard h g true n), .contentTaken h,
      .stockTold]) _ _ := Steps.append raises taken
  have drives : Takes (3 + k + 2) false ([.arbiter] ++ _) (s.shield (guardClose (g.valve h))) _ :=
    Steps.append (arbiter_protects still away) raised
  have whole := Steps.append claimant drives
  rw [← List.append_assoc] at whole
  rw [show j + k + 6 = 3 + k + 2 + j + 1 by omega]
  exact .cons rfl closes whole

theorem guardRaised_nobody (none : ∀ c, (s.channel c).current = none) : handle (.guardRaised h g) s = (s, []) := by
  cases g <;> exact endEach_none none

theorem contentTaken_nobody (none : ∀ c, (s.channel c).current = none) : handle (.contentTaken h) s = (s, []) :=
  endEach_none none

/-- An event that raises a guard, with no order current. -/
theorem settle_raised_nobody (rest : s.atRest) (run : s.control.phase = .run) (still : s.valves.Resting)
    (opened : (s.valve (g.valve h)).position = .opened) (away : (s.valve (g.valve h)).shown ≠ some .closed)
    (claimant : ∃ j ≤ 1, Takes j true (tellTaken s (g.valve h) .guard) (s.shield (guardClose (g.valve h)))
      (s.shield (guardClose (g.valve h))))
    (none : ∀ c, (s.channel c).current = none) (nobody : s.selector.state = .noHolder)
    (unknown : s.stock.condition = .unknown) :
    settle (s, raisedWords h g n ++ [.contentTaken h, .stockTold]) =
      (s.drive (guardClose (g.valve h)).drive).notify (.holderGuard h g true n) := by
  obtain ⟨j, few, claimant⟩ := claimant
  have raises : Takes 1 true [.guardRaised h g] (s.drive (guardClose (g.valve h)).drive) _ :=
    .cons rfl (guardRaised_nobody none) (.nil _ _)
  exact (raised_takes (n := n) run still opened away claimant raises (contentTaken_nobody none) run nobody unknown).ends
    (by omega) rest.1 nofun (reported_of_channels rest rfl)

theorem tellTaken_unclaimed {cause : ProtectCause} (unclaimed : (s.valve v).claim = .unclaimed) :
    tellTaken s v cause = [] := by
  simp [tellTaken, unclaimed]

theorem outletHolder_outletValve (h : HolderId) : outletHolder (outletValve h) = some h := by
  revert h
  decide

/-- The selector, in no changeover, takes no part in the close of a holder's outlet (R65, R72). -/
theorem handle_tellClaimant_selector {w : ValveWord} (steady : s.selector.change = none) :
    handle (.tellClaimant .selector (outletValve h) w) s = (s, []) := by
  simp [handle, tellClaimant, Claim.requester, tellRequester, outletHolder_outletValve, selectorWord, steady]

/-- A FLOWING order takes no part in a guard's close of a valve of its path (R65, R72). -/
theorem handle_tellClaimant_guard {k : OrderId} (current : (s.channel c).current = some k)
    (flowing : (s.order k).status = .flowing) :
    handle (.tellClaimant (.channel c) v (.taken .guard)) s = (s, []) := by
  simp [handle, tellClaimant, Claim.requester, tellRequester, channelWord, currentSlot_of_current current, wordWorking,
    flowing]

/-! ### A RECEIVE that its destination's crown guard ends (R93, R98) -/

/-- A channel joined to the drive of a valve that closes, whose end it awaits. -/
def State.closeJoined (s : State) (c : ChannelId) (v : ValveId) : State :=
  (s.putValves { s.valves with main := s.valves.main.join (.channel c) }).putChannel c
    { s.channel c with work := [closeWork v] }

theorem State.putValves_putChannel (s : State) (c : ChannelId) (x : Channel) (u : ValveUnit) :
    (s.putChannel c x).putValves u = (s.putValves u).putChannel c x := rfl

section
variable {k : OrderId}

/-- A RECEIVE with CLOSE joins the close of its inlet (R61, R98). -/
theorem askCloses_receive {d : Drive} {left : Nat} (current : (s.channel c).current = some k)
    (status : (s.order k).status = .closing) (kind : (s.order k).order.kind = some .receive)
    (dest : (s.order k).order.dest = some h) (shut : (s.order k).order.disposition = some .close)
    (claim : (s.valve (inletValve h)).claim = .channel c) (sound : (s.valve (inletValve h)).fault = .noFault)
    (main : s.valves.main = .driving d left) (own : d.valve = inletValve h) (closes : d.target = .closed) :
    askCloses c s = (s.closeJoined c (inletValve h), [.postIfFree c]) := by
  have asked := moveRequest_driving (s := s.putWork c []) (r := .channel c) (by simp [Requester.holdsUnder, claim])
    (by simpa using sound) main own
  rw [if_pos closes] at asked
  simp only [askCloses, currentSlot_of_current current, status, kind, dest, shut, askClose, State.valve_putWork_other,
    claim, asked]
  simp [Answer.workWait, State.setWork, State.putWork, State.closeJoined, closeWork, dropWork]
  rw [State.putValves_putChannel, State.putChannel_putChannel]

/-- The only order, a FLOWING RECEIVE into the holder, ends with its crown guard (R93). -/
theorem guardRaised_ends (current : (s.channel c).current = some k) (other : (s.channel c.other).current = none)
    (flowing : (s.order k).status = .flowing) (kind : (s.order k).order.kind = some .receive)
    (dest : (s.order k).order.dest = some h) (pin : s.holdsPin c = false) (change : s.selector.change = none) :
    handle (.guardRaised h .crown) s = (s.closing c k .guardEnd .crownGuard, [.askCloses c]) := by
  have ends : endOrder c .guardEnd .crownGuard s = (s.closing c k .guardEnd .crownGuard, [.askCloses c]) :=
    endOrder_eq current (.inl (by rw [flowing]; rfl)) (by simp [kind]) pin change
  refine (endEach_one current other (by simp [Order.movesGas, kind, dest]) ?_).trans ends
  rw [ends]
  simpa [State.closing] using other

theorem endEach_closing {hit : OrderSlot → Bool} {status : OrderStatus} {cause : EndCause}
    (current : (s.channel c).current = some k) (other : (s.channel c.other).current = none)
    (closing : (s.order k).status = .closing) : endEach hit status cause s = (s, []) := by
  have still : endOrder c status cause s = (s, []) := by
    simp [endOrder, currentSlot_of_current current, closing, OrderStatus.working]
  cases c with
  | a => simp [endEach, allChannels, Effect.andThen, currentSlot_of_current current, still,
      currentSlot_of_none (c := .b) other]
  | b => simp [endEach, allChannels, Effect.andThen, currentSlot_of_current current, still,
      currentSlot_of_none (c := .a) other]

/-- The RECEIVE in CLOSING, joined to the guard's close. -/
def State.guardEnded (s : State) (c : ChannelId) (k : OrderId) (v : ValveId) : State :=
  (s.closing c k .guardEnd .crownGuard).closeJoined c v

@[simp] theorem order_guardEnded : (s.guardEnded c k v).order k = { s.order k with status := .closing } := by
  simp [State.guardEnded, State.closeJoined, State.closing]

theorem channel_guardEnded (running : (s.channel c).state = .running) : (s.guardEnded c k v).channel c =
    { s.channel c with
      ending := some (.guardEnd, .crownGuard), pathTimer := none, limitTimer := none, waitTimer := none,
      pathWait := .nothing, work := [closeWork v] } := by
  simp [State.guardEnded, State.closeJoined, State.closing, running]

theorem channel_guardEnded_other : (s.guardEnded c k v).channel c.other = s.channel c.other := by
  simp [State.guardEnded, State.closeJoined, State.closing]

theorem units_guardEnded : (s.guardEnded c k v).stock = s.stock ∧ (s.guardEnded c k v).link = s.link ∧
    (s.guardEnded c k v).control = s.control ∧ (s.guardEnded c k v).selector = s.selector ∧
    (s.guardEnded c k v).valves = { s.valves with main := s.valves.main.join (.channel c) } := by
  cases c <;> exact ⟨rfl, rfl, rfl, rfl, rfl⟩

theorem current_guardEnded (current : (s.channel c).current = some k) :
    ((s.guardEnded c k v).channel c).current = some k := by
  simpa [State.guardEnded, State.closeJoined, State.closing] using current

theorem valve_guardEnded (w : ValveId) : (s.guardEnded c k v).valve w = s.valve w := by
  obtain ⟨-, -, -, -, valves⟩ := units_guardEnded (s := s) (c := c) (k := k) (v := v)
  rw [State.valve, valves, State.valve]

section
variable (current : (s.channel c).current = some k) (other : (s.channel c.other).current = none)
  (kind : (s.order k).order.kind = some .receive)
include current other kind

theorem guardEnded_reported (e : ChannelId) : (s.guardEnded c k v).unreported e = none := by
  have own : (s.guardEnded c k v).unreported c = none :=
    unreported_of_kind (current_guardEnded current) (by rw [order_guardEnded, kind]; exact nofun)
  have elsewhere : (s.guardEnded c k v).unreported c.other = none :=
    unreported_of_none (by rw [channel_guardEnded_other]; exact other)
  rcases eq_or_eq_other c e with rfl | rfl
  · exact own
  · exact elsewhere

/-- The RECEIVE ends with the guard and joins the close of its inlet, which it holds on to (R93, R98). -/
theorem guardRaised_takes {d : Drive} {left : Nat} (flowing : (s.order k).status = .flowing)
    (dest : (s.order k).order.dest = some h) (shut : (s.order k).order.disposition = some .close)
    (pin : s.holdsPin c = false) (change : s.selector.change = none)
    (claim : (s.valve (inletValve h)).claim = .channel c) (sound : (s.valve (inletValve h)).fault = .noFault)
    (main : s.valves.main = .driving d left) (own : d.valve = inletValve h) (closes : d.target = .closed) :
    Takes 3 true [.guardRaised h .crown] s (s.guardEnded c k (inletValve h)) := by
  have closing : (s.closing c k .guardEnd .crownGuard).order k = { s.order k with status := .closing } := by
    simp [State.closing]
  have joins : handle (.askCloses c) (s.closing c k .guardEnd .crownGuard) =
      (s.guardEnded c k (inletValve h), [.postIfFree c]) :=
    askCloses_receive (k := k) (by simp [State.closing, current]) (by rw [closing]) (by rw [closing]; exact kind)
      (by rw [closing]; exact dest) (by rw [closing]; exact shut) claim sound main own closes
  have held := handle_postIfFree_held (s := s.guardEnded c k (inletValve h)) (v := inletValve h)
    (current_guardEnded current) (by rw [valve_guardEnded]; exact claim)
  exact .cons rfl (guardRaised_ends current other flowing kind dest pin change)
    (.cons rfl joins (.cons rfl held (.nil _ _)))

/-- An event that raises the crown guard of the holder into which the only order, a RECEIVE with CLOSE, flows. -/
theorem settle_raised_receive (rest : s.backlog = []) (run : s.control.phase = .run) (still : s.valves.Resting)
    (opened : (s.valve (inletValve h)).position = .opened) (away : (s.valve (inletValve h)).shown ≠ some .closed)
    (nobody : s.selector.state = .noHolder) (unknown : s.stock.condition = .unknown)
    (claim : (s.valve (inletValve h)).claim = .channel c) (sound : (s.valve (inletValve h)).fault = .noFault)
    (flowing : (s.order k).status = .flowing) (dest : (s.order k).order.dest = some h)
    (shut : (s.order k).order.disposition = some .close)
    (pin : s.holdsPin c = false) (change : s.selector.change = none) :
    settle (s, raisedWords h .crown n ++ [.contentTaken h, .stockTold]) =
      ((s.drive (guardClose (inletValve h)).drive).guardEnded c k (inletValve h)).notify
        (.holderGuard h .crown true n) := by
  have claimant : Takes 1 true (tellTaken s (inletValve h) .guard) (s.shield (guardClose (inletValve h)))
      (s.shield (guardClose (inletValve h))) := by
    rw [show tellTaken s (inletValve h) .guard = [.tellClaimant (.channel c) (inletValve h) (.taken .guard)] by
      simp [tellTaken, claim]]
    exact .cons rfl (handle_tellClaimant_guard (s := s.shield (guardClose (inletValve h))) current flowing) (.nil _ _)
  have own : (s.drive (guardClose (inletValve h)).drive).valve (inletValve h) =
      { s.valve (inletValve h) with position := .movingClosed } :=
    (State.valve_putValve _ _ _ _).trans (if_pos rfl)
  have raises := guardRaised_takes (s := s.drive (guardClose (inletValve h)).drive) current other kind flowing dest shut
    pin change ((congrArg Valve.claim own).trans claim) ((congrArg Valve.fault own).trans sound) rfl rfl rfl
  have drives := raised_takes (g := .crown) (n := n) run still opened away claimant raises
  have channel (e : ChannelId) := channel_drive s (guardClose (inletValve h)).drive e
  have order := order_drive s (guardClose (inletValve h)).drive k
  have units : (s.drive (guardClose (inletValve h)).drive).control = s.control ∧
      (s.drive (guardClose (inletValve h)).drive).selector = s.selector ∧
      (s.drive (guardClose (inletValve h)).drive).stock = s.stock := ⟨rfl, rfl, rfl⟩
  generalize s.drive (guardClose (inletValve h)).drive = d at drives channel order units ⊢
  rw [← channel] at current other
  rw [← order] at kind
  obtain ⟨stock, -, control, selector, -⟩ := units_guardEnded (s := d) (c := c) (k := k) (v := inletValve h)
  rw [units.1] at control
  rw [units.2.1] at selector
  rw [units.2.2] at stock
  have reported := guardEnded_reported (v := inletValve h) current other kind
  have working := current_guardEnded (v := inletValve h) current
  have waits := (congrArg Channel.current (channel_guardEnded_other (k := k) (v := inletValve h))).trans other
  have closing := congrArg OrderSlot.status (order_guardEnded (s := d) (c := c) (k := k) (v := inletValve h))
  generalize d.guardEnded c k (inletValve h) = x at *
  exact (drives (endEach_closing (s := x.notify _) working waits closing) (by rw [control]; exact run)
    (by rw [selector]; exact nobody) (by rw [stock]; exact unknown)).ends (by omega) rest nofun
      ⟨reported .a, reported .b⟩

end

end

theorem read_service {x : Holder} {settings : HolderSettings} (service : x.state = .service) :
    x.read settings n = { x with
      content := some n, sinceReading := some 0, silence := some settings.silence,
      atCrown := crownAfter settings x.atCrown n, atLow := lowAfter settings x.atLow n } := by
  simp [Holder.read, service]

/-- What the event of a guard raised with no order current leaves. -/
theorem liftReading_raises_nobody (rest : s.atRest) (run : s.control.phase = .run)
    (takes : takeReading h n s = (s.read h n, raisedWords h g n ++ [.contentTaken h, .stockTold]))
    (nobody : s.selector.state = .noHolder) (unknown : s.stock.condition = .unknown) (still : s.valves.Resting)
    (room : s.link.queue.length < 32) (opened : (s.valve (g.valve h)).position = .opened)
    (away : (s.valve (g.valve h)).shown ≠ some .closed)
    (claimant : ∃ j ≤ 1, Takes j true (tellTaken (s.read h n) (g.valve h) .guard)
      ((s.read h n).shield (guardClose (g.valve h))) ((s.read h n).shield (guardClose (g.valve h))))
    (none : ∀ c, (s.channel c).current = none) :
    ∃ t, event (takeReading h n s) = .next t ∧ t.stock = (s.read h n).stock ∧
      t.valves = (s.drive (guardClose (g.valve h)).drive).valves ∧ t.channels = s.channels ∧
      t.link.notices = s.link.notices ++ [.holderGuard h g true n] := by
  have settled := settle_raised_nobody (s := s.read h n) (n := n) rest run still opened away claimant none
    nobody unknown
  refine ⟨_, (congrArg event takes).trans (congrArg Host.Outcome.next settled), rfl, rfl, rfl, ?_⟩
  exact (notices_notify _ _).trans (if_pos room)

end

/-- Settles O24. -/
theorem liftReadingsAreJudged : Obligations.LiftReadingsAreJudged := by
  unfold Obligations.LiftReadingsAreJudged
  refine ⟨fun x raised n => ?_, fun h w s rest => ⟨fun idle => ?_, fun run configured sound within => ?_⟩, ?_⟩
  · obtain ⟨crown, crown', crown''⟩ := crownAfter_cases x raised n
    exact ⟨crown, crown', crown'', lowAfter_cases x raised n⟩
  · exact (congrArg event (takeReading_idle idle)).trans (event_still rest)
  · exact ⟨_, rfl, liftReading_kept run configured sound within rest⟩
  · intro h w s rest run configured service within nobody change unknown main protect queue room x old n taken driven
      open_ told still
    have read : taken = s.read h n := by rw [State.read, read_service service]
    rw [read] at still ⊢
    have raises {g : Guard} (words : guardWords h old (old.read x n) n = raisedWords h g n) :=
      takeReading_raises (n := n) run configured service within unknown still words
    refine ⟨fun before above low opens => ⟨fun unclaimed none => ?_, fun c k claim sound current other running pin
      flowing kind dest shut => ?_⟩, fun before below crown opens claim none => ?_⟩
    · have words := guardWords_crown (h := h) (n := n) (new := old.read x n) before
        ((crownAfter_cases x _ n).1 above) low
      refine liftReading_raises_nobody (g := .crown) rest run (raises words) nobody unknown ⟨main, protect, queue⟩ room
        opens.1 opens.2 ⟨0, by omega, ?_⟩ none
      rw [show tellTaken (s.read h n) (Guard.valve .crown h) .guard = [] from tellTaken_unclaimed unclaimed]
      exact .nil _ _
    · have words := guardWords_crown (h := h) (n := n) (new := old.read x n) before
        ((crownAfter_cases x _ n).1 above) low
      have settled := settle_raised_receive (s := s.read h n) (n := n) current other kind rest.1 run
        ⟨main, protect, queue⟩ opens.1 opens.2 nobody unknown claim sound flowing dest shut pin change
      obtain ⟨stock, link, -, -, valves⟩ := units_guardEnded (s := (s.read h n).drive (guardClose (inletValve h)).drive)
        (c := c) (k := k) (v := inletValve h)
      have order := order_guardEnded (s := (s.read h n).drive (guardClose (inletValve h)).drive) (c := c) (k := k)
        (v := inletValve h)
      have channel := channel_guardEnded (s := (s.read h n).drive (guardClose (inletValve h)).drive) (c := c) (k := k)
        (v := inletValve h) running
      refine ⟨_, (congrArg event (raises words)).trans (congrArg Host.Outcome.next settled), stock, valves, order,
        channel, ?_⟩
      exact (notices_notify _ _).trans ((if_pos (by rw [link]; exact room)).trans (by rw [link]; rfl))
    · have words := guardWords_low (h := h) (n := n) (new := old.read x n) before ((lowAfter_cases x _ n).1 below) crown
      refine liftReading_raises_nobody (g := .low) rest run (raises words) nobody unknown ⟨main, protect, queue⟩ room
        opens.1 opens.2 ⟨1, Nat.le_refl _, ?_⟩ none
      rw [show tellTaken (s.read h n) (Guard.valve .low h) .guard =
        [.tellClaimant .selector (outletValve h) (.taken .guard)] by
          simp only [tellTaken, show ((s.read h n).valve (Guard.valve .low h)).claim = .selector from claim]
          rfl]
      exact .cons rfl (handle_tellClaimant_selector change) (.nil _ _)

end Sys2Proof.Machine
end

section
/-!
ISOLATE HOLDER (R24 to R26).
-/

namespace Sys2Proof.Machine

/-! ## ISOLATE HOLDER (R24 to R26) -/

section
variable {s t u : State} {h : HolderId} {tag n : Byte} {k : Status}

/-! ### The refusals -/

/-- A current order names the holder (R24). -/
def State.named (s : State) (h : HolderId) : Prop := s.namedBy .a h = true ∨ s.namedBy .b h = true

/-- A fault on one of the holder's valves (R24). -/
def State.valveFault (s : State) (h : HolderId) : Prop :=
  (s.valve (inletValve h)).fault ≠ .noFault ∨ (s.valve (outletValve h)).fault ≠ .noFault

/-- Another claim on the holder's inlet (R24). -/
def State.inletClaimed (s : State) (h : HolderId) : Prop :=
  (s.valve (inletValve h)).claim ≠ .unclaimed ∧ (s.valve (inletValve h)).claim ≠ .selector

/-- The holder is the old or the new one of a changeover (R24). -/
def State.changing (s : State) (h : HolderId) : Prop :=
  ∃ ch, s.selector.change = some ch ∧ (ch.old = some h ∨ ch.new = some h)

/-- The holder is current, and no other can take its place (R24). -/
def State.alone (s : State) (h : HolderId) : Prop :=
  s.selector.current = some h ∧ (s.stock.condition = .unknown ∨ s.decode (some h) = none)

theorem isolateCheck_named (named : s.named h) : isolateCheck h s = .inUse :=
  if_pos (by simpa [State.named] using named)

section
variable (unnamed : ¬s.named h)
include unnamed

theorem isolateCheck_faulted (fault : s.valveFault h) : isolateCheck h s = .faulted :=
  (if_neg (by simpa [State.named] using unnamed)).trans (if_pos fault)

variable (sound : ¬s.valveFault h)
include sound

theorem isolateCheck_claimed (claimed : s.inletClaimed h) : isolateCheck h s = .inUse :=
  (if_neg (by simpa [State.named] using unnamed)).trans ((if_neg sound).trans (if_pos claimed))

variable (unclaimed : ¬s.inletClaimed h)
include unclaimed

theorem isolateCheck_changing (changing : s.changing h) : isolateCheck h s = .inUse := by
  refine (if_neg (by simpa [State.named] using unnamed)).trans ((if_neg sound).trans
    ((if_neg unclaimed).trans (if_pos ?_)))
  obtain ⟨ch, change, names⟩ := changing
  simpa [change] using names

theorem isolateCheck_alone (settled : ¬s.changing h) (alone : s.alone h) : isolateCheck h s = .noAlternative := by
  refine (if_neg (by simpa [State.named] using unnamed)).trans ((if_neg sound).trans ((if_neg unclaimed).trans
    ((if_neg ?_).trans (if_pos alone))))
  intro names
  cases change : s.selector.change with
  | none => simp [change] at names
  | some ch => exact settled ⟨ch, change, by simpa [change] using names⟩

end

/-- A holder that may be isolated has sound valves, and no other claim on its inlet than the selector's (R24). -/
theorem sound_of_isolateCheck (check : isolateCheck h s = .ok) : ¬s.valveFault h ∧ ¬s.inletClaimed h := by
  have unnamed : ¬s.named h := fun named => nomatch (isolateCheck_named named).symm.trans check
  have sound : ¬s.valveFault h := fun fault => nomatch (isolateCheck_faulted unnamed fault).symm.trans check
  exact ⟨sound, fun claimed => nomatch (isolateCheck_claimed unnamed sound claimed).symm.trans check⟩

section
variable (free : s.free)
include free

theorem execIsolateHolder_badField (outside : numberOf 4 n.toNat = none) :
    execIsolateHolder tag [n] s = .next (s.answered 10 tag Status.badField.body) := by
  refine request_sized_answer free rfl ?_
  simp only [field_singleton, outside]

variable (number : numberOf 4 n.toNat = some h)
include number

theorem execIsolateHolder_unchecked (check : holderCheck h s = k) (refused : k = .noSuch ∨ k = .wrongPhase) :
    execIsolateHolder tag [n] s = .next (s.answered 10 tag k.body) := by
  have checkInHand : holderCheck h s.inHand = k := check
  refine request_sized_answer free rfl ?_
  rcases refused with rfl | rfl <;> simp only [field_singleton, number, checkInHand]

variable (check : holderCheck h s = .ok)
include check

theorem execIsolateHolder_answer (answers : (s.holder h).state = .fault ∧ k = .faulted ∨
    ((s.holder h).state = .isolated ∨ (s.holder h).state = .isolating) ∧ k = .ok) :
    execIsolateHolder tag [n] s = .next (s.answered 10 tag k.body) := by
  have checkInHand : holderCheck h s.inHand = .ok := check
  refine request_sized_answer free rfl ?_
  rcases answers with ⟨state, rfl⟩ | ⟨state | state, rfl⟩ <;>
    simp only [field_singleton, number, checkInHand, show (s.inHand.holder h).state = _ from state]

variable (service : (s.holder h).state = .service)
include service

theorem execIsolateHolder_refused (refused : k ≠ .ok) (allowed : isolateCheck h s = k) :
    execIsolateHolder tag [n] s = .next (s.answered 10 tag k.body) := by
  have checkInHand : holderCheck h s.inHand = .ok := check
  refine request_sized_answer free rfl ?_
  simp only [field_singleton, number, checkInHand, show (s.inHand.holder h).state = _ from service,
    show isolateCheck h s.inHand = k from allowed]

theorem execIsolateHolder_settle (allowed : isolateCheck h s = .ok) (settled : settle (isolate h s.inHand) = t) :
    execIsolateHolder tag [n] s =
      .next (t.answered 10 tag (if s.bothClosed h then Status.ok else Status.accepted).body) := by
  have checkInHand : holderCheck h s.inHand = .ok := check
  refine request_sized_settle (e := isolate h s.inHand) free rfl ?_ settled
  simp only [field_singleton, number, checkInHand, show (s.inHand.holder h).state = _ from service,
    show isolateCheck h s.inHand = .ok from allowed]
  rfl

end

/-! ### The isolation -/

/-- A holder in isolation (R25). -/
def State.isolating (s : State) (h : HolderId) (w : CloseWait) : State :=
  s.putHolder h { s.holder h with state := .isolating, closeWait := w }

theorem isolate_eq : isolate h s = (((claimRequest (.isolation h) [inletValve h] s).2.1).isolating h .nothing,
    (claimRequest (.isolation h) [inletValve h] s).2.2 ++
      if s.bothClosed h then [.stockValve h] else [.isolationAsk h, .holderIsolating h, .stockTold]) := by
  rw [isolate]
  cases s.bothClosed h <;> rfl

theorem isolate_quiet0 (h : HolderId) (s : State) : Quiet0 s (isolate h s) := by
  have claims := claimRequest_quiet (.isolation h) [inletValve h] s
  rw [isolate_eq]
  refine ⟨claims.kept.toKept0.trans (Kept0.putHolder rfl rfl rfl rfl), ?_⟩
  rw [List.all_append, claims.inner]
  split <;> rfl

theorem settle_isolate_kept0 (rest : s.backlog = []) : Kept0 s (settle (isolate h s)) :=
  (isolate_quiet0 h s).kept.trans (settle_kept0 ((aside_isolate h s).1.trans rest)
    (unclocked_of_inner (isolate_quiet0 h s).inner))

/-- An inlet with no claim but the selector's, and nothing queued: the claim hands on nothing (R59). -/
theorem claimRequest_inlet (run : s.control.phase = .run) (sound : ¬s.valveFault h) (unclaimed : ¬s.inletClaimed h)
    (queue : s.valves.queue = []) : ∃ a, claimRequest (.isolation h) [inletValve h] s = (a, s, []) ∨
      claimRequest (.isolation h) [inletValve h] s = (a, s.putClaim (inletValve h) (.isolation h), []) := by
  have plain : (s.valve (inletValve h)).fault = .noFault := by
    exact Decidable.byContradiction fun fault => sound (.inl fault)
  by_cases free : (s.valve (inletValve h)).claim = .unclaimed
  · exact ⟨_, .inr (claimRequest_one run plain free queue)⟩
  · have selector : (s.valve (inletValve h)).claim = .selector := by
      exact Decidable.byContradiction fun other => unclaimed ⟨free, other⟩
    refine ⟨.inUse, .inl ?_⟩
    simp [claimRequest, running_eq_true run, plain, selector]

theorem judgeIsolation_closed (isolating : (s.holder h).state = .isolating) (sound : ¬s.valveFault h)
    (closed : s.bothClosed h = true) : judgeIsolation h s = (s.putHolder h { s.holder h with
      state := .isolated, silence := none, closeWait := .nothing }, [.basisChanged, .judgeCondition, .stockTold]) :=
  (if_neg (not_not_intro isolating)).trans ((if_neg sound).trans (if_pos closed))

/-- What a claim on an inlet leaves of the holder and its valves. -/
theorem isolating_claimed {w : CloseWait} : let t := (s.putClaim (inletValve h) (.isolation h)).isolating h w
    t.bothClosed h = s.bothClosed h ∧ (t.valveFault h ↔ s.valveFault h) ∧
      t.holder h = { s.holder h with state := .isolating, closeWait := w } := by
  have valve (v : ValveId) : (((s.putClaim (inletValve h) (.isolation h)).isolating h w).valve v).position =
      (s.valve v).position ∧ (((s.putClaim (inletValve h) (.isolation h)).isolating h w).valve v).fault =
      (s.valve v).fault := by
    simp only [State.isolating, State.valve_putHolder_other, State.valve_putClaim]
    split
    next same => rw [same]; exact ⟨rfl, rfl⟩
    next => exact ⟨rfl, rfl⟩
  refine ⟨?_, ?_, by simp [State.isolating]⟩
  · simp only [State.bothClosed, State.stands, valve]
    rfl
  · simp only [State.valveFault, valve]

/-- A holder whose valves both stand CLOSED is ISOLATED within the event (R26). -/
theorem settle_isolate_closed (rest : s.backlog = []) (run : s.control.phase = .run) (sound : ¬s.valveFault h)
    (unclaimed : ¬s.inletClaimed h) (closed : s.bothClosed h = true) (queue : s.valves.queue = []) :
    (settle (isolate h s)).holder h =
      { s.holder h with state := .isolated, silence := none, closeWait := .nothing } := by
  obtain ⟨u, claims, still, faults, holder, backlog⟩ : ∃ u : State, (claimRequest (.isolation h) [inletValve h] s).2 =
      (u, []) ∧ (u.isolating h .nothing).bothClosed h = s.bothClosed h ∧
      ((u.isolating h .nothing).valveFault h ↔ s.valveFault h) ∧ (u.isolating h .nothing).holder h =
        { s.holder h with state := .isolating, closeWait := .nothing } ∧ u.backlog = s.backlog := by
    obtain ⟨a, claims | claims⟩ := claimRequest_inlet run sound unclaimed queue <;> rw [claims]
    · exact ⟨s, rfl, rfl, Iff.rfl, by simp [State.isolating], rfl⟩
    · obtain ⟨still, faults, holder⟩ := isolating_claimed (s := s) (h := h) (w := .nothing)
      exact ⟨_, rfl, still, faults, holder, rfl⟩
  have judged := judgeIsolation_closed (s := u.isolating h .nothing) (by rw [holder]) (mt faults.mp sound)
    (still.trans closed)
  have isolates : isolate h s = (u.isolating h .nothing, [.stockValve h]) := by
    rw [isolate_eq, claims, if_pos closed]
    rfl
  have kept := (Steps.word (told := false) (a := .stockValve h) rfl judged).settle_kept (by omega) (backlog.trans rest)
    (List.cons_ne_nil _ _) rfl
  rw [isolates]
  refine (kept.holder h (by simp)).trans ?_
  simp [holder]

/-- The move that an isolation asks (R25). -/
def isolationClose (h : HolderId) : QueueEntry :=
  { valve := inletValve h, target := .closed, requesters := [.isolation h] }

theorem askIsolationClose_asks {a : Answer} {l : List Act} (isolating : (s.holder h).state = .isolating)
    (away : (s.valve (inletValve h)).position ≠ .closed)
    (moves : moveRequest (.isolation h) (inletValve h) .closed s = (a, t, l)) :
    askIsolationClose h s = (t.putHolder h { t.holder h with closeWait := a.closeWait }, l) := by
  rw [askIsolationClose, if_neg (not_not_intro isolating), if_neg away, moves]

theorem holderIsolating_outlet_closed (outlet : (s.valve (outletValve h)).position = .closed) :
    holderIsolating h s = (s, []) := by
  simp [holderIsolating, outlet]

theorem outletValve_ne_inletValve : outletValve h ≠ inletValve h := by
  revert h
  decide

theorem putHolder_isolating {w m : CloseWait} : (s.isolating h w).putHolder h
    { (s.isolating h w).holder h with closeWait := m } = s.isolating h m := by
  simp only [State.isolating, State.holder_putHolder, if_true]
  simp only [State.putHolder, Vector.set_set]

theorem valve_drive_other {d : Drive} {v : ValveId} (other : v ≠ d.valve) : (s.drive d).valve v = s.valve v := by
  show (s.putValve d.valve _).valve v = _
  rw [State.valve_putValve, if_neg other.symm]

/-- The drive of a valve just claimed: its record is written once. -/
theorem drive_putClaim {d : Drive} {k : Claim} :
    let m := s.putValve d.valve { s.valve d.valve with claim := k, position := movingTo d.target }
    (s.putClaim d.valve k).drive d =
      m.putValves { m.valves with main := .driving d s.settings.travel[d.valve] } := by
  simp only [State.drive, State.valve_putClaim, if_true]
  simp only [State.putClaim, State.putValve_putValve]
  rfl

/-- A holder whose inlet stands OPEN: its close is driven, the holder ISOLATING (R25). -/
theorem settle_isolate_open (rest : s.atRest) (run : s.control.phase = .run) (sound : ¬s.valveFault h)
    (nobody : s.selector.state = .noHolder) (unknown : s.stock.condition = .unknown) (still : s.valves.Resting)
    (refused : s.valves.refused = []) (outlet : (s.valve (outletValve h)).position = .closed)
    (opened : (s.valve (inletValve h)).position = .opened) (away : (s.valve (inletValve h)).shown ≠ some .closed)
    (free : (s.valve (inletValve h)).claim = .unclaimed) : settle (isolate h s) =
      ((s.isolating h .answer).putClaim (inletValve h) (.isolation h)).drive (isolationClose h).drive := by
  have plain : (s.valve (inletValve h)).fault = .noFault := by
    exact Decidable.byContradiction fun fault => sound (.inl fault)
  have ajar : s.bothClosed h = false := by simp [State.bothClosed, State.stands, opened]
  have isolates : isolate h s = ((s.putClaim (inletValve h) (.isolation h)).isolating h .nothing,
      [.isolationAsk h, .holderIsolating h, .stockTold]) := by
    rw [isolate_eq, claimRequest_one run plain free still.queue, ajar]
    rfl
  have inlet {w : CloseWait} : ((s.isolating h w).putClaim (inletValve h) (.isolation h)).valve (inletValve h) =
      { s.valve (inletValve h) with claim := .isolation h } := by simp [State.isolating]
  have asked : handle (.isolationAsk h) ((s.putClaim (inletValve h) (.isolation h)).isolating h .nothing) =
      (((s.isolating h .answer).putClaim (inletValve h) (.isolation h)).enqueue (isolationClose h), [.arbiter]) := by
    have resting : ((s.putClaim (inletValve h) (.isolation h)).isolating h .nothing).valves.Resting :=
      ⟨still.main, still.protect, still.queue⟩
    refine (askIsolationClose_asks ?_ ?_ (moveRequest_resting resting ?_ ?_ ?_)).trans ?_
    · simp [State.isolating]
    · simp [State.isolating, opened]
    · simp [State.isolating, Requester.holdsUnder]
    · simpa [State.isolating] using plain
    · simp [State.isolating, limitPosition, opened]
    · exact congrArg (fun x : State => (x.enqueue (isolationClose h), [Act.arbiter])) (putHolder_isolating
        (s := s.putClaim (inletValve h) (.isolation h)) (h := h) (w := .nothing) (m := .answer))
  have drives : Takes 3 true [.arbiter] (((s.isolating h .answer).putClaim (inletValve h) (.isolation h)).enqueue
      (isolationClose h)) _ := arbiter_drives ⟨still.main, still.protect, still.queue⟩ refused (by
        rw [show (isolationClose h).valve = inletValve h from rfl, inlet]; exact away)
  have shut : holderIsolating h (((s.isolating h .answer).putClaim (inletValve h) (.isolation h)).drive
      (isolationClose h).drive) = (_, []) := holderIsolating_outlet_closed (by
        rw [valve_drive_other outletValve_ne_inletValve]
        simp [State.isolating, outletValve_ne_inletValve.symm, outlet])
  have told : Takes 2 false [.holderIsolating h, .stockTold] (((s.isolating h .answer).putClaim (inletValve h)
      (.isolation h)).drive (isolationClose h).drive) _ :=
    .cons rfl shut (.cons rfl (handle_stockTold_nobody run nobody unknown) (.nil _ _))
  have words := Steps.cons rfl asked (Steps.append drives told)
  rw [isolates]
  exact words.ends (by omega) rest.1 (List.cons_ne_nil _ _) (reported_of_channels rest rfl)

end

/-- Settles O26. -/
theorem isolateHolderRefusesOrIsTaken : Obligations.IsolateHolderRefusesOrIsTaken := by
  unfold Obligations.IsolateHolderRefusesOrIsTaken
  refine ⟨fun tag n s free => ⟨execIsolateHolder_badField free, fun h number => ⟨fun blank => ?_,
    fun configured setup => ?_, fun configured run => ?_⟩⟩,
    fun tag n s h free number configured run service allowed => ⟨fun closed => ?_, fun ajar => ?_, ?_⟩⟩
  · exact execIsolateHolder_unchecked free number (holderCheck_noSuch blank) (.inl rfl)
  · exact execIsolateHolder_unchecked free number (holderCheck_wrongPhase configured setup) (.inr rfl)
  · have check := holderCheck_ok configured run
    have refuses {k : Status} (service : (s.holder h).state = .service) (refused : k ≠ .ok)
        (unchecked : isolateCheck h s = k) :=
      execIsolateHolder_refused (tag := tag) free number check service refused unchecked
    exact ⟨fun fault => execIsolateHolder_answer free number check (.inl ⟨fault, rfl⟩),
      fun isolated => execIsolateHolder_answer free number check (.inr ⟨isolated, rfl⟩),
      fun service => ⟨fun named => refuses service nofun (isolateCheck_named named),
        fun unnamed fault => refuses service nofun (isolateCheck_faulted unnamed fault),
        fun unnamed sound claimed => refuses service nofun (isolateCheck_claimed unnamed sound claimed),
        fun unnamed sound unclaimed changing =>
          refuses service nofun (isolateCheck_changing unnamed sound unclaimed changing),
        fun unnamed sound unclaimed settled alone =>
          refuses service nofun (isolateCheck_alone unnamed sound unclaimed settled alone)⟩⟩
  · obtain ⟨sound, unclaimed⟩ := sound_of_isolateCheck allowed
    have taken := execIsolateHolder_settle (tag := tag) free number (holderCheck_ok configured run) service allowed rfl
    rw [if_pos closed] at taken
    exact ⟨_, taken, composeReply_reply _ _ _ _, (settle_isolate_kept0 (s := s.inHand) (h := h) free.1).settings,
      fun queue => settle_isolate_closed free.1 run sound unclaimed closed queue⟩
  · have taken := execIsolateHolder_settle (tag := tag) free number (holderCheck_ok configured run) service allowed rfl
    rw [if_neg (by simp [ajar])] at taken
    have kept := settle_isolate_kept0 (s := s.inHand) (h := h) free.1
    exact ⟨_, taken, composeReply_reply _ _ _ _, kept.settings, kept.content⟩
  · intro rest nobody unknown main protect queue refused outlet opened away unclaimed v isolating
    obtain ⟨sound, -⟩ := sound_of_isolateCheck allowed
    have settled := settle_isolate_open (s := s.inHand) rest run sound nobody unknown ⟨main, protect, queue⟩ refused
      outlet opened away unclaimed
    have taken := execIsolateHolder_settle (tag := tag) free number (holderCheck_ok configured run) service allowed
      settled
    rw [if_neg (by simp [State.bothClosed, State.stands, opened])] at taken
    have driven := drive_putClaim (s := s.inHand.isolating h .answer) (d := (isolationClose h).drive)
      (k := .isolation h)
    exact (taken.trans
      (congrArg (fun t : State => Host.Outcome.next (t.answered 10 tag Status.accepted.body)) driven) :)

end Sys2Proof.Machine
end

section
/-!
A changeover from its beginning to its end: the steps.
-/

namespace Sys2Proof.Machine

/-! ## A changeover from its beginning to its end (R42, R44, R45, R52) -/

section
variable {s t : State} {h n old new : HolderId} {v : ValveId} {ch : Changeover} {r : Requester} {target : Limit}
variable {told : Bool} {e : QueueEntry}

/-! ### The steps -/

/-- The entry that a decode takes has a usable holder (R38, R39). -/
theorem usable_of_decode {except : Option HolderId} (decoded : s.decode except = some h) : s.usable h = true := by
  obtain ⟨e, gives, rfl, -⟩ := (find?_map_eq_some_iff _ _ _ _).mp decoded
  exact ((entryGives_iff s except _).mp gives).2.2.2.2.1

theorem usable_congr (settings : t.settings = s.settings) (holder : t.holder h = s.holder h)
    (fault : (t.valve (outletValve h)).fault = (s.valve (outletValve h)).fault)
    (reported : ∀ c, (t.channel c).reported = (s.channel c).reported) : t.usable h = s.usable h :=
  Bool.eq_iff_iff.mpr (by simp only [usable_iff, settings, holder, fault, reported])

theorem holder_service_of_usable (usable : s.usable h = true) : (s.holder h).state = .service :=
  ((usable_iff s h).mp usable).2.1

theorem judgeIsolation_away (away : (s.holder h).state ≠ .isolating) : judgeIsolation h s = (s, []) := if_pos away

section
variable (change : s.selector.change = some ch) (step : ch.step = .openingNew) (names : ch.new = some n)
variable (sound : (s.valve (outletValve n)).fault = .noFault) (usable : s.usable n = true)
include change step names sound usable

theorem askOpenNew_opened (stands : s.stands (outletValve n) .opened = true) :
    askOpenNew s = (s.putChange { ch with step := .closingOld, openWait := .unasked }, takeAll ch) := by
  simp [askOpenNew, change, step, names, sound, usable, stands]

theorem askOpenNew_asks {l : List Act} (away : (s.valve (outletValve n)).position ≠ .opened)
    (moves : moveRequest .selector (outletValve n) .opened s = (.accepted, t, l)) :
    askOpenNew s = (t.putChange { ch with openWait := .answer }, l) := by
  simp [askOpenNew, change, step, names, sound, usable, State.stands, away, moves, Answer.wait]

end

section
variable (change : s.selector.change = some ch) (step : ch.step = .closingOld) {k : MoveWait}
variable (closing : ch.closing = [{ holder := old, st := .waiting k }])
include change step closing

theorem takeClosing_closed (stands : s.stands (outletValve old) .closed = true) : takeClosing old s =
    (s.putChange { ch with closing := [{ holder := old, st := .doneClosed }] }, []) := by
  simp [takeClosing, change, step, closing, ClosingState.open, setClosing, stands]

theorem takeClosing_asks {l : List Act} (away : (s.valve (outletValve old)).position ≠ .closed)
    (sound : (s.valve (outletValve old)).fault = .noFault) (plain : s.shielded (outletValve old) = false)
    (moves : moveRequest .selector (outletValve old) .closed s = (.accepted, t, l)) : takeClosing old s =
      (t.putChange { ch with closing := [{ holder := old, st := .waiting .answer }] }, l) := by
  simp [takeClosing, change, step, closing, ClosingState.open, setClosing, State.stands, away, sound, plain, moves,
    Answer.wait]

theorem closingCheck_waits : closingCheck s = (s, []) := by
  simp [closingCheck, change, step, closing, ClosingState.open]

end

theorem closingCheck_ends (change : s.selector.change = some ch) (step : ch.step = .closingOld)
    (closing : ch.closing = [{ holder := old, st := .doneClosed }]) : closingCheck s = endChange ch s := by
  simp [closingCheck, change, step, closing, ClosingState.open]

theorem selectorWord_opened (change : s.selector.change = some ch) (step : ch.step = .openingNew)
    (names : ch.new = some h) : selectorWord h .done s = (s, [.askOpenNew]) := by
  simp [selectorWord, change, step, names]

theorem selectorWord_closed {k : ClosingState} (change : s.selector.change = some ch) (names : ch.new ≠ some h)
    (closing : ch.closing = [{ holder := h, st := k }]) :
    selectorWord h .done s = (s, [.takeClosing h, .closingCheck]) := by
  simp [selectorWord, change, names, closing]

/-! ### Moves asked and drives ended while the end of a drive is told -/

theorem arbiterCall_of_reporting (main : s.valves.main = .reporting) : arbiterCall s = [] :=
  if_neg (by rw [main]; nofun)

theorem driven_of_reporting (main : s.valves.main = .reporting) : s.driven v = false := by
  rw [State.driven, driveOf_of_reporting main]
  rfl

theorem stands_of_reporting {p : Position} (main : s.valves.main = .reporting) (there : (s.valve v).position = p) :
    s.stands v p = true := by
  simp [State.stands, there, driven_of_reporting main]

/-- A move request where the end of a drive is told, and nothing waits for the main. -/
theorem moveRequest_reporting (main : s.valves.main = .reporting) (protect : s.valves.protect = [])
    (queue : s.valves.queue = []) (holds : r.holdsUnder (s.valve v).claim = true)
    (sound : (s.valve v).fault = .noFault) (away : (s.valve v).position ≠ limitPosition target) :
    moveRequest r v target s = (.accepted, s.enqueue { valve := v, target := target, requesters := [r] }, []) := by
  have still : s.driven v = false := driven_of_reporting main
  rw [moveRequest_enqueue holds sound (shielded_of_undriven (protectEntry_of_empty protect) still) still
    (queueEntry_of_empty queue) away (by rw [queue]; cases r <;> rfl), arbiterCall_of_reporting main]

/-- The end of the telling, one move waiting: it is driven (R72, R67, R68). -/
theorem reportEnd_drives (main : s.valves.main = .reporting) (protect : s.valves.protect = [])
    (queue : s.valves.queue = []) (nobody : s.valves.refused = []) (away : (s.valve e.valve).shown ≠ some e.target) :
    Takes 4 told [.reportEnd] (s.enqueue e) (s.drive e.drive) := by
  have ends : handle .reportEnd (s.enqueue e) = (s.idled.enqueue e, [.arbiter]) := by
    simp only [handle, endReport, show (s.enqueue e).valves.main = .reporting from main]
    rfl
  exact .cons rfl ends (arbiter_drives (s := s.idled) ⟨rfl, protect, queue⟩ nobody away)

/-- Of a drive of the selector's on an outlet that it claims, the selector is told, and then the stock unit. -/
theorem driveEndWords_selector {d : Drive} (asked : d.requesters = [.selector])
    (claim : (s.valve d.valve).claim = .selector) (outlet : d.valve = outletValve h) :
    driveEndWords d false s = [.tellRequester .selector (outletValve h) .done, .stockValve h, .reportEnd] := by
  have holder : ∀ k, holderOfValve (outletValve k) = some k := by decide
  rw [outlet] at claim
  simp [driveEndWords, asked, outlet, claim, Claim.requester, holder]

theorem outletValve_ne (other : old ≠ new) : outletValve old ≠ outletValve new := fun same =>
  other (Option.some.inj ((outletHolder_outletValve old).symm.trans ((congrArg outletHolder same).trans
    (outletHolder_outletValve new))))

theorem valve_reporting_other {w : ValveId} {x : Valve} (other : w ≠ v) : (s.reporting v x).valve w = s.valve w :=
  (State.valve_putValve s v w x).trans (if_neg other.symm)

theorem usable_reporting {x : Valve} (fault : x.fault = (s.valve v).fault) :
    (s.reporting v x).usable h = s.usable h := by
  refine usable_congr rfl rfl ?_ fun _ => rfl
  by_cases same : outletValve h = v
  · rw [same, valve_reporting, fault]
  · rw [valve_reporting_other same]

theorem tellRequester_selector {w : ValveWord} :
    handle (.tellRequester .selector (outletValve h) w) s = selectorWord h w s := by
  simp only [handle, tellRequester, outletHolder_outletValve]

end

/-- A valve whose drive has brought it to one of its switches (R69). -/
def Valve.made (x : Valve) (t : Limit) : Valve := { switched t true x with position := limitPosition t }

@[simp] theorem fault_made (x : Valve) (t : Limit) : (x.made t).fault = x.fault := by
  cases t <;> rfl

@[simp] theorem position_made (x : Valve) (t : Limit) : (x.made t).position = limitPosition t := rfl

@[simp] theorem claim_made (x : Valve) (t : Limit) : (x.made t).claim = x.claim := claim_switched true x

/-- A move that the selector asks. -/
def selectorMove (v : ValveId) (t : Limit) : QueueEntry := { valve := v, target := t, requesters := [.selector] }

/-- The switch of the target ends a drive of the selector's. -/
theorem switchMade_selector {s : State} {h : HolderId} {t : Limit} {left : Nat} (run : s.control.phase = .run)
    (main : s.valves.main = .driving (selectorMove (outletValve h) t).drive left)
    (claim : (s.valve (outletValve h)).claim = .selector) :
    switchMade (outletValve h) t s = (s.reporting (outletValve h) ((s.valve (outletValve h)).made t),
      [.tellRequester .selector (outletValve h) .done, .stockValve h, .reportEnd]) := by
  refine (switchMade_completes run main).trans (congrArg (s.reporting (outletValve h) _, ·) ?_)
  refine driveEndWords_selector rfl ?_ rfl
  exact (congrArg Valve.claim valve_reporting).trans ((claim_made _ _).trans claim)

/-! ### The beginning -/

section
variable {s : State} {old new : HolderId} {ch : Changeover} {left : Nat} {told : Bool}

/-- A DECODED changeover whose open of the new outlet waits (R44). -/
def decodedChange (old new : HolderId) (w : MoveWait) : Changeover :=
  { kind := .decoded, old := some old, new := some new, closing := [toClose old], step := .openingNew, serves := none,
    openWait := w }

/-- The selector at a due dwell whose decode begins a DECODED changeover (R42, R44, R50). -/
def Selector.begun (x : Selector) (old new : HolderId) (w : MoveWait) : Selector :=
  { x with state := .changeover, waiting := none, dwell := none, lastDecode := some (some new)
           change := some (decodedChange old new w) }

/-- A DECODED changeover begun, and told of (R44). -/
def State.changeBegun (s : State) (old new : HolderId) (w : MoveWait) : State :=
  (s.putSelector (s.selector.begun old new w)).notify (.changeoverBegun .decoded (some old) (some new))

theorem settle_changeBegun (rest : s.atRest) (run : s.control.phase = .run) (current : s.selector.current = some old)
    (other : old ≠ new) (still : s.valves.Resting) (nobody : s.valves.refused = [])
    (steady : s.selector.state = .steady) (pin : s.selector.pin = none) (known : s.stock.condition ≠ .unknown)
    (decoded : s.decode none = some new) (claim : (s.valve (outletValve new)).claim = .selector)
    (sound : (s.valve (outletValve new)).fault = .noFault) (closed : (s.valve (outletValve new)).position = .closed)
    (away : (s.valve (outletValve new)).shown ≠ some .opened) :
    settle (s.putSelector { s.selector with dwell := none }, [.decodeTrigger]) =
      (s.changeBegun old new .answer).drive (selectorMove (outletValve new) .opened).drive := by
  have usable : s.usable new = true := usable_of_decode decoded
  have unopened : (s.valve (outletValve new)).position ≠ .opened := by rw [closed]; nofun
  have decodes : handle .decodeTrigger (s.putSelector { s.selector with dwell := none }) = _ :=
    handle_decodeTrigger_steady (s := s.putSelector { s.selector with dwell := none }) run steady current known
  have opens := beginChange_eq (s := (s.putSelector { s.selector with dwell := none }).noteDecode (some new))
    (n := new) .decoded none pin current
  rw [decode_putSelector, decoded, actSteady_other
    (s := (s.putSelector { s.selector with dwell := none }).noteDecode (some new)) other.symm rfl pin, opens] at decodes
  have begins : handle .decodeTrigger (s.putSelector { s.selector with dwell := none }) =
      (s.putSelector (s.selector.begun old new .unasked),
        [.notice (.changeoverBegun .decoded (some old) (some new)), .askOpenNew]) := by
    refine decodes.trans (congrArg (·, _) ?_)
    simp only [Selector.begun, pin]
    rfl
  have asks : handle .askOpenNew (s.changeBegun old new .unasked) =
      ((s.changeBegun old new .answer).enqueue (selectorMove (outletValve new) .opened), [.arbiter]) :=
    askOpenNew_asks (s := s.changeBegun old new .unasked) (n := new) rfl rfl rfl sound usable unopened
      (moveRequest_resting (s := s.changeBegun old new .unasked) still (decide_eq_true claim) sound unopened)
  have drives : Takes 3 false [.arbiter] _ _ := arbiter_drives (s := s.changeBegun old new .answer)
    (e := selectorMove (outletValve new) .opened) still nobody away
  have words : Takes 6 false [.decodeTrigger] _ _ := .cons rfl begins (.cons rfl rfl (.cons rfl asks drives))
  exact words.ends (by omega) rest.1 (List.cons_ne_nil _ _) (reported_of_channels rest rfl)

/-! ### The new outlet reports OPEN -/

/-- The changeover that drives the old outlet closed (R45). -/
def Changeover.closes (ch : Changeover) (old : HolderId) : Changeover :=
  { ch with step := .closingOld, openWait := .unasked, closing := [{ holder := old, st := .waiting .answer }] }

/-- The selector is told that the new outlet is OPEN: the old one is driven closed (R44, R45). -/
theorem newOpened_takes (main : s.valves.main = .reporting) (protect : s.valves.protect = [])
    (queue : s.valves.queue = []) (nobody : s.valves.refused = []) (change : s.selector.change = some ch)
    (names : ch.new = some new) (step : ch.step = .openingNew) (closing : ch.closing = [toClose old])
    (usable : s.usable new = true) (sound : (s.valve (outletValve new)).fault = .noFault)
    (stands : (s.valve (outletValve new)).position = .opened)
    (oldClaim : (s.valve (outletValve old)).claim = .selector)
    (oldSound : (s.valve (outletValve old)).fault = .noFault)
    (opened : (s.valve (outletValve old)).position = .opened)
    (away : (s.valve (outletValve old)).shown ≠ some .closed) :
    Takes 9 told [.tellRequester .selector (outletValve new) .done, .stockValve new, .reportEnd] s
      ((s.putChange (ch.closes old)).drive (selectorMove (outletValve old) .closed).drive) := by
  have unclosed : (s.valve (outletValve old)).position ≠ .closed := by rw [opened]; nofun
  have tells : handle (.tellRequester .selector (outletValve new) .done) s = (s, [.askOpenNew]) :=
    tellRequester_selector.trans (selectorWord_opened change step names)
  have looks : handle .askOpenNew s = (s.putChange { ch with step := .closingOld, openWait := .unasked },
      [.takeClosing old, .closingCheck]) := by
    refine (askOpenNew_opened change step names sound usable (stands_of_reporting main stands)).trans ?_
    rw [takeAll, closing]
    rfl
  have takes : handle (.takeClosing old) (s.putChange { ch with step := .closingOld, openWait := .unasked }) =
      ((s.putChange (ch.closes old)).enqueue (selectorMove (outletValve old) .closed), []) :=
    takeClosing_asks (s := s.putChange { ch with step := .closingOld, openWait := .unasked }) rfl rfl closing unclosed
      oldSound (shielded_of_undriven (protectEntry_of_empty protect) (driven_of_reporting main))
      (moveRequest_reporting (s := s.putChange { ch with step := .closingOld, openWait := .unasked }) main protect
        queue (decide_eq_true oldClaim) oldSound unclosed)
  have checks : handle .closingCheck ((s.putChange (ch.closes old)).enqueue (selectorMove (outletValve old) .closed)) =
      (_, []) := closingCheck_waits (ch := ch.closes old)
    (s := (s.putChange (ch.closes old)).enqueue (selectorMove (outletValve old) .closed)) rfl rfl rfl
  have service : (s.holder new).state ≠ .isolating := by rw [holder_service_of_usable usable]; nofun
  have judges : handle (.stockValve new) ((s.putChange (ch.closes old)).enqueue
      (selectorMove (outletValve old) .closed)) = (_, []) := judgeIsolation_away service
  exact .cons rfl tells (.cons rfl looks (.cons rfl takes (.cons rfl checks (.cons rfl judges
    (reportEnd_drives (s := s.putChange (ch.closes old)) main protect queue nobody away)))))

theorem settle_newOpened (rest : s.atRest) (run : s.control.phase = .run) (other : old ≠ new)
    (protect : s.valves.protect = []) (queue : s.valves.queue = []) (nobody : s.valves.refused = [])
    (change : s.selector.change = some ch) (names : ch.new = some new) (step : ch.step = .openingNew)
    (closing : ch.closing = [toClose old]) (usable : s.usable new = true)
    (claim : (s.valve (outletValve new)).claim = .selector) (sound : (s.valve (outletValve new)).fault = .noFault)
    (oldClaim : (s.valve (outletValve old)).claim = .selector)
    (oldSound : (s.valve (outletValve old)).fault = .noFault)
    (opened : (s.valve (outletValve old)).position = .opened)
    (away : (s.valve (outletValve old)).shown ≠ some .closed)
    (main : s.valves.main = .driving (selectorMove (outletValve new) .opened).drive left) :
    settle (switchMade (outletValve new) .opened s) =
      ((s.putValve (outletValve new) ((s.valve (outletValve new)).made .opened)).drive
        (selectorMove (outletValve old) .closed).drive).putChange (ch.closes old) := by
  have ends := switchMade_selector (h := new) run main claim
  have unmoved : (s.reporting (outletValve new) ((s.valve (outletValve new)).made .opened)).valve (outletValve old) =
      s.valve (outletValve old) := valve_reporting_other (outletValve_ne other)
  have usable' : (s.reporting (outletValve new) ((s.valve (outletValve new)).made .opened)).usable new = true :=
    (usable_reporting (fault_made _ _)).trans usable
  have words : Takes 9 false _ _ _ := newOpened_takes
    (s := s.reporting (outletValve new) ((s.valve (outletValve new)).made .opened)) rfl protect queue nobody change
    names step closing usable' ((congrArg Valve.fault valve_reporting).trans sound)
    (congrArg Valve.position valve_reporting) (unmoved ▸ oldClaim) (unmoved ▸ oldSound) (unmoved ▸ opened)
    (unmoved ▸ away)
  rw [ends]
  exact words.ends (by omega) rest.1 (List.cons_ne_nil _ _) (reported_of_channels rest rfl)

/-! ### The old outlet reports CLOSED -/

/-- The changeover whose one old outlet is CLOSED (R45). -/
def Changeover.closed (ch : Changeover) (old : HolderId) : Changeover :=
  { ch with closing := [{ holder := old, st := .doneClosed }] }

/-- The selector at the end of a changeover (R45). -/
def Selector.changed (x : Selector) (new : HolderId) (dwell : Nat) : Selector :=
  { x with state := .steady, current := some new, change := none, dwell := some dwell }

section
variable {l : List Act} {c : ChannelId} {n : OrderId} {h : HolderId}

/-- The selector is told that the old outlet is CLOSED: the changeover ends (R45). -/
theorem oldClosed_ends {e : Effect} (main : s.valves.main = .reporting) (change : s.selector.change = some ch)
    (other : old ≠ new) (names : ch.new = some new) (step : ch.step = .closingOld)
    (closing : ch.closing = [{ holder := old, st := .waiting .answer }])
    (closed : (s.valve (outletValve old)).position = .closed)
    (ends : endChange (ch.closed old) (s.putChange (ch.closed old)) = e) :
    Steps 3 told (.tellRequester .selector (outletValve old) .done :: l) s (e.2 ++ l) e.1 := by
  have tells : handle (.tellRequester .selector (outletValve old) .done) s = (s, [.takeClosing old, .closingCheck]) :=
    tellRequester_selector.trans (selectorWord_closed change (by simpa [names] using other.symm) closing)
  have takes : handle (.takeClosing old) s = (s.putChange (ch.closed old), []) :=
    takeClosing_closed change step closing (stands_of_reporting main closed)
  have checks : handle .closingCheck (s.putChange (ch.closed old)) = e :=
    (closingCheck_ends (s := s.putChange (ch.closed old)) rfl step rfl).trans ends
  exact .cons rfl tells (.cons rfl takes (.cons rfl checks (.refl _ _ _)))

theorem endChange_decoded (kind : ch.kind = .decoded) (names : ch.new = some new) :
    endChange (ch.closed old) (s.putChange (ch.closed old)) =
      (s.putSelector (s.selector.changed new s.settings.dwell),
        [.notice (.changeoverDone .decoded ch.old (some new) .complete), .askPins, .decodeTrigger]) := by
  simp only [endChange, Changeover.closed, kind, names]
  rfl

theorem endChange_directed (kind : ch.kind = .directed) (names : ch.new = some new) (serves : ch.serves = some c) :
    endChange (ch.closed old) (s.putChange (ch.closed old)) =
      (s.putSelector { s.selector.changed new s.settings.dwell with pin := some { channel := c, holder := new } },
        [.notice (.changeoverDone .directed ch.old (some new) .complete), .pinGranted c, .askPins,
          .decodeTrigger]) := by
  simp only [endChange, Changeover.closed, kind, names, serves]
  rfl

/-- What follows a changeover that ended, where the send-out cannot be decoded and the old holder is not isolated. -/
theorem changed_quiet (run : s.control.phase = .run) (steady : s.selector.state = .steady)
    (current : s.selector.current = some new) (usable : s.usable new = true) (unknown : s.stock.condition = .unknown)
    (away : (s.holder old).state ≠ .isolating) (nobody : ∀ e, s.pathWaits .pin e = false) :
    Steps 3 false [.askPins, .decodeTrigger, .stockValve old, .reportEnd] s [.reportEnd] s :=
  .cons rfl (handle_askPins_nobody nobody) (.cons rfl (handle_decodeTrigger_unknown run steady current usable unknown)
    (.cons rfl (judgeIsolation_away away) (.refl _ _ _)))

/-- A changeover ended COMPLETE, its notice placed (R45). -/
def State.changeEnded (s : State) (x : Selector) (kind : ChangeKind) (old : Option HolderId) (new : HolderId) : State :=
  (s.putSelector x).notify (.changeoverDone kind old (some new) .complete)

/-- A DECODED changeover ends (R45). -/
theorem decodedEnds_takes (run : s.control.phase = .run) (main : s.valves.main = .reporting)
    (protect : s.valves.protect = []) (queue : s.valves.queue = []) (change : s.selector.change = some ch)
    (other : old ≠ new) (names : ch.new = some new) (step : ch.step = .closingOld)
    (closing : ch.closing = [{ holder := old, st := .waiting .answer }])
    (closed : (s.valve (outletValve old)).position = .closed) (usable : s.usable new = true)
    (unknown : s.stock.condition = .unknown) (away : (s.holder old).state ≠ .isolating) (kind : ch.kind = .decoded)
    (nobody : ∀ e, s.pathWaits .pin e = false) :
    Takes 9 false [.tellRequester .selector (outletValve old) .done, .stockValve old, .reportEnd] s
      (s.changeEnded (s.selector.changed new s.settings.dwell) .decoded ch.old new).idled := by
  have ended := changed_quiet (old := old)
    (s := s.changeEnded (s.selector.changed new s.settings.dwell) .decoded ch.old new)
    run rfl rfl usable unknown away nobody
  have idles := reportEnd_idles (told := false)
    (s := s.changeEnded (s.selector.changed new s.settings.dwell) .decoded ch.old new) main protect queue
  have first := oldClosed_ends (told := false) (l := [.stockValve old, .reportEnd]) main change other names step closing
    closed (endChange_decoded kind names)
  exact first.trans (.cons rfl rfl (ended.trans idles))

/-- A TRANSFER that has its pin asks for its inlet, while the end of a drive is told (R84, R86). -/
theorem proceed_transfer_asks (main : s.valves.main = .reporting) (protect : s.valves.protect = [])
    (queue : s.valves.queue = []) (current : (s.channel c).current = some n) (status : (s.order n).status = .waitPath)
    (kind : (s.order n).order.kind = some .transfer) (dest : (s.order n).order.dest = some h)
    (pin : s.holdsPin c = true) (work : (s.channel c).work = []) (claim : (s.valve (inletValve h)).claim = .channel c)
    (sound : (s.valve (inletValve h)).fault = .noFault) (closed : (s.valve (inletValve h)).position = .closed) :
    proceed c s = ((s.openingBy c n (inletValve h)).enqueue
      { valve := inletValve h, target := .opened, requesters := [.channel c] }, []) := by
  have asked := moveRequest_reporting (r := .channel c) (v := inletValve h) (target := .opened) main protect queue
    (by simp [Requester.holdsUnder, claim]) sound (by simp [closed, limitPosition])
  refine (proceed_transfer current (.inl status) kind pin).trans ((openStep_waiting (askOpens_receive_waiting dest
    (ensureOpen_waiting (workFor_of_nothing work) asked))).trans ?_)
  rw [← leavePath_setWork work]
  rfl

theorem openingBy_granted {v : ValveId} : (s.putChannel c { s.channel c with pathWait := .nothing }).openingBy c n v =
    s.openingBy c n v := by
  simp [State.openingBy, State.putOrder_putChannel]

theorem waitPath_of_pathWaits {k : PathWait} (waits : s.pathWaits k c = true)
    (current : (s.channel c).current = some n) : (s.order n).status = .waitPath := by
  simp only [State.pathWaits, currentSlot_of_current current, Bool.and_eq_true, decide_eq_true_eq] at waits
  exact waits.1

/-- An order that opens its path waits for no pin, and has no other wait for one. -/
theorem pathWaits_openingBy {v : ValveId} (current : (s.channel c).current = some n)
    (nobody : s.pathWaits .pin c.other = false) (e : ChannelId) : (s.openingBy c n v).pathWaits .pin e = false := by
  have opening : ((s.openingBy c n v).order n).status = .opening := by simp [State.openingBy]
  have opens {e : ChannelId} (named : ((s.openingBy c n v).channel e).current = some n) :
      (s.openingBy c n v).pathWaits .pin e = false := by
    simp only [State.pathWaits, currentSlot_of_current named, opening]
    rfl
  rcases eq_or_eq_other c e with rfl | rfl
  · exact opens (by simp [State.openingBy, current])
  · have channel : (s.openingBy c n v).channel c.other = s.channel c.other := by simp [State.openingBy]
    cases named : (s.channel c.other).current with
    | none => simp [State.pathWaits, State.currentSlot, channel, named]
    | some m =>
      have named' : ((s.openingBy c n v).channel c.other).current = some m := by rw [channel, named]
      by_cases same : m = n
      · exact opens (same ▸ named')
      · have order : (s.openingBy c n v).order m = s.order m := by simp [State.openingBy, Ne.symm same]
        simpa only [State.pathWaits, currentSlot_of_current named', currentSlot_of_current named, channel, order]
          using nobody

/-- A channel's asking that its TRANSFER's inlet be opened (R86). -/
def inletOpen (c : ChannelId) (h : HolderId) : QueueEntry :=
  { valve := inletValve h, target := .opened, requesters := [.channel c] }

/-- A TRANSFER that waits for its pin, on its way to the receiving holder: it has its inlet claimed, and CLOSED. -/
structure AwaitsPin (s : State) (c : ChannelId) (n : OrderId) (h : HolderId) : Prop where
  waits : s.pathWaits .pin c = true
  current : (s.channel c).current = some n
  work : (s.channel c).work = []
  kind : (s.order n).order.kind = some .transfer
  dest : (s.order n).order.dest = some h
  claim : (s.valve (inletValve h)).claim = .channel c
  sound : (s.valve (inletValve h)).fault = .noFault
  closed : (s.valve (inletValve h)).position = .closed

/-- A granted pin has the TRANSFER that waits for it ask for its inlet (R84, R86). -/
theorem pinGranted_asks (main : s.valves.main = .reporting) (protect : s.valves.protect = [])
    (queue : s.valves.queue = []) (transfer : AwaitsPin s c n h) (pin : s.holdsPin c = true) :
    Steps 2 told (.pinGranted c :: l) s l ((s.openingBy c n (inletValve h)).enqueue (inletOpen c h)) := by
  have status : (s.order n).status = .waitPath := waitPath_of_pathWaits transfer.waits transfer.current
  have grants : handle (.pinGranted c) s =
      (s.putChannel c { s.channel c with pathWait := .nothing }, [.proceed c]) := if_pos transfer.waits
  have asks : handle (.proceed c) (s.putChannel c { s.channel c with pathWait := .nothing }) =
      (((s.putChannel c { s.channel c with pathWait := .nothing }).openingBy c n (inletValve h)).enqueue
        (inletOpen c h), []) :=
    proceed_transfer_asks main protect queue (by simp [transfer.current]) status transfer.kind transfer.dest pin
      (by simp [transfer.work])
      transfer.claim transfer.sound transfer.closed
  rw [openingBy_granted] at asks
  exact .cons rfl grants (.cons rfl asks (.refl _ _ _))

/-- The words that follow the notice of a DIRECTED changeover that serves a waiting TRANSFER (R45, R52). -/
theorem pinGranted_takes (run : s.control.phase = .run) (main : s.valves.main = .reporting)
    (protect : s.valves.protect = []) (queue : s.valves.queue = []) (refused : s.valves.refused = [])
    (steady : s.selector.state = .steady) (held : s.selector.current = some new) (usable : s.usable new = true)
    (unknown : s.stock.condition = .unknown) (away : (s.holder old).state ≠ .isolating)
    (nobody : s.pathWaits .pin c.other = false) (transfer : AwaitsPin s c n h) (pin : s.holdsPin c = true)
    (shut : (s.valve (inletValve h)).shown ≠ some .opened) :
    Takes 9 false [.pinGranted c, .askPins, .decodeTrigger, .stockValve old, .reportEnd] s
      ((s.openingBy c n (inletValve h)).drive (inletOpen c h).drive) := by
  have usable' : ((s.openingBy c n (inletValve h)).enqueue (inletOpen c h)).usable new = true := by
    have same : ∀ e, ((s.openingBy c n (inletValve h)).channel e).reported = (s.channel e).reported := fun e => by
      rcases eq_or_eq_other c e with rfl | rfl <;> simp [State.openingBy]
    exact (usable_congr (s := s) (t := (s.openingBy c n (inletValve h)).enqueue (inletOpen c h)) rfl rfl rfl same).trans
      usable
  have asks := pinGranted_asks (told := false) (l := [.askPins, .decodeTrigger, .stockValve old, .reportEnd])
    main protect queue transfer pin
  have quiet := changed_quiet (old := old) (s := (s.openingBy c n (inletValve h)).enqueue (inletOpen c h))
    run steady held usable' unknown away (pathWaits_openingBy transfer.current nobody)
  have drives := reportEnd_drives (told := false) (s := s.openingBy c n (inletValve h)) (e := inletOpen c h)
    main protect queue refused shut
  exact asks.trans (quiet.trans drives)

/-- The selector at the end of a DIRECTED changeover (R52). -/
def Selector.changedFor (x : Selector) (new : HolderId) (dwell : Nat) (c : ChannelId) : Selector :=
  { x.changed new dwell with pin := some { channel := c, holder := new } }

/-- A DIRECTED changeover ends: the TRANSFER that it serves has its pin, and opens its path (R52, R84, R86). -/
theorem directedEnds_takes (run : s.control.phase = .run) (main : s.valves.main = .reporting)
    (protect : s.valves.protect = []) (queue : s.valves.queue = []) (refused : s.valves.refused = [])
    (change : s.selector.change = some ch) (other : old ≠ new) (names : ch.new = some new)
    (step : ch.step = .closingOld) (closing : ch.closing = [{ holder := old, st := .waiting .answer }])
    (closed : (s.valve (outletValve old)).position = .closed) (usable : s.usable new = true)
    (unknown : s.stock.condition = .unknown) (away : (s.holder old).state ≠ .isolating) (kind : ch.kind = .directed)
    (serves : ch.serves = some c) (nobody : s.pathWaits .pin c.other = false) (transfer : AwaitsPin s c n h)
    (shut : (s.valve (inletValve h)).shown ≠ some .opened) :
    Takes 13 false [.tellRequester .selector (outletValve old) .done, .stockValve old, .reportEnd] s
      (((s.changeEnded (s.selector.changedFor new s.settings.dwell c) .directed ch.old new).openingBy c n
        (inletValve h)).drive (inletOpen c h).drive) := by
  have first := oldClosed_ends (told := false) (l := [.stockValve old, .reportEnd]) main change other names step closing
    closed (endChange_directed kind names serves)
  have goesOn := pinGranted_takes (old := old)
    (s := s.changeEnded (s.selector.changedFor new s.settings.dwell c) .directed ch.old new) run main protect queue
    refused rfl rfl usable unknown away nobody ⟨transfer.waits, transfer.current, transfer.work, transfer.kind,
      transfer.dest, transfer.claim, transfer.sound, transfer.closed⟩ (decide_eq_true rfl) shut
  exact first.trans (.cons rfl rfl goesOn)

end

end

end Sys2Proof.Machine
end

section
/-!
The events of a changeover (R42, R44, R45, R52).
-/

namespace Sys2Proof.Machine

/-! ## The events of a changeover (R42, R44, R45, R52) -/

section
variable {s : State} {old new : HolderId} {ch : Changeover} {left : Nat} {c : ChannelId} {n : OrderId} {h : HolderId}

/-- The state in which the selector is told that the old outlet is CLOSED. -/
def State.oldClosed (s : State) (old : HolderId) : State :=
  s.reporting (outletValve old) ((s.valve (outletValve old)).made .closed)

/-- A changeover that drives its one old outlet closed, the new holder usable, the send-out not decodable (R45). -/
structure Closing (s : State) (ch : Changeover) (old new : HolderId) : Prop where
  run : s.control.phase = .run
  protect : s.valves.protect = []
  queue : s.valves.queue = []
  change : s.selector.change = some ch
  other : old ≠ new
  names : ch.new = some new
  step : ch.step = .closingOld
  closing : ch.closing = [{ holder := old, st := .waiting .answer }]
  usable : s.usable new = true
  unknown : s.stock.condition = .unknown
  away : (s.holder old).state ≠ .isolating
  claim : (s.valve (outletValve old)).claim = .selector

theorem valve_oldClosed_inletValve : (s.oldClosed old).valve (inletValve h) = s.valve (inletValve h) := by
  have apart : ∀ a b, inletValve a ≠ outletValve b := by decide
  exact valve_reporting_other (apart h old)

/-- An order that opens its path leaves as many TRANSFERs to report (R82). -/
theorem unreported_openingBy {v : ValveId} {e : ChannelId} (status : (s.order n).status = .waitPath) :
    (s.openingBy c n v).unreported e = s.unreported e := by
  have channel : ((s.openingBy c n v).channel e).current = (s.channel e).current ∧
      ((s.openingBy c n v).channel e).reported = (s.channel e).reported := by
    rcases eq_or_eq_other c e with rfl | rfl <;> simp [State.openingBy]
  refine unreported_of_alike channel.1 channel.2 fun m => ?_
  by_cases same : n = m
  · subst same
    simp [State.openingBy, status, OrderStatus.running]
  · simp [State.openingBy, same]

/-- A drive begun, of a valve whose record is known. -/
theorem drive_eq {d : Drive} {x : Valve} (valve : s.valve d.valve = x) :
    let t := s.putValve d.valve { x with position := movingTo d.target }
    s.drive d = t.putValves { t.valves with main := .driving d s.settings.travel[d.valve] } := by
  subst valve
  rfl

theorem usable_oldClosed : (s.oldClosed old).usable new = s.usable new := usable_reporting (fault_made _ _)

section
variable (rest : s.atRest) (closes : Closing s ch old new)
variable (main : s.valves.main = .driving (selectorMove (outletValve old) .closed).drive left)
include rest closes main

theorem settle_decodedEnds (kind : ch.kind = .decoded) (nobody : ∀ e, s.pathWaits .pin e = false) :
    settle (switchMade (outletValve old) .closed s) = ((s.oldClosed old).changeEnded
      (s.selector.changed new s.settings.dwell) .decoded ch.old new).idled := by
  have words := decodedEnds_takes (s := s.oldClosed old) closes.run rfl closes.protect closes.queue closes.change
    closes.other closes.names closes.step closes.closing (congrArg Valve.position valve_reporting)
    (usable_oldClosed.trans closes.usable) closes.unknown closes.away kind nobody
  rw [switchMade_selector closes.run main closes.claim]
  exact words.ends (by omega) rest.1 (List.cons_ne_nil _ _) (reported_of_channels rest rfl)

theorem settle_directedEnds (kind : ch.kind = .directed) (serves : ch.serves = some c)
    (refused : s.valves.refused = []) (nobody : s.pathWaits .pin c.other = false) (transfer : AwaitsPin s c n h)
    (shut : (s.valve (inletValve h)).shown ≠ some .opened) : settle (switchMade (outletValve old) .closed s) =
      ((((s.oldClosed old).changeEnded (s.selector.changedFor new s.settings.dwell c) .directed ch.old new).openingBy
        c n (inletValve h)).drive (inletOpen c h).drive) := by
  have inlet : (s.oldClosed old).valve (inletValve h) = s.valve (inletValve h) := valve_oldClosed_inletValve
  have words := directedEnds_takes (s := s.oldClosed old) closes.run rfl closes.protect closes.queue refused
    closes.change closes.other closes.names closes.step closes.closing (congrArg Valve.position valve_reporting)
    (usable_oldClosed.trans closes.usable) closes.unknown closes.away kind serves nobody
    ⟨transfer.waits, transfer.current, transfer.work, transfer.kind, transfer.dest, inlet ▸ transfer.claim,
      inlet ▸ transfer.sound, inlet ▸ transfer.closed⟩ (inlet ▸ shut)
  rw [switchMade_selector closes.run main closes.claim]
  refine words.ends (by omega) rest.1 (List.cons_ne_nil _ _) ?_
  have status : (s.order n).status = .waitPath := waitPath_of_pathWaits transfer.waits transfer.current
  have alike (e : ChannelId) := unreported_openingBy (c := c) (e := e) (v := inletValve h)
    (s := (s.oldClosed old).changeEnded (s.selector.changedFor new s.settings.dwell c) .directed ch.old new) status
  exact ⟨(alike .a).trans rest.2.1, (alike .b).trans rest.2.2⟩

end

end

/-- Settles O31. -/
theorem changeoversBeginAndEnd : Obligations.ChangeoversBeginAndEnd := by
  unfold Obligations.ChangeoversBeginAndEnd
  intro old new s rest run current other protect queue nobody room drive held out
  refine ⟨fun steady pin due known decoded holds closed away main => ?_,
    fun ch left change names step closing usable holds oldHolds opened away main => ?_,
    fun ch left change names was step closing usable unknown away holds main => ⟨fun kind unasked => ?_,
      fun c n h kind serves waits unasked named work transfer dest claim sound closed shut => ?_⟩⟩
  · obtain ⟨claim, sound⟩ := holds
    have settled := settle_changeBegun rest run current other ⟨main, protect, queue⟩ nobody steady pin known decoded
      claim sound closed away
    refine ⟨_, (congrArg event (dwellExpired_due run due)).trans (congrArg Host.Outcome.next settled), rfl, rfl, ?_,
      rfl, rfl⟩
    exact (notices_notify (s.putSelector (s.selector.begun old new .answer)) _).trans (if_pos room)
  · obtain ⟨claim, sound⟩ := holds
    obtain ⟨oldClaim, oldSound⟩ := oldHolds
    have settled := settle_newOpened rest run other protect queue nobody change names step closing usable claim sound
      oldClaim oldSound opened away main
    have unmoved : (s.putValve (outletValve new) ((s.valve (outletValve new)).made .opened)).valve (outletValve old) =
        s.valve (outletValve old) := valve_reporting_other (s := s) (outletValve_ne other)
    exact congrArg Host.Outcome.next (settled.trans (congrArg (fun t : State => t.putChange (ch.closes old))
      (drive_eq (d := (selectorMove (outletValve old) .closed).drive) unmoved)))
  · have closes : Closing s ch old new := ⟨run, protect, queue, change, other, names, step, closing, usable, unknown,
      away, holds.1⟩
    have settled := settle_decodedEnds rest closes main kind unasked
    rw [was] at settled
    exact congrArg Host.Outcome.next settled
  · have closes : Closing s ch old new := ⟨run, protect, queue, change, other, names, step, closing, usable, unknown,
      away, holds.1⟩
    have transfer : AwaitsPin s c n h := ⟨waits, named, work, transfer, dest, claim, sound, closed⟩
    have settled := settle_directedEnds rest closes main kind serves nobody unasked transfer shut
    rw [was] at settled
    exact congrArg Host.Outcome.next (settled.trans (drive_eq (d := (inletOpen c h).drive) valve_oldClosed_inletValve))

end Sys2Proof.Machine
end
